-- ==== Sys2Proof/Word.lean ====
section
/-! DEFINITION. The word types the model uses. -/

namespace Sys2Proof

/-- One byte. -/
abbrev Byte := BitVec 8

/-- One 16-bit halfword: a band sample, a vector lane. -/
abbrev Half := BitVec 16

/-- One 32-bit word: a scalar register, a link word. -/
abbrev Word := BitVec 32

/-- One 64-bit value: a position, a time, a Catalogue number. -/
abbrev Dword := BitVec 64

end Sys2Proof
end

