-- ==== Sys2Proof/Syntax.lean ====
section
/-! DEFINITION. The commands of the block: one constructor per row of the operation table (opcode_table.json), in
the table's order. A command names what happens at the tile's boundary or inside it: a request that arrives, an
edge on a pin, an instant that comes, an instruction that an engine executes.

Every command but an engine's instruction carries `t`, the instant at which it happens, in nanoseconds (log entry
1). Measured and received data arrive as operands. -/

namespace Sys2Proof

/-- The two ports of the Burgeuz link. -/
inductive Port where
  | a | b
  deriving DecidableEq, Repr

/-- The two two-wire ports (16_local_two_wire_ports.md). -/
inductive TwPort where
  | i2ca | i2cb
  deriving DecidableEq, Repr

/-- The two monitor channels (R394). -/
inductive Chan where
  | a | b
  deriving DecidableEq, Repr

/-- The five PLLs, in the order of R485. -/
inductive Pll where
  | a | b | c | l | x
  deriving DecidableEq, Repr

/-- Where a Catalogue request came from and where its answer goes (R269, R272): VC0 on a port, with the source and
destination addresses, the tag and the word W2 of its frame, or the I2CB mailbox. -/
inductive Path where
  | vc0 (p : Port)
  | i2cb
  deriving DecidableEq, Repr

/-- The sender of a Catalogue request. `dest` is the address the request was sent to (R271), `word` its W2, or the mailbox's SEG_OFFSET (R286). -/
structure Requester where
  path : Path
  source : Nat
  dest : Nat
  tag : Nat
  word : Nat
  deriving DecidableEq, Repr

/-- What an accepted transition at the encoder lands was: one input changed, or both within 40 ns (R50, R52).
`lead` tells whether A leads B in it. -/
inductive EncEdge where
  | single (aLeads : Bool)
  | both
  deriving DecidableEq, Repr

/-- A column ADC that failed with its selected comparator and passed with the other one, with the segments chosen
for it (R514). -/
structure AdcSwitch where
  column : Nat
  adc : Nat
  segments : Nat
  deriving DecidableEq, Repr

/-- What SELFTEST found (R514, R549): the first failing test, the ADCs to switch, the physical columns of the
readout chains that fail, and the worst residual DNL of each hall. -/
structure SelfTestReport where
  failed : Option Nat
  switched : List AdcSwitch
  failedChains : List Nat
  dnl : List Nat
  deriving DecidableEq, Repr

/-- What a self-calibration of a monitor converter measured (R406): the residual spur in 0.1 dBc and the new 48-byte
block of slice factors. -/
structure MonCal where
  spur : Nat
  factors : List Byte
  deriving DecidableEq, Repr

/-- A window unit of the monitor: an accumulator or a min-max tracker (R408, R415). -/
inductive MonUnit where
  | acc (i : Nat)
  | mm (i : Nat)
  deriving DecidableEq, Repr

/-- What the header of a camera packet came to: correct, corrected in one bit, in error, or lost to a start-of-transmission
error (R371). -/
inductive CsiHeader where
  | clean | corrected | errors | sot
  deriving DecidableEq, Repr

/-- What the power path measures (R495, R508): VIN in mV, the input and VSTB currents in mA and the tile's power in mW as means over 1 ms, the cell's voltage in mV and
its current in mA, positive into the cell. -/
structure PowerReading where
  vin : Nat
  iin : Nat
  vstb : Nat
  tile : Nat
  cellMv : Nat
  cellMa : Int
  deriving DecidableEq, Repr

/-- The demand on the input (R489): VIN in mV, the power in mW of the tile, of VSTB and of charging, and the power that keeps VIN at PWR_VIN_REG
while it lies below. -/
structure PowerDemand where
  vin : Nat
  tile : Nat
  vstb : Nat
  charge : Nat
  reg : Nat
  deriving DecidableEq, Repr

/-- A frame as it arrives (R329, R343): whether it started with K28.1, its bytes from W0 to the trailer, the places of
bytes marked as code errors, the picosecond of its reference point within the ns of its command (R357), and the time in
ps that a TIME token spent in the tile when it is forwarded (R357). -/
structure RxFrame where
  token : Bool
  bytes : List Byte
  marked : List Nat
  refPs : Nat
  residence : Nat
  deriving DecidableEq, Repr

/-- Every number below its bound. -/
def allBelow (l : List (Nat × Nat)) : Bool := l.all (fun p => Nat.blt p.1 p.2)

/-- Is an AWAIT source and index assigned, with a sense that the source takes (R430, R432)? -/
def awaitExists (sense : Bool) (src idx : Nat) : Bool :=
  match src with
  | 0 => Nat.blt idx 64
  | 1 => sense && Nat.beq idx 0
  | 2 => Nat.blt idx 7 && (sense || !(Nat.beq idx 4 || Nat.beq idx 5))
  | 3 => Nat.blt idx 2
  | _ => false

/-- The commands of the tile. -/
inductive Instr where
  | vinQualified (t mV : Nat)
  | bootVerify (t : Nat)
  | selftestDone (t : Nat) (r : SelfTestReport)
  | calloadDone (t : Nat) (calA calB : MonCal)
  | stateTimeout (t : Nat)
  | coreWatchdogExpiry (t pc : Nat)
  | lockstepMismatch (t pc : Nat)
  | coreMemoryError (t : Nat) (uncorrectable : Option Nat)
  | overtempFault (t : Nat) (temp : Int)
  | start (t : Nat) (r : Requester)
  | stop (t : Nat) (r : Requester)
  | stopComplete (t : Nat)
  | rest (t : Nat) (r : Requester)
  | reset (t : Nat) (r : Requester)
  | restEntered (t : Nat)
  | restDrainTimeout (t : Nat)
  | wakeElectricalIdleExit (t : Nat) (p : Port)
  | wakePinEdge (t pin : Nat) (rising : Bool)
  | restAddressMatch (t : Nat) (p : TwPort) (addr : Nat)
  | stretchExpired (t : Nat) (p : TwPort)
  | wakeAlertN (t : Nat)
  | restTimerExpiry (t : Nat)
  | wakeComplete (t : Nat)
  | encoderEdge (t : Nat) (e : EncEdge)
  | ltEncFault (t : Nat)
  | ltPosRestored (t : Nat)
  | encZMark (t : Nat)
  | ltPosMasterWrite (t : Nat) (r : Requester) (v : Nat)
  | positionTokenSend (t : Nat)
  | positionToken (t : Nat) (p : Port) (f : RxFrame)
  | ltPosHoldover (t : Nat)
  | ltPosLost (t : Nat)
  | lineTrigger (t : Nat)
  | heldTriggerFire (t : Nat)
  | exposureStart (t : Nat)
  | shortExposureStart (t : Nat)
  | exposureEnd (t : Nat)
  | rowCodeReady (t slot : Nat) (codes : List (BitVec 12))
  | lineClose (t : Nat)
  | pxImageTemp (t : Nat) (temp : Int)
  | pxImageTempClear (t : Nat) (temp : Int)
  | strobeWindowOpen (t x : Nat)
  | strobeWindowClose (t x : Nat)
  | accessionSwitchReady (t : Nat)
  | kernelLoadDone (t e : Nat)
  | taskStart (t e : Nat)
  | hallClockStop (t h : Nat)
  | hallClockReady (t h : Nat)
  | sysNop (e : Nat)
  | sysYield (e : Nat)
  | yieldDrainDone (t e : Nat)
  | saluAdd (e rd ra rb : Nat)
  | saluSub (e rd ra rb : Nat)
  | saluAnd (e rd ra rb : Nat)
  | saluOr (e rd ra rb : Nat)
  | saluXor (e rd ra rb : Nat)
  | saluSll (e rd ra rb : Nat)
  | saluSrl (e rd ra rb : Nat)
  | saluSra (e rd ra rb : Nat)
  | saluMul (e rd ra rb : Nat)
  | saluMulhs (e rd ra rb : Nat)
  | saluMulhu (e rd ra rb : Nat)
  | saluSlt (e rd ra rb : Nat)
  | saluSltu (e rd ra rb : Nat)
  | saluMin (e rd ra rb : Nat)
  | saluMax (e rd ra rb : Nat)
  | saluMinu (e rd ra rb : Nat)
  | saluMaxu (e rd ra rb : Nat)
  | addi (e rd ra : Nat) (imm : BitVec 16)
  | andi (e rd ra : Nat) (imm : BitVec 16)
  | ori (e rd ra : Nat) (imm : BitVec 16)
  | xori (e rd ra : Nat) (imm : BitVec 16)
  | lui (e rd : Nat) (imm : BitVec 16)
  | slti (e rd ra : Nat) (imm : BitVec 16)
  | shiSll (e rd ra k : Nat)
  | shiSrl (e rd ra k : Nat)
  | shiSra (e rd ra k : Nat)
  | ldw (e rd ra : Nat) (imm : BitVec 16)
  | stw (e rd ra : Nat) (imm : BitVec 16)
  | ldh (e rd ra : Nat) (imm : BitVec 16)
  | sth (e rd ra : Nat) (imm : BitVec 16)
  | sget (e rd sel : Nat)
  | jal (e rd : Nat) (imm : BitVec 16)
  | jr (e ra : Nat)
  | beq (e rd ra : Nat) (imm : BitVec 16)
  | bne (e rd ra : Nat) (imm : BitVec 16)
  | blt (e rd ra : Nat) (imm : BitVec 16)
  | bge (e rd ra : Nat) (imm : BitVec 16)
  | bltu (e rd ra : Nat) (imm : BitVec 16)
  | bgeu (e rd ra : Nat) (imm : BitVec 16)
  | bany (e p : Nat) (imm : BitVec 16)
  | bnone (e p : Nat) (imm : BitVec 16)
  | loop (e ra b : Nat)
  | vadd (e rd ra rb pg : Nat)
  | vsub (e rd ra rb pg : Nat)
  | vadds (e rd ra rb pg : Nat)
  | vsubs (e rd ra rb pg : Nat)
  | vaddu (e rd ra rb pg : Nat)
  | vsubu (e rd ra rb pg : Nat)
  | vabsdu (e rd ra rb pg : Nat)
  | vabsds (e rd ra rb pg : Nat)
  | vmin (e rd ra rb pg : Nat)
  | vmax (e rd ra rb pg : Nat)
  | vminu (e rd ra rb pg : Nat)
  | vmaxu (e rd ra rb pg : Nat)
  | vand (e rd ra rb pg : Nat)
  | vor (e rd ra rb pg : Nat)
  | vxor (e rd ra rb pg : Nat)
  | vsel (e rd ra rb pg : Nat)
  | vsll (e rd ra rb pg : Nat)
  | vsrl (e rd ra rb pg : Nat)
  | vsra (e rd ra rb pg : Nat)
  | vsrar (e rd ra rb pg : Nat)
  | vavgu (e rd ra rb pg : Nat)
  | vcmp (e rd ra rb pg cmp : Nat)
  | vshiSll (e rd ra pg k : Nat)
  | vshiSrl (e rd ra pg k : Nat)
  | vshiSra (e rd ra pg k : Nat)
  | vshiSrar (e rd ra pg k : Nat)
  | vsplat (e rd ra pg : Nat)
  | vgetl (e rd ra lane : Nat) (sext : Bool)
  | vsetl (e rd ra lane : Nat)
  | vslide (e rd ra rb pg k : Nat)
  | vredSum (e rd ra pg : Nat)
  | vredSumu (e rd ra pg : Nat)
  | vredMin (e rd ra pg : Nat)
  | vredMax (e rd ra pg : Nat)
  | vredMinu (e rd ra pg : Nat)
  | vredMaxu (e rd ra pg : Nat)
  | predAnd (e rd ra rb : Nat)
  | predOr (e rd ra rb : Nat)
  | predXor (e rd ra rb : Nat)
  | predAndn (e rd ra rb : Nat)
  | predNot (e rd ra : Nat)
  | predFroms (e rd ra : Nat)
  | predTos (e rd ra : Nat)
  | predCnt (e rd ra : Nat)
  | vmacMac (e rd ra rb pg : Nat)
  | vmacMacu (e rd ra rb pg : Nat)
  | vmacMacsu (e rd ra rb pg : Nat)
  | vmacMsub (e rd ra rb pg : Nat)
  | vmacMul (e rd ra rb pg : Nat)
  | vmacMulu (e rd ra rb pg : Nat)
  | vmacSqd (e rd ra rb pg : Nat)
  | vmacAadd (e rd ra rb pg : Nat)
  | vmacAaddu (e rd ra rb pg : Nat)
  | vmacAclr (e rd pg : Nat)
  | vmacsSigned (e rd ra rb pg : Nat)
  | vmacsUnsigned (e rd ra rb pg : Nat)
  | vnarrowSigned (e rd ra pg k : Nat)
  | vnarrowUnsigned (e rd ra pg k : Nat)
  | ared (e rd ra pg k : Nat)
  | vlut (e rd ra rb pg k : Nat)
  | vld (e rd ra pg : Nat) (off : BitVec 8)
  | vst (e rd ra pg : Nat) (off : BitVec 8)
  | vldp (e rd ra pg : Nat)
  | vstp (e rd ra pg : Nat)
  | popLine (e rd pg : Nat)
  | lineDataArrival (t e n : Nat)
  | popRef (e rd pg : Nat)
  | push (e ra : Nat) (full : Bool)
  | pushs (e ra : Nat) (full : Bool)
  | outSpaceFreed (t e : Nat)
  | fetch (e rd ra rb tag : Nat) (table : Bool)
  | fetchTagComplete (t e tag : Nat) (bad : List Nat)
  | prefetchIssue (t e : Nat)
  | fetchTableEntryFreed (t : Nat)
  | waittag (e tag : Nat)
  | event (t e line ra : Nat)
  | budgetCut (t e : Nat)
  | lineRetire (t : Nat)
  | lineAgeRetire (t : Nat)
  | kernelBlobWrite (t : Nat) (r : Requester) (slot : Nat) (bytes : List Byte)
  | vaSlotClear (t : Nat) (r : Requester) (v : Nat)
  | slotClearDone (t : Nat)
  | patrolScrubPass (t ce : Nat) (bad : List Nat)
  | bulkWrite (t : Nat) (p : Port) (f : RxFrame)
  | bulkWriteAck (t : Nat)
  | bulkRead (t : Nat) (p : Port) (f : RxFrame)
  | bulkData (t k : Nat) (bad : List Nat)
  | catFolioSeal (t : Nat) (r : Requester) (v : Nat)
  | folSealed (t : Nat)
  | catFolioUnseal (t : Nat) (r : Requester) (v : Nat)
  | catFolioCopy (t : Nat) (r : Requester) (v : Nat)
  | accession (t : Nat) (p : Port) (f : RxFrame)
  | beacon (t : Nat)
  | folQuoteNonce (t : Nat) (r : Requester) (nonce : List Byte)
  | quoteSigned (t : Nat)
  | catFolioSaveResume (t : Nat) (r : Requester) (v : Nat)
  | folResumeSaved (t : Nat)
  | catFolioClearResume (t : Nat) (r : Requester) (v : Nat)
  | resumeDigestDone (t : Nat)
  | get (t : Nat) (r : Requester) (payload : List Byte)
  | set (t : Nat) (r : Requester) (payload : List Byte)
  | getSeg (t : Nat) (r : Requester) (payload : List Byte)
  | setSeg (t : Nat) (r : Requester) (payload : List Byte)
  | list (t : Nat) (r : Requester) (payload : List Byte)
  | catSegAbandoned (t : Nat)
  | longOperationDone (t : Nat)
  | registerWrite (t : Nat) (r : Requester) (id : Nat) (value : List Byte)
  | execute (t : Nat)
  | mailboxDone (t : Nat)
  | i2cbWriteTransfer (t addr : Nat) (bytes : List Byte)
  | i2cbReadTransfer (t addr n : Nat)
  | lnkLockLost (t : Nat) (p : Port) (lane errors : Nat)
  | skpSend (t : Nat) (p : Port)
  | lnkElasticError (t : Nat) (p : Port) (lane : Nat)
  | lnkDeskewError (t : Nat) (p : Port)
  | recoveryTimeout (t : Nat) (p : Port)
  | retrainIntervalExpiry (t : Nat) (p : Port)
  | ts1 (t : Nat) (p : Port) (lane : Nat) (l : List Byte)
  | ts2 (t : Nat) (p : Port) (lane : Nat) (l : List Byte)
  | rateChangeDone (t : Nat) (p : Port)
  | tapRequestResend (t : Nat) (p : Port) (lane : Nat)
  | trainingStepDone (t : Nat) (p : Port) (lane w h : Nat)
  | loopEcho (t : Nat) (p : Port) (l : List Byte) (trip : Nat)
  | hopMeasureDone (t : Nat) (p : Port)
  | hopPeriodExpiry (t : Nat) (p : Port)
  | portUp (t : Nat) (p : Port)
  | eyeMeasureDone (t : Nat) (p : Port) (lane w h : Nat)
  | eyePeriodExpiry (t : Nat) (p : Port)
  | lnkEyeMeasure (t : Nat) (r : Requester) (v : Nat)
  | lnkLaneTest (t : Nat) (r : Requester) (p : Port) (lane v : Nat)
  | injectionPeriodic (t : Nat) (p : Port) (lane : Nat)
  | lnkPrbsResync (t : Nat) (p : Port) (lane errors : Nat)
  | lnkRetrainA (t : Nat) (r : Requester) (v : Nat)
  | lnkRetrainB (t : Nat) (r : Requester) (v : Nat)
  | lnkWakeA (t : Nat) (r : Requester) (v : Nat)
  | lnkWakeB (t : Nat) (r : Requester) (v : Nat)
  | wakeIdleEnd (t : Nat) (p : Port)
  | pass (t : Nat) (p : Port) (l : List Byte)
  | passEnd (t : Nat) (p : Port) (lane : Nat) (l : List Byte)
  | frameReceive (t : Nat) (p : Port) (f : RxFrame)
  | frameAbort (t : Nat) (p : Port) (bytes : List Byte)
  | creditInit (t : Nat) (p : Port) (l : List Byte) (marked : Bool)
  | creditUpdate (t : Nat) (p : Port) (l : List Byte) (marked : Bool)
  | creditInitResend (t : Nat) (p : Port)
  | creditUpdateSend (t : Nat) (p : Port)
  | routeWaitTimeout (t : Nat)
  | lnkRingBreak (t : Nat) (p : Port)
  | lnkRingRestored (t : Nat)
  | offer (t : Nat) (p : Port) (f : RxFrame)
  | enumOnwardWaitEnd (t : Nat)
  | commit (t : Nat) (p : Port) (f : RxFrame)
  | time (t : Nat) (p : Port) (f : RxFrame)
  | timeTokenSend (t : Nat)
  | lnkTimeHoldover (t : Nat)
  | lnkTimeLost (t : Nat)
  | lnkTimeMasterWrite (t : Nat) (r : Requester) (v : Nat)
  | frameStart (t p vc number : Nat) (hdr : CsiHeader)
  | frameEnd (t p vc number : Nat) (hdr : CsiHeader)
  | longPacket (t p vc dt : Nat) (hdr : CsiHeader) (crcOk : Bool) (payload : List Byte)
  | frameTimeout (t c : Nat)
  | gaCtxApply (t : Nat) (r : Requester) (c v : Nat)
  | viewItemDone (t c kind : Nat)
  | galleryClockStop (t : Nat)
  | referenceReady (t : Nat)
  | amRefBuffer (t : Nat) (r : Requester) (v : Nat)
  | amSyncReset (t : Nat) (r : Requester) (v : Nat)
  | amChannelConfigWrite (t : Nat) (r : Requester) (id : Nat) (value : List Byte)
  | channelSettled (t : Nat) (c : Chan)
  | amCalStart (t : Nat) (r : Requester) (v : Nat)
  | amCalVerdict (t : Nat) (c : Chan) (m : MonCal)
  | bgFactorUpdate (t : Nat) (c : Chan) (m : MonCal)
  | amSpurLow (t : Nat) (c : Chan)
  | accWindowOpen (t : Nat) (u : MonUnit)
  | accResultLatch (t : Nat) (u : MonUnit) (slice : Nat) (codes : List (BitVec 12))
  | accPinTrigger (t pin : Nat)
  | amAccCapture (t : Nat) (r : Requester) (k v : Nat)
  | amMmClear (t : Nat) (r : Requester) (k v : Nat)
  | gzBlockDone (t : Nat) (c : Chan) (slice : Nat) (codes : List (BitVec 12))
  | bankVioSample (t : Nat) (codes : List Nat)
  | pePinCfg (t : Nat) (r : Requester) (bytes : List Byte)
  | ctlNop (e tick : Nat)
  | ctlTake (e tick : Nat)
  | ctlAdd (e tick : Nat)
  | ctlSub (e tick : Nat)
  | ctlXch (e tick : Nat)
  | ldk (e tick dst k : Nat)
  | ldi (e tick : Nat) (ct : Bool) (v : Nat)
  | move (e tick dst src op : Nat) (pins : BitVec 8)
  | pinLevels (e tick v : Nat)
  | pinSet (e tick v : Nat)
  | pinClear (e tick v : Nat)
  | pinDirections (e tick v : Nat)
  | shout (e tick dst n : Nat)
  | shin (e tick src n : Nat) (pins : BitVec 8)
  | fill (e tick : Nat) (ifReady block : Bool)
  | send (e tick : Nat) (ifReady block : Bool)
  | await (e tick : Nat) (sense : Bool) (src idx : Nat) (level : Bool)
  | go (e tick cond target : Nat) (level : Bool)
  | pause (e tick n : Nat)
  | peStallRelease (t e : Nat) (level : Bool)
  | peProgram (t : Nat) (r : Requester) (e : Nat) (bytes : List Byte)
  | pePatch (t : Nat) (r : Requester) (e v : Nat)
  | peInject (t : Nat) (r : Requester) (e v : Nat)
  | peEnable (t : Nat) (r : Requester) (v : Nat)
  | peRestart (t : Nat) (r : Requester) (v : Nat)
  | peTx (t : Nat) (r : Requester) (e v : Nat)
  | peRx (t : Nat) (r : Requester) (e : Nat)
  | twAXfer (t : Nat) (r : Requester) (value : List Byte)
  | twXferDone (t : Nat) (nack : Option Nat) (data : List Byte)
  | twArbLost (t byteIndex : Nat)
  | twBusErr (t byteIndex : Nat) (start : Bool) (data : List Byte)
  | twControllerTimeout (t byteIndex : Nat) (data : List Byte)
  | twBusHang (t : Nat)
  | twARecover (t : Nat) (r : Requester) (v : Nat)
  | twRecoveryDone (t : Nat) (sdaHigh : Bool)
  | twRsInAck (t : Nat) (p : TwPort)
  | twTargetTimeout (t : Nat) (p : TwPort)
  | i2caTargetWrite (t addr : Nat) (bytes : List Byte)
  | i2caTargetRead (t addr n : Nat)
  | alertResponse (t : Nat) (p : TwPort) (lost : Bool)
  | twAlertSet (t : Nat) (r : Requester) (v : Nat)
  | twAlertClear (t : Nat) (r : Requester) (v : Nat)
  | twAWindowOut (t : Nat) (r : Requester) (bytes : List Byte)
  | clkRefFallback (t : Nat)
  | clkXtalFail (t : Nat)
  | clkLockLost (t : Nat) (p : Pll)
  | relockAttemptFail (t : Nat) (p : Pll)
  | clkRelocked (t : Nat) (p : Pll)
  | rampInterval (t : Nat)
  | excursionDone (t : Nat)
  | caseTempSample (t : Nat) (temp : Int)
  | clkRefSel (t : Nat) (r : Requester) (v : Nat)
  | clkBandTable (t : Nat) (r : Requester) (p : Pll) (bytes : List Byte)
  | clkOutCfg (t : Nat) (r : Requester) (n v : Nat)
  | clkXVco (t : Nat) (r : Requester) (v : Nat)
  | pwrHandover (t mV : Nat)
  | cellReached (t : Nat)
  | pwrVinRestored (t mV : Nat)
  | bounceHoldEnd (t : Nat)
  | holdupTimeExpiry (t : Nat)
  | pwrCellCutoff (t cellMv : Nat)
  | shutdownComplete (t : Nat)
  | powerDemandExcess (t : Nat) (d : PowerDemand)
  | supplementPhase (t : Nat)
  | pwrOverload (t mW : Nat)
  | holdupEnergyUpdate (t : Nat) (r : PowerReading)
  | prechargeEnd (t : Nat)
  | chargeVoltageLimit (t : Nat)
  | pwrChgDone (t : Nat)
  | rechargeStart (t cellMv : Nat)
  | pwrChgTimer (t : Nat)
  | ntcSample (t : Nat) (ohm : Option Nat) (cellMv : Nat)
  | pwrChgRestart (t : Nat) (r : Requester) (v : Nat)
  | pwrShip (t : Nat) (r : Requester) (v : Nat)
  | wakeNHold (t : Nat)
  | dark (t : Nat) (r : Requester)
  | flat (t : Nat) (r : Requester)
  | calRunTrigger (t : Nat)
  | calRunResult (t : Nat)
  | calCommit (t : Nat) (r : Requester) (v : Nat)
  | calCommitted (t : Nat)
  | secFwImage (t : Nat) (r : Requester) (bytes : List Byte)
  | secFwActivateTarget (t : Nat) (r : Requester)
  | secFwActivateRunning (t : Nat) (r : Requester)
  | secSvnCommit (t : Nat) (r : Requester) (v : Nat)
  | secOwnerEnrol (t : Nat) (r : Requester) (bytes : List Byte)
  | secOwnerEnrolled (t : Nat)
  | secAuthChallenge (t : Nat) (r : Requester)
  | secAuthResponse (t : Nat) (r : Requester) (sig : List Byte)
  | secAuthRevoke (t : Nat) (r : Requester) (v : Nat)
  | authGrantExpiry (t : Nat)
  | authChallengeExpiry (t : Nat)
  | authLockoutEnd (t : Nat)
  | eventHoldoffExpiry (t code : Nat)
  | evtLogClear (t : Nat) (r : Requester) (v : Nat)
  | evtFaultHistoryClear (t : Nat) (r : Requester) (v : Nat)
  | onHoursTick (t : Nat)
  | runHoursTick (t : Nat)
  | deskewAcquired (t : Nat) (p : Port)
  | loopSet (t : Nat) (p : Port) (l : List Byte) (turnaround : Nat)
  | prbsSync (t : Nat) (p : Port) (lane : Nat)
  | frameBoundary (t : Nat) (p : Port)
  | i2caBusFree (t : Nat)
  | stealWaitExpiry (t : Nat)
  | amClip (t : Nat) (c : Chan)
  | amAccOverflow (t k slice : Nat) (codes : List (BitVec 12))
  | shipEndVin (t mV : Nat)
  deriving DecidableEq, Repr

end Sys2Proof
end

