-- ==== Sys2Proof/Decode.lean ====
section
/-! DEFINITION. Commands from words. The operation table gives no row any bits: a command of this block is not spelled by a word. -/

namespace Sys2Proof

/-- The command that a table word spells: none. -/
def decodeTableWord (_nbits _w : Nat) : Option Instr := none

end Sys2Proof
end

