-- ==== Sys2Proof/Config.lean ====
section
/-! DEFINITION. What the spec leaves open: each is a constant without a body, so a claim holds whatever it is. Each is
named in a log entry. -/

namespace Sys2Proof

/-- The part of a slew of `slew` ps that the tile has worked off `elapsed` ns after it began. R358 bounds it at
50 ppm and gives no rate (log entry 4). -/
opaque Config.slewWorked (slew : Int) (elapsed : Nat) : Int

/-- The output samples of a monitor channel for input samples `xs`, under a preset, a phase response and a skew: the
spec gives no filter coefficients (log entry 5). -/
opaque Config.monitorFilter (preset : Nat) (minPhase : Bool) (skew : Int) (xs : List Int) : List Int

/-- The amplitude a detector reports for a block: within 2 mu of an irrational value (R416; log entry 5). -/
opaque Config.gzAmplitude (freq d : Nat) (xs : List Int) : BitVec 32

/-- The phase a detector reports for a block: within 2 units of an irrational value (R416; log entry 5). -/
opaque Config.gzPhase (freq d : Nat) (xs : List Int) : BitVec 16

/-- The deviation of a detector's MEAN from the exact mean, which R416 bounds at 2 mu (log entry 5). -/
opaque Config.gzMeanError (xs : List Int) : Int

/-- The calibration pages that a commit has written after `elapsed` ns: R523 allows at most 0.3125 ms a page and gives
no exact time (log entry 8). -/
opaque Config.pagesWritten (elapsed : Nat) : Nat

/-- What LNK_TIME_ERROR reads for an error that does not fit its 32 bits: the spec states no value (log entry 9). -/
opaque Config.timeErrorBeyond (ps : Int) : BitVec 32

/-- What CORR holds when the sum does not fit its 32 bits: the spec states no value (log entry 9). -/
opaque Config.corrBeyond (ps : Nat) : BitVec 32

/-- The number that a 32-bit float which is not finite stands for in a computation: the spec states no value (log
entry 10). -/
opaque Config.notFinite : BitVec 32 → Int

/-- The CIEDE2000 difference in 0.01 that the tile gives for two colours in 0.01 and kL in 1/16: R156 allows 0.02
either side of the exact value (log entry 11). -/
opaque Config.de00 : Int × Int × Int → Int × Int × Int → Nat → Int

/-- The density in 0.001 that the tile gives for a ratio, as numerator and denominator: R159 allows 0.002 either side of
the exact value (log entry 11). -/
opaque Config.density : Int → Nat → Int

/-- The error of a REGISTER unit when the reference unit has no edge: the spec states no value (log entry 12). -/
opaque Config.noReference : Nat → Nat → Int

/-- What an S16 field of a record holds for a value that does not fit it: the spec states no value (log entry 12). -/
opaque Config.s16Beyond : Int → BitVec 16

/-- The code of a view sample that the tile gives, by item and place: R384 allows 1 code either side of the exact value (log
entry 14). -/
opaque Config.viewCode : Nat → Nat → Int

/-- The value of a channel that no received pixel of a short frame carries: the spec states none (log entry 14). -/
opaque Config.absentChannel : Nat → Nat → BitVec 16

/-- WIDTH and HEIGHT in the header of a STATS item: the spec gives a STATS item no output size (log entry 14). -/
opaque Config.statsSize : Nat → BitVec 16

/-- A sample of a crop line already retired, in columns that a joined request adds to the window: the line rings no longer hold
it and the spec states no value (log entry 18). -/
opaque Config.cropUnseen : Nat → Nat → BitVec 16

/-- Byte `i` of the `draw`-th random or signed byte string of the tile: a challenge (R541), the signature of a quote (R543); the spec gives no
value (log entry 24). -/
opaque Config.freeByte (draw i : Nat) : BitVec 8

/-- Byte `i` of the vendor public key, fixed at manufacture (R530; log entry 25). -/
opaque Config.vendorKey (i : Nat) : BitVec 8

/-- Byte `i` of the SM3 digest of the firmware image that the tile leaves the factory with (R532; log entry 26). -/
opaque Config.factoryDigest (i : Nat) : BitVec 8

/-- The percentage of an extent of `n` bytes digested `elapsed` ns after a seal began: R239 gives a least rate only (log entry 27). -/
opaque Config.sealProgress (n elapsed : Nat) : Nat

/-- The bytes that a slot clear of an extent of `n` bytes has filled `elapsed` ns after it began: R223 gives the greatest time of the whole
only (log entry 29). -/
opaque Config.clearReached (n elapsed : Nat) : Nat

end Sys2Proof
end

