-- ==== Sys2Proof/Machine/Objects.lean ====
section
/-! DEFINITION. The object dictionary of the Catalogue (10_catalogue.md R262-R265): one row per object (or per
family of like objects) of the object tables R48, R49, R81, R104, R175, R202, R204, R232, R260, R288, R290, R292,
R367, R392, R419, R444, R463, R485, R508, R528, R545 and R564: index, subindex, type, access class, persistence
class, default and the range the table states. An object is named by `index * 256 + subindex`. -/

namespace Sys2Proof.Machine

/-- Object types (R10). -/
inductive Ty where
  | u8 | u16 | u32 | u64 | s16 | s32 | f32 | str | blob
  deriving DecidableEq, Repr

/-- Access classes (R264). -/
inductive Access where
  | ro | rw | wo | rwf | rwc | const
  deriving DecidableEq, Repr

/-- Persistence classes (R265); `none` is the dash of const objects. -/
inductive Persist where
  | none | v | f | c | k
  deriving DecidableEq, Repr

/-- The Default column (R11). `unset` is the dash of a numeric object (log entry 6); `rep n l` is `l` written n
times; `padded n l` is `l` followed by 0 to `n` bytes; `pixels` is the table of R521 holding the values of R101 in every pixel. -/
inductive Dflt where
  | num (n : Nat)
  | unset
  | text (s : String)
  | bytes (l : List Nat)
  | rep (n : Nat) (l : List Nat)
  | padded (n : Nat) (l : List Nat)
  | pixels
  deriving DecidableEq, Repr

/-- The range an object's table (or the rule it names) states (R275). Lengths of a `bytesMul` are R275's length
limits, the others its value ranges. -/
inductive Range where
  | any
  | interval (lo hi : Nat)
  | stepped (lo hi step : Nat)
  | signed (lo hi : Int)
  | zeroOr (lo hi : Nat)
  | oneOf (l : List Nat)
  | mask (m : Nat)
  | bytesMul (min max mult : Nat)
  deriving DecidableEq, Repr

/-- One row of an object table: `subs` objects at consecutive subindices, `insts` instances whose indices lie
`stride` apart. -/
structure ObjRow where
  index : Nat
  sub : Nat
  subs : Nat
  insts : Nat
  stride : Nat
  name : String
  ty : Ty
  access : Access
  persist : Persist
  dflt : Dflt
  range : Range
  deriving DecidableEq, Repr

/-! ## The names of the objects -/

def Obj.PX_ACTIVE_COLUMNS : Nat := 0x200001
def Obj.PX_PHYSICAL_COLUMNS : Nat := 0x200002
def Obj.PX_ROWS : Nat := 0x200003
def Obj.PX_PITCH : Nat := 0x200004
def Obj.PX_FULL_WELL : Nat := 0x200005
def Obj.PX_BAND_CENTRES : Nat := 0x200006
def Obj.PX_BAND_ENABLE : Nat := 0x200101
def Obj.PX_TDI_DEPTH : Nat := 0x200102
def Obj.PX_SURVEY_ENABLE : Nat := 0x200103
def Obj.PX_BAND_GAIN : Nat := 0x200104
def Obj.PX_ROWS_ENABLED : Nat := 0x200105
def Obj.PX_ACTIVE_RATE_LIMIT : Nat := 0x200106
def Obj.PX_EXPOSURE : Nat := 0x200201
def Obj.PX_EXPOSURE_SHORT : Nat := 0x200202
def Obj.PX_DUAL_ENABLE : Nat := 0x200203
def Obj.PX_SHORT_ROWS : Nat := 0x200204
def Obj.PX_BAND_FIRST_ROW (i : Nat) : Nat := 0x200301 + i
def Obj.PX_HALL_ENABLE : Nat := 0x200401
def Obj.PX_COL_BIN : Nat := 0x200402
def Obj.PX_STATUS : Nat := 0x200501
def Obj.PX_ARRAY_TEMP : Nat := 0x200502
def Obj.PX_TEST_COL_ERRORS : Nat := 0x200503
def Obj.LT_POS_MASTER : Nat := 0x210001
def Obj.LT_ENC_FILTER : Nat := 0x210002
def Obj.LT_ENC_DIRECTION : Nat := 0x210003
def Obj.LT_ENC_ERRORS : Nat := 0x210004
def Obj.LT_REVERSE_COUNTS : Nat := 0x210005
def Obj.LT_WEB_POSITION : Nat := 0x210101
def Obj.LT_SPEED : Nat := 0x210102
def Obj.LT_POS_PERIOD : Nat := 0x210103
def Obj.LT_POS_HOLDOVER : Nat := 0x210104
def Obj.LT_POS_LOSS : Nat := 0x210105
def Obj.LT_POS_STEPS : Nat := 0x210106
def Obj.LT_LINES_LOST : Nat := 0x210107
def Obj.LT_TRIG_MODE : Nat := 0x210108
def Obj.LT_MARK_SOURCE : Nat := 0x210201
def Obj.LT_MASTER_MARK : Nat := 0x210202
def Obj.LT_MARK_OFFSET : Nat := 0x210203
def Obj.LT_REPEAT_LINES : Nat := 0x210204
def Obj.LT_REPEAT_TOL : Nat := 0x210205
def Obj.LT_MARK_GUARD : Nat := 0x210206
def Obj.LT_REPEAT_INDEX : Nat := 0x210207
def Obj.LT_REPEAT_SHORT : Nat := 0x210301
def Obj.LT_REPEAT_LONG : Nat := 0x210302
def Obj.LT_MARKS_IGNORED : Nat := 0x210303
def Obj.LT_MARK_LATE : Nat := 0x210304
def Obj.LT_MAX_LINE_RATE : Nat := 0x210401
def Obj.LT_LINE_PITCH : Nat := 0x210402
def Obj.LT_STATION_OFFSET : Nat := 0x210403
def Obj.LT_STB_START (i : Nat) : Nat := 0x210501 + i
def Obj.LT_STB_WIDTH (i : Nat) : Nat := 0x210505 + i
def Obj.LT_STB_ENABLE : Nat := 0x210509
def Obj.LT_OVERRUN : Nat := 0x210601
def Obj.LT_HELD : Nat := 0x210602
def Obj.LT_LINE_COUNT : Nat := 0x210603
def Obj.LT_STATUS : Nat := 0x210604
def Obj.LA_ROW_CLAMP : Nat := 0x220001
def Obj.LA_NORM_ENABLE : Nat := 0x220002
def Obj.LA_NORM_ACC_LONG : Nat := 0x220003
def Obj.LA_NORM_ACC_SHORT : Nat := 0x220004
def Obj.LA_SAT_CODE_X1 : Nat := 0x220005
def Obj.LA_SAT_CODE_X4 : Nat := 0x220006
def Obj.LA_CLAMP_LIMIT : Nat := 0x220007
def Obj.LA_REF_ROW : Nat := 0x220101
def Obj.LA_REG_LINES : Nat := 0x220102
def Obj.LA_MAX_DELAY : Nat := 0x220103
def Obj.LA_BAND_ROW_OFFSET (i : Nat) : Nat := 0x220201 + i
def Obj.LA_LINES : Nat := 0x220301
def Obj.LA_SKIPPED : Nat := 0x220302
def Obj.LA_PARTIAL_TDI : Nat := 0x220303
def Obj.LA_BAND_GAP : Nat := 0x220304
def Obj.LA_SAT_SAMPLES : Nat := 0x220305
def Obj.LA_HDR_SAMPLES : Nat := 0x220306
def Obj.LA_NORM_NONE : Nat := 0x220307
def Obj.LA_NORM_RANGE : Nat := 0x220308
def Obj.LA_CLAMP_FALLBACK : Nat := 0x220309
def Obj.LA_CLIPPED_SAMPLES : Nat := 0x22030A
def Obj.LA_STATUS : Nat := 0x22030B
def Obj.KN_REGION_MAP : Nat := 0x240001
def Obj.KN_PARAMS : Nat := 0x240002
def Obj.KN_EVENT_ENABLE : Nat := 0x240003
def Obj.KN_CROP_SEND : Nat := 0x240004
def Obj.KN_REGION_COUNT : Nat := 0x240005
def Obj.KN_KERNEL (i : Nat) : Nat := 0x240101 + i
def Obj.KN_BUILTIN_ID : Nat := 0x240201
def Obj.KN_BUILTIN_VER : Nat := 0x240202
def Obj.KN_EVENTS_RAISED : Nat := 0x240301
def Obj.KN_EVENTS_SUPPRESSED : Nat := 0x240302
def Obj.KN_CROPS : Nat := 0x240303
def Obj.KN_CROPS_MERGED : Nat := 0x240304
def Obj.KN_CROP_TRUNC : Nat := 0x240305
def Obj.KN_MARKS : Nat := 0x240306
def Obj.KN_STATE_LOST : Nat := 0x240307
def Obj.CU_WINDOW_LINES : Nat := 0x230001
def Obj.CU_MAX_AGE : Nat := 0x230002
def Obj.CU_PLAN_LIMIT : Nat := 0x230003
def Obj.CU_TARGET_UTIL : Nat := 0x230004
def Obj.CU_STEAL_WAIT : Nat := 0x230005
def Obj.CU_HALL_IDLE : Nat := 0x230006
def Obj.CU_STATUS : Nat := 0x230007
def Obj.CU_PLAN_CYCLES : Nat := 0x230101
def Obj.CU_REQ_CYCLES : Nat := 0x230102
def Obj.CU_TASKS_PER_LINE : Nat := 0x230103
def Obj.CU_HALL_UTIL : Nat := 0x230104
def Obj.CU_LINES_RETIRED : Nat := 0x230201
def Obj.CU_LINES_PARTIAL : Nat := 0x230202
def Obj.CU_UNJUDGED : Nat := 0x230203
def Obj.CU_RING_RECLAIMS : Nat := 0x230204
def Obj.CU_RESULTS_DROPPED : Nat := 0x230205
def Obj.CU_STEALS_HALL : Nat := 0x230206
def Obj.CU_STEALS_CROSS : Nat := 0x230207
def Obj.CU_KERNEL_LOADS : Nat := 0x230208
def Obj.CU_FETCH_WAITS : Nat := 0x230209
def Obj.CU_TABLE_FULL : Nat := 0x23020A
def Obj.CU_WINDOW_FILL : Nat := 0x23020B
def Obj.CU_WINDOW_PEAK : Nat := 0x23020C
def Obj.SE_BUDGET_CUTS : Nat := 0x230301
def Obj.SE_TASK_FAULTS : Nat := 0x230302
def Obj.SE_FETCH_ERRORS : Nat := 0x230303
def Obj.SE_OUT_OVERFLOWS : Nat := 0x230304
def Obj.SE_EVENTS_MERGED : Nat := 0x230305
def Obj.SE_ENGINE_MAP : Nat := 0x230306
/-- ST_UTIL (0x3000.01 of instance `i`), 07. -/
def Obj.ST_UTIL (i : Nat) : Nat := 0x300001 + 4096 * i
/-- ST_PLAN_CYCLES (0x3000.02 of instance `i`), 07. -/
def Obj.ST_PLAN_CYCLES (i : Nat) : Nat := 0x300002 + 4096 * i
/-- ST_TASKS (0x3000.03 of instance `i`), 07. -/
def Obj.ST_TASKS (i : Nat) : Nat := 0x300003 + 4096 * i
/-- ST_CUT (0x3000.04 of instance `i`), 07. -/
def Obj.ST_CUT (i : Nat) : Nat := 0x300004 + 4096 * i
/-- ST_UNJUDGED (0x3000.05 of instance `i`), 07. -/
def Obj.ST_UNJUDGED (i : Nat) : Nat := 0x300005 + 4096 * i
/-- ST_UNCAL_MASK (0x3000.06 of instance `i`), 07. -/
def Obj.ST_UNCAL_MASK (i : Nat) : Nat := 0x300006 + 4096 * i
def Obj.VA_BLOCKS : Nat := 0x250001
def Obj.VA_RING_LINES : Nat := 0x250002
def Obj.VA_RES_STAGING : Nat := 0x250003
def Obj.VA_RES_GALLERY : Nat := 0x250004
def Obj.VA_RES_LINK_TX : Nat := 0x250005
def Obj.VA_RES_CATALOGUE : Nat := 0x250006
def Obj.VA_RES_LINK_RX : Nat := 0x250007
def Obj.VA_BORROW_LIMIT : Nat := 0x250008
def Obj.VA_HELD : Nat := 0x250101
def Obj.VA_BORROWED : Nat := 0x250102
def Obj.VA_LENDABLE : Nat := 0x250103
def Obj.VA_FREE : Nat := 0x250104
def Obj.VA_RECLAIMS : Nat := 0x250105
def Obj.VA_BORROW_FAILS : Nat := 0x250106
def Obj.VA_REF_RES : Nat := 0x250201
def Obj.VA_REF_LINE_BYTES : Nat := 0x250202
def Obj.VA_SLOT_CLEAR : Nat := 0x250203
def Obj.VA_SLOT_STATUS : Nat := 0x250204
def Obj.VA_ARCH_CE : Nat := 0x250301
def Obj.VA_ARCH_UE : Nat := 0x250302
def Obj.VA_ARCH_LOAD : Nat := 0x250303
def Obj.VA_SCRUB_PASSES : Nat := 0x250304
def Obj.VA_STALE_READS : Nat := 0x250305
def Obj.VA_CROP_NEXT_ID : Nat := 0x250306
def Obj.VA_CROP_OLDEST_ID : Nat := 0x250307
def Obj.FOL_NUMBER : Nat := 0x111001
def Obj.CAT_FOLIO_SEAL : Nat := 0x111002
def Obj.CAT_FOLIO_UNSEAL : Nat := 0x111003
def Obj.CAT_FOLIO_COPY : Nat := 0x111004
def Obj.FOL_STATUS : Nat := 0x111005
def Obj.FOL_OBJECT_COUNT : Nat := 0x111006
def Obj.FOL_SEAL_PROGRESS : Nat := 0x111007
def Obj.FOL_ACTIVE_NUMBER : Nat := 0x111101
def Obj.FOL_ACTIVE_DIGEST : Nat := 0x111102
def Obj.FOL_ACTIVE_OBJ_DIGEST : Nat := 0x111103
def Obj.FOL_ACTIVE_REF_DIGEST : Nat := 0x111104
def Obj.FOL_STAGED_DIGEST : Nat := 0x111105
def Obj.FOL_STAGED_OBJ_DIGEST : Nat := 0x111106
def Obj.FOL_STAGED_REF_DIGEST : Nat := 0x111107
def Obj.FOL_ACC_LAST_ID : Nat := 0x111201
def Obj.FOL_ACC_PENDING_POS : Nat := 0x111202
def Obj.FOL_ACC_DONE : Nat := 0x111203
def Obj.FOL_ACC_MISSED : Nat := 0x111204
def Obj.FOL_ACC_MISSED_CAUSE : Nat := 0x111205
def Obj.FOL_ACC_REPLACED : Nat := 0x111206
def Obj.FOL_ACC_REFUSED : Nat := 0x111207
def Obj.FOL_SWITCH_LINE : Nat := 0x111208
def Obj.FOL_BEACON_PERIOD : Nat := 0x111301
def Obj.FOL_BEACON_SEQ : Nat := 0x111302
def Obj.FOL_QUOTE_NONCE : Nat := 0x111303
def Obj.FOL_QUOTE : Nat := 0x111304
def Obj.CAT_FOLIO_SAVE_RESUME : Nat := 0x111401
def Obj.CAT_FOLIO_CLEAR_RESUME : Nat := 0x111402
def Obj.FOL_RESUME_NUMBER : Nat := 0x111403
def Obj.FOL_RESUME_DIGEST : Nat := 0x111404
def Obj.ID_VENDOR : Nat := 0x100001
def Obj.ID_PRODUCT : Nat := 0x100002
def Obj.ID_SERIAL : Nat := 0x100003
def Obj.ID_SILICON_STEP : Nat := 0x100004
def Obj.ID_FW_VERSION : Nat := 0x100005
def Obj.ID_FW_DIGEST : Nat := 0x100006
def Obj.ID_BOOTROM_VERSION : Nat := 0x100007
def Obj.ID_MFG_DATE : Nat := 0x100008
def Obj.ID_MFG_LOT : Nat := 0x100009
def Obj.ID_ADDRESS : Nat := 0x10000A
def Obj.ID_POSITION : Nat := 0x10000B
def Obj.ID_STATE : Nat := 0x10000C
def Obj.ID_UPTIME : Nat := 0x10000D
def Obj.ID_CONFIG : Nat := 0x10000E
def Obj.ID_USER_TAG : Nat := 0x10000F
def Obj.CAT_OBJECT_COUNT : Nat := 0x110001
def Obj.CAT_LAYOUT_VERSION : Nat := 0x110002
def Obj.CAT_STATE_REQUEST : Nat := 0x110003
def Obj.CAT_VERSION_COUNTER : Nat := 0x110004
def Obj.CAT_SEG_TIMEOUT : Nat := 0x110005
def Obj.CAT_QUEUE_DEPTH : Nat := 0x110006
def Obj.CAT_REQUESTS : Nat := 0x110101
def Obj.CAT_ERRORS : Nat := 0x110102
def Obj.CAT_LAST_ERROR : Nat := 0x110103
def Obj.CAT_SEG_OPEN : Nat := 0x110104
def Obj.CAT_SEG_ABANDONED : Nat := 0x110105
def Obj.CAT_QUEUE_FULL : Nat := 0x110106
def Obj.CAT_MB_IGNORED : Nat := 0x110107
def Obj.CAT_MB_REJECTED : Nat := 0x110108
def Obj.CAT_BROADCAST_DISCARDED : Nat := 0x110109
def Obj.EVT_LOG : Nat := 0x170001
def Obj.EVT_LOG_NEXT : Nat := 0x170002
def Obj.EVT_LOG_LATEST : Nat := 0x170003
def Obj.EVT_LOG_CLEAR : Nat := 0x170004
def Obj.EVT_LAST_CODE : Nat := 0x170005
def Obj.LNK_RATE_MAX : Nat := 0x120001
def Obj.LNK_RETRAIN_INTERVAL : Nat := 0x120002
def Obj.LNK_RETRAIN_A : Nat := 0x120003
def Obj.LNK_RETRAIN_B : Nat := 0x120004
def Obj.LNK_PORT_STATE_A : Nat := 0x120005
def Obj.LNK_PORT_STATE_B : Nat := 0x120006
def Obj.LNK_PORT_RATE : Nat := 0x120007
def Obj.LNK_WAKE_A : Nat := 0x120008
def Obj.LNK_WAKE_B : Nat := 0x120009
def Obj.LNK_STATUS : Nat := 0x12000A
def Obj.LNK_CODE_ERRORS : Nat := 0x120101
def Obj.LNK_LOCK_LOSSES : Nat := 0x120102
def Obj.LNK_ELASTIC_ERRORS : Nat := 0x120103
def Obj.LNK_DESKEW_ERRORS : Nat := 0x120104
def Obj.LNK_RECOVERIES : Nat := 0x120105
def Obj.LNK_TS_ERRORS : Nat := 0x120106
def Obj.LNK_LANE_STATUS : Nat := 0x120107
def Obj.LNK_HOP_DELAY_A : Nat := 0x120201
def Obj.LNK_HOP_DELAY_B : Nat := 0x120202
def Obj.LNK_HOP_SPREAD_A : Nat := 0x120203
def Obj.LNK_HOP_SPREAD_B : Nat := 0x120204
def Obj.LNK_HOP_PERIOD : Nat := 0x120205
def Obj.LNK_HOP_REJECTED : Nat := 0x120206
def Obj.LNK_HOP_CHANGES : Nat := 0x120207
def Obj.LNK_EYE_PERIOD : Nat := 0x120301
def Obj.LNK_EYE_MEASURE : Nat := 0x120302
def Obj.LNK_EYE : Nat := 0x120303
def Obj.LNK_TAPS : Nat := 0x120304
def Obj.LNK_EYE_LOW_COUNT : Nat := 0x120305
def Obj.LNK_LANE_TEST (i : Nat) : Nat := 0x120401 + i
def Obj.LNK_PRBS_BITS : Nat := 0x120409
def Obj.LNK_PRBS_ERRORS : Nat := 0x12040A
def Obj.LNK_PRBS_RESYNC : Nat := 0x12040B
def Obj.LNK_TTL : Nat := 0x120501
def Obj.LNK_DISCARDS_A : Nat := 0x120502
def Obj.LNK_DISCARDS_B : Nat := 0x120503
def Obj.LNK_FRAMES_RX : Nat := 0x120504
def Obj.LNK_FRAMES_TX : Nat := 0x120505
def Obj.LNK_NAKS_SENT : Nat := 0x120506
def Obj.LNK_DUAL_DROPPED : Nat := 0x120507
def Obj.LNK_CHAIN : Nat := 0x120601
def Obj.LNK_RING_LENGTH : Nat := 0x120602
def Obj.LNK_ENUM_ID : Nat := 0x120603
def Obj.LNK_POSITION_CHANGES : Nat := 0x120604
def Obj.LNK_TIME : Nat := 0x120701
def Obj.LNK_TIME_MASTER : Nat := 0x120702
def Obj.LNK_TIME_PERIOD : Nat := 0x120703
def Obj.LNK_TIME_HOLDOVER : Nat := 0x120704
def Obj.LNK_TIME_LOSS : Nat := 0x120705
def Obj.LNK_TIME_ERROR : Nat := 0x120706
def Obj.LNK_TIME_STEPS : Nat := 0x120707
def Obj.GA_MUX_MODE : Nat := 0x260001
def Obj.GA_PIXEL_RATE : Nat := 0x260002
def Obj.GA_STATUS : Nat := 0x260003
def Obj.GA_VIEW_NEXT_ID : Nat := 0x260004
def Obj.GA_VIEW_OLDEST_ID : Nat := 0x260005
def Obj.GA_VIEW_DIR : Nat := 0x260006
/-- GA_AUXn_LANES (0x2601.01 of instance `i`), 13. -/
def Obj.GA_AUX_LANES (i : Nat) : Nat := 0x260101 + 256 * i
/-- GA_AUXn_LANE_MAP (0x2601.02 of instance `i`), 13. -/
def Obj.GA_AUX_LANE_MAP (i : Nat) : Nat := 0x260102 + 256 * i
/-- GA_AUXn_POLARITY (0x2601.03 of instance `i`), 13. -/
def Obj.GA_AUX_POLARITY (i : Nat) : Nat := 0x260103 + 256 * i
/-- GA_AUXn_ENABLE (0x2601.04 of instance `i`), 13. -/
def Obj.GA_AUX_ENABLE (i : Nat) : Nat := 0x260104 + 256 * i
/-- GA_AUXn_ECC_CORRECTED (0x2601.05 of instance `i`), 13. -/
def Obj.GA_AUX_ECC_CORRECTED (i : Nat) : Nat := 0x260105 + 256 * i
/-- GA_AUXn_ECC_ERRORS (0x2601.06 of instance `i`), 13. -/
def Obj.GA_AUX_ECC_ERRORS (i : Nat) : Nat := 0x260106 + 256 * i
/-- GA_AUXn_CRC_ERRORS (0x2601.07 of instance `i`), 13. -/
def Obj.GA_AUX_CRC_ERRORS (i : Nat) : Nat := 0x260107 + 256 * i
/-- GA_AUXn_SOT_ERRORS (0x2601.08 of instance `i`), 13. -/
def Obj.GA_AUX_SOT_ERRORS (i : Nat) : Nat := 0x260108 + 256 * i
/-- GA_AUXn_UNMATCHED (0x2601.09 of instance `i`), 13. -/
def Obj.GA_AUX_UNMATCHED (i : Nat) : Nat := 0x260109 + 256 * i
/-- GA_AUXn_PORT_STATUS (0x2601.0A of instance `i`), 13. -/
def Obj.GA_AUX_PORT_STATUS (i : Nat) : Nat := 0x26010A + 256 * i
/-- GA_CTX_ENABLE (0x2610.01 of instance `i`), 13. -/
def Obj.GA_CTX_ENABLE (i : Nat) : Nat := 0x261001 + 4096 * i
/-- GA_CTX_SOURCE (0x2610.02 of instance `i`), 13. -/
def Obj.GA_CTX_SOURCE (i : Nat) : Nat := 0x261002 + 4096 * i
/-- GA_CTX_VC (0x2610.03 of instance `i`), 13. -/
def Obj.GA_CTX_VC (i : Nat) : Nat := 0x261003 + 4096 * i
/-- GA_CTX_DT (0x2610.04 of instance `i`), 13. -/
def Obj.GA_CTX_DT (i : Nat) : Nat := 0x261004 + 4096 * i
/-- GA_CTX_WIDTH (0x2610.05 of instance `i`), 13. -/
def Obj.GA_CTX_WIDTH (i : Nat) : Nat := 0x261005 + 4096 * i
/-- GA_CTX_HEIGHT (0x2610.06 of instance `i`), 13. -/
def Obj.GA_CTX_HEIGHT (i : Nat) : Nat := 0x261006 + 4096 * i
/-- GA_CTX_PATTERN (0x2610.07 of instance `i`), 13. -/
def Obj.GA_CTX_PATTERN (i : Nat) : Nat := 0x261007 + 4096 * i
/-- GA_CTX_PHASE (0x2610.08 of instance `i`), 13. -/
def Obj.GA_CTX_PHASE (i : Nat) : Nat := 0x261008 + 4096 * i
/-- GA_CTX_BLACK (0x2610.09 of instance `i`), 13. -/
def Obj.GA_CTX_BLACK (i : Nat) : Nat := 0x261009 + 4096 * i
/-- GA_CTX_WHITE (0x2610.0A of instance `i`), 13. -/
def Obj.GA_CTX_WHITE (i : Nat) : Nat := 0x26100A + 4096 * i
/-- GA_CTX_MATRIX (0x2610.0B of instance `i`), 13. -/
def Obj.GA_CTX_MATRIX (i : Nat) : Nat := 0x26100B + 4096 * i
/-- GA_CTX_TONE (0x2610.0C of instance `i`), 13. -/
def Obj.GA_CTX_TONE (i : Nat) : Nat := 0x26100C + 4096 * i
/-- GA_CTX_WINDOW (0x2610.0D of instance `i`), 13. -/
def Obj.GA_CTX_WINDOW (i : Nat) : Nat := 0x26100D + 4096 * i
/-- GA_CTX_OUTPUTS (0x2610.0E of instance `i`), 13. -/
def Obj.GA_CTX_OUTPUTS (i : Nat) : Nat := 0x26100E + 4096 * i
/-- GA_CTX_D_SIZE (0x2610.0F of instance `i`), 13. -/
def Obj.GA_CTX_D_SIZE (i : Nat) : Nat := 0x26100F + 4096 * i
/-- GA_CTX_C_SIZE (0x2610.10 of instance `i`), 13. -/
def Obj.GA_CTX_C_SIZE (i : Nat) : Nat := 0x261010 + 4096 * i
/-- GA_CTX_C_DEPTH (0x2610.11 of instance `i`), 13. -/
def Obj.GA_CTX_C_DEPTH (i : Nat) : Nat := 0x261011 + 4096 * i
/-- GA_CTX_M_MODE (0x2610.12 of instance `i`), 13. -/
def Obj.GA_CTX_M_MODE (i : Nat) : Nat := 0x261012 + 4096 * i
/-- GA_CTX_M_WEIGHTS (0x2610.13 of instance `i`), 13. -/
def Obj.GA_CTX_M_WEIGHTS (i : Nat) : Nat := 0x261013 + 4096 * i
/-- GA_CTX_M_PLANES (0x2610.14 of instance `i`), 13. -/
def Obj.GA_CTX_M_PLANES (i : Nat) : Nat := 0x261014 + 4096 * i
/-- GA_CTX_M_BIN (0x2610.15 of instance `i`), 13. -/
def Obj.GA_CTX_M_BIN (i : Nat) : Nat := 0x261015 + 4096 * i
/-- GA_CTX_STAT_CH (0x2610.16 of instance `i`), 13. -/
def Obj.GA_CTX_STAT_CH (i : Nat) : Nat := 0x261016 + 4096 * i
/-- GA_CTX_FRAME_STEP (0x2610.17 of instance `i`), 13. -/
def Obj.GA_CTX_FRAME_STEP (i : Nat) : Nat := 0x261017 + 4096 * i
/-- GA_CTX_WEIGHT (0x2610.18 of instance `i`), 13. -/
def Obj.GA_CTX_WEIGHT (i : Nat) : Nat := 0x261018 + 4096 * i
/-- GA_CTX_RES_BLOCKS (0x2610.19 of instance `i`), 13. -/
def Obj.GA_CTX_RES_BLOCKS (i : Nat) : Nat := 0x261019 + 4096 * i
/-- GA_CTX_SEND (0x2610.1A of instance `i`), 13. -/
def Obj.GA_CTX_SEND (i : Nat) : Nat := 0x26101A + 4096 * i
/-- GA_CTX_FRAME_TIMEOUT (0x2610.1B of instance `i`), 13. -/
def Obj.GA_CTX_FRAME_TIMEOUT (i : Nat) : Nat := 0x26101B + 4096 * i
/-- GA_CTX_SURVEY_STEP (0x2610.1C of instance `i`), 13. -/
def Obj.GA_CTX_SURVEY_STEP (i : Nat) : Nat := 0x26101C + 4096 * i
/-- GA_CTX_SURVEY_SYNC (0x2610.1D of instance `i`), 13. -/
def Obj.GA_CTX_SURVEY_SYNC (i : Nat) : Nat := 0x26101D + 4096 * i
/-- GA_CTX_APPLY (0x2610.1E of instance `i`), 13. -/
def Obj.GA_CTX_APPLY (i : Nat) : Nat := 0x26101E + 4096 * i
/-- GA_CTX_STATUS (0x2610.1F of instance `i`), 13. -/
def Obj.GA_CTX_STATUS (i : Nat) : Nat := 0x26101F + 4096 * i
/-- GA_CTX_FRAMES (0x2610.20 of instance `i`), 13. -/
def Obj.GA_CTX_FRAMES (i : Nat) : Nat := 0x261020 + 4096 * i
/-- GA_CTX_FRAMES_DROPPED (0x2610.21 of instance `i`), 13. -/
def Obj.GA_CTX_FRAMES_DROPPED (i : Nat) : Nat := 0x261021 + 4096 * i
/-- GA_CTX_FRAMES_SHORT (0x2610.22 of instance `i`), 13. -/
def Obj.GA_CTX_FRAMES_SHORT (i : Nat) : Nat := 0x261022 + 4096 * i
/-- GA_CTX_FRAMES_LONG (0x2610.23 of instance `i`), 13. -/
def Obj.GA_CTX_FRAMES_LONG (i : Nat) : Nat := 0x261023 + 4096 * i
/-- GA_CTX_LINES_CUT (0x2610.24 of instance `i`), 13. -/
def Obj.GA_CTX_LINES_CUT (i : Nat) : Nat := 0x261024 + 4096 * i
def Obj.AM_REF_BUFFER : Nat := 0x270001
def Obj.AM_REF_ON_TIME : Nat := 0x270002
def Obj.AM_CAL_START : Nat := 0x270003
def Obj.AM_CAL_STATUS : Nat := 0x270004
def Obj.AM_CAL_MIN_SPUR : Nat := 0x270005
def Obj.AM_BG_ENABLE : Nat := 0x270006
def Obj.AM_SYNC_RESET : Nat := 0x270007
def Obj.AM_CAL_SPUR : Nat := 0x270008
/-- AM_CHA_ENABLE (0x2701.01 of instance `i`), 14. -/
def Obj.AM_CH_ENABLE (i : Nat) : Nat := 0x270101 + 256 * i
/-- AM_CHA_INPUT (0x2701.02 of instance `i`), 14. -/
def Obj.AM_CH_INPUT (i : Nat) : Nat := 0x270102 + 256 * i
/-- AM_CHA_GAIN (0x2701.03 of instance `i`), 14. -/
def Obj.AM_CH_GAIN (i : Nat) : Nat := 0x270103 + 256 * i
/-- AM_CHA_PRESET (0x2701.04 of instance `i`), 14. -/
def Obj.AM_CH_PRESET (i : Nat) : Nat := 0x270104 + 256 * i
/-- AM_CHA_MINPHASE (0x2701.05 of instance `i`), 14. -/
def Obj.AM_CH_MINPHASE (i : Nat) : Nat := 0x270105 + 256 * i
/-- AM_CHA_SKEW (0x2701.06 of instance `i`), 14. -/
def Obj.AM_CH_SKEW (i : Nat) : Nat := 0x270106 + 256 * i
/-- AM_CHA_SAMPLES (0x2701.07 of instance `i`), 14. -/
def Obj.AM_CH_SAMPLES (i : Nat) : Nat := 0x270107 + 256 * i
/-- AM_CHA_STATUS (0x2701.08 of instance `i`), 14. -/
def Obj.AM_CH_STATUS (i : Nat) : Nat := 0x270108 + 256 * i
/-- AM_CHA_CLIPS (0x2701.09 of instance `i`), 14. -/
def Obj.AM_CH_CLIPS (i : Nat) : Nat := 0x270109 + 256 * i
/-- AM_CHA_SPUR (0x2701.0A of instance `i`), 14. -/
def Obj.AM_CH_SPUR (i : Nat) : Nat := 0x27010A + 256 * i
/-- AM_CHA_LATENCY (0x2701.0B of instance `i`), 14. -/
def Obj.AM_CH_LATENCY (i : Nat) : Nat := 0x27010B + 256 * i
def Obj.AM_IN_OFFSET (i : Nat) : Nat := 0x270301 + i
def Obj.AM_IN_GAIN (i : Nat) : Nat := 0x270309 + i
def Obj.AM_SLICE_FACTORS_A : Nat := 0x270401
def Obj.AM_SLICE_FACTORS_B : Nat := 0x270402
/-- AM_ACC0_ENABLE (0x2710.01 of instance `i`), 14. -/
def Obj.AM_ACC_ENABLE (i : Nat) : Nat := 0x271001 + 256 * i
/-- AM_ACC0_CHANNEL (0x2710.02 of instance `i`), 14. -/
def Obj.AM_ACC_CHANNEL (i : Nat) : Nat := 0x271002 + 256 * i
/-- AM_ACC0_GATE (0x2710.03 of instance `i`), 14. -/
def Obj.AM_ACC_GATE (i : Nat) : Nat := 0x271003 + 256 * i
/-- AM_ACC0_PIN (0x2710.04 of instance `i`), 14. -/
def Obj.AM_ACC_PIN (i : Nat) : Nat := 0x271004 + 256 * i
/-- AM_ACC0_WIDTH (0x2710.05 of instance `i`), 14. -/
def Obj.AM_ACC_WIDTH (i : Nat) : Nat := 0x271005 + 256 * i
/-- AM_ACC0_CAPTURE (0x2710.06 of instance `i`), 14. -/
def Obj.AM_ACC_CAPTURE (i : Nat) : Nat := 0x271006 + 256 * i
/-- AM_ACC0_RESULT (0x2710.07 of instance `i`), 14. -/
def Obj.AM_ACC_RESULT (i : Nat) : Nat := 0x271007 + 256 * i
/-- AM_ACC0_OVERLAPS (0x2710.08 of instance `i`), 14. -/
def Obj.AM_ACC_OVERLAPS (i : Nat) : Nat := 0x271008 + 256 * i
/-- AM_ACC0_WINDOWS (0x2710.09 of instance `i`), 14. -/
def Obj.AM_ACC_WINDOWS (i : Nat) : Nat := 0x271009 + 256 * i
/-- AM_MM0_ENABLE (0x2720.01 of instance `i`), 14. -/
def Obj.AM_MM_ENABLE (i : Nat) : Nat := 0x272001 + 256 * i
/-- AM_MM0_CHANNEL (0x2720.02 of instance `i`), 14. -/
def Obj.AM_MM_CHANNEL (i : Nat) : Nat := 0x272002 + 256 * i
/-- AM_MM0_GATE (0x2720.03 of instance `i`), 14. -/
def Obj.AM_MM_GATE (i : Nat) : Nat := 0x272003 + 256 * i
/-- AM_MM0_CLEAR (0x2720.04 of instance `i`), 14. -/
def Obj.AM_MM_CLEAR (i : Nat) : Nat := 0x272004 + 256 * i
/-- AM_MM0_RESULT (0x2720.05 of instance `i`), 14. -/
def Obj.AM_MM_RESULT (i : Nat) : Nat := 0x272005 + 256 * i
/-- AM_GZA_ENABLE (0x2730.01 of instance `i`), 14. -/
def Obj.AM_GZ_ENABLE (i : Nat) : Nat := 0x273001 + 256 * i
/-- AM_GZA_FREQ (0x2730.02 of instance `i`), 14. -/
def Obj.AM_GZ_FREQ (i : Nat) : Nat := 0x273002 + 256 * i
/-- AM_GZA_N (0x2730.03 of instance `i`), 14. -/
def Obj.AM_GZ_N (i : Nat) : Nat := 0x273003 + 256 * i
/-- AM_GZA_RESULT (0x2730.04 of instance `i`), 14. -/
def Obj.AM_GZ_RESULT (i : Nat) : Nat := 0x273004 + 256 * i
def Obj.PE_PIN_CFG : Nat := 0x280001
def Obj.PE_ENABLE : Nat := 0x280002
def Obj.PE_RESTART : Nat := 0x280003
def Obj.PE_BANK_VIO : Nat := 0x280004
def Obj.PE_PIN_LEVEL : Nat := 0x280005
def Obj.PE_STATUS : Nat := 0x280006
def Obj.PE_PIN_CLOCK : Nat := 0x280007
/-- PE_0_PROGRAM (0x2810.01 of instance `i`), 15. -/
def Obj.PEN_PROGRAM (i : Nat) : Nat := 0x281001 + 256 * i
/-- PE_0_PATCH (0x2810.02 of instance `i`), 15. -/
def Obj.PEN_PATCH (i : Nat) : Nat := 0x281002 + 256 * i
/-- PE_0_INJECT (0x2810.03 of instance `i`), 15. -/
def Obj.PEN_INJECT (i : Nat) : Nat := 0x281003 + 256 * i
/-- PE_0_CLKDIV (0x2810.04 of instance `i`), 15. -/
def Obj.PEN_CLKDIV (i : Nat) : Nat := 0x281004 + 256 * i
/-- PE_0_PINS (0x2810.05 of instance `i`), 15. -/
def Obj.PEN_PINS (i : Nat) : Nat := 0x281005 + 256 * i
/-- PE_0_SHIFT (0x2810.06 of instance `i`), 15. -/
def Obj.PEN_SHIFT (i : Nat) : Nat := 0x281006 + 256 * i
/-- PE_0_EVENT_MASK (0x2810.07 of instance `i`), 15. -/
def Obj.PEN_EVENT_MASK (i : Nat) : Nat := 0x281007 + 256 * i
/-- PE_0_TX (0x2810.08 of instance `i`), 15. -/
def Obj.PEN_TX (i : Nat) : Nat := 0x281008 + 256 * i
/-- PE_0_RX (0x2810.09 of instance `i`), 15. -/
def Obj.PEN_RX (i : Nat) : Nat := 0x281009 + 256 * i
/-- PE_0_STATUS (0x2810.0A of instance `i`), 15. -/
def Obj.PEN_STATUS (i : Nat) : Nat := 0x28100A + 256 * i
/-- PE_0_PC (0x2810.0B of instance `i`), 15. -/
def Obj.PEN_PC (i : Nat) : Nat := 0x28100B + 256 * i
/-- PE_0_REGS (0x2810.0C of instance `i`), 15. -/
def Obj.PEN_REGS (i : Nat) : Nat := 0x28100C + 256 * i
/-- PE_0_EVENT_DROPS (0x2810.0D of instance `i`), 15. -/
def Obj.PEN_EVENT_DROPS (i : Nat) : Nat := 0x28100D + 256 * i
/-- PE_0_RX_DROPS (0x2810.0E of instance `i`), 15. -/
def Obj.PEN_RX_DROPS (i : Nat) : Nat := 0x28100E + 256 * i
def Obj.TW_ALERT_MASK : Nat := 0x290001
def Obj.TW_ALERT_PENDING : Nat := 0x290002
def Obj.TW_ALERT_SET : Nat := 0x290003
def Obj.TW_ALERT_CLEAR : Nat := 0x290004
def Obj.TW_ALERT_PORT : Nat := 0x290005
def Obj.TW_ARA_LOST : Nat := 0x290006
/-- TW_A_ENABLE (0x2901.01 of instance `i`), 16. -/
def Obj.TW_ENABLE (i : Nat) : Nat := 0x290101 + 256 * i
/-- TW_A_ADDR (0x2901.02 of instance `i`), 16. -/
def Obj.TW_ADDR (i : Nat) : Nat := 0x290102 + 256 * i
/-- TW_A_ADDR_MASK (0x2901.03 of instance `i`), 16. -/
def Obj.TW_ADDR_MASK (i : Nat) : Nat := 0x290103 + 256 * i
/-- TW_A_REST_MODE (0x2901.04 of instance `i`), 16. -/
def Obj.TW_REST_MODE (i : Nat) : Nat := 0x290104 + 256 * i
/-- TW_A_STATUS (0x2901.05 of instance `i`), 16. -/
def Obj.TW_STATUS (i : Nat) : Nat := 0x290105 + 256 * i
/-- TW_A_RS_ACK (0x2901.06 of instance `i`), 16. -/
def Obj.TW_RS_ACK (i : Nat) : Nat := 0x290106 + 256 * i
/-- TW_A_TIMEOUTS (0x2901.07 of instance `i`), 16. -/
def Obj.TW_TIMEOUTS (i : Nat) : Nat := 0x290107 + 256 * i
/-- TW_A_REST_WAKES (0x2901.08 of instance `i`), 16. -/
def Obj.TW_REST_WAKES (i : Nat) : Nat := 0x290108 + 256 * i
/-- TW_A_STRETCH_MAX (0x2901.09 of instance `i`), 16. -/
def Obj.TW_STRETCH_MAX (i : Nat) : Nat := 0x290109 + 256 * i
/-- TW_A_TRANSFERS (0x2901.0A of instance `i`), 16. -/
def Obj.TW_TRANSFERS (i : Nat) : Nat := 0x29010A + 256 * i
def Obj.TW_SPEED : Nat := 0x290110
def Obj.TW_XFER : Nat := 0x290111
def Obj.TW_RESULT : Nat := 0x290112
def Obj.TW_RECOVER : Nat := 0x290113
def Obj.TW_STRETCH_LIMIT : Nat := 0x290114
def Obj.TW_ARB_LOST : Nat := 0x290115
def Obj.TW_BUS_ERR : Nat := 0x290116
def Obj.TW_RECOVERIES : Nat := 0x290117
def Obj.TW_WINDOW_OUT : Nat := 0x290118
def Obj.TW_WINDOW_IN : Nat := 0x290119
def Obj.TW_WINDOW_SEQ : Nat := 0x29011A
def Obj.CLK_REF_SEL : Nat := 0x130001
def Obj.CLK_REF_ACTIVE : Nat := 0x130002
def Obj.CLK_STATUS : Nat := 0x130003
def Obj.CLK_BAND_TABLE (i : Nat) : Nat := 0x130004 + i
def Obj.CLK_BAND_IN_USE : Nat := 0x130009
def Obj.CLK_LOCK_MARGIN : Nat := 0x13000A
def Obj.CLK_LOCK_LOSSES : Nat := 0x13000B
def Obj.CLK_CASE_TEMP : Nat := 0x13000C
def Obj.CLK_C_MODE : Nat := 0x130101
def Obj.CLK_C_FIXED : Nat := 0x130102
def Obj.CLK_RAMP_PROFILE : Nat := 0x130103
def Obj.CLK_RAMP_INTERVAL : Nat := 0x130104
def Obj.CLK_C_TARGET : Nat := 0x130105
def Obj.CLK_C_FREQ : Nat := 0x130106
def Obj.CLK_HOT_FREQ : Nat := 0x130107
def Obj.CLK_BYPASS_COUNT : Nat := 0x130108
def Obj.CLK_OUT_CFG (i : Nat) : Nat := 0x130201 + i
def Obj.CLK_X_VCO : Nat := 0x130205
def Obj.CLK_REST_TIMER : Nat := 0x130301
def Obj.CLK_WAKE_SOURCE : Nat := 0x130302
def Obj.CLK_REST_COUNT : Nat := 0x130303
def Obj.CLK_REST_ABANDONED : Nat := 0x130304
def Obj.PWR_PATH_STATE : Nat := 0x140001
def Obj.PWR_STATUS : Nat := 0x140002
def Obj.PWR_VIN : Nat := 0x140003
def Obj.PWR_IIN : Nat := 0x140004
def Obj.PWR_IIN_LIMIT : Nat := 0x140005
def Obj.PWR_VIN_REG : Nat := 0x140006
def Obj.PWR_VSTB_CURRENT : Nat := 0x140007
def Obj.PWR_TILE_POWER : Nat := 0x140008
def Obj.PWR_SUPP_POWER : Nat := 0x140101
def Obj.PWR_SUPP_EVENTS : Nat := 0x140102
def Obj.PWR_SUPP_DUTY_COUNT : Nat := 0x140103
def Obj.PWR_VSTB_LIMITED : Nat := 0x140104
def Obj.PWR_HANDOVERS : Nat := 0x140105
def Obj.PWR_BOUNCE_HOLDS : Nat := 0x140106
def Obj.PWR_HOLDUP_TIME : Nat := 0x140107
def Obj.PWR_HOLDUP_ENERGY : Nat := 0x140108
def Obj.PWR_CHG_ENABLE : Nat := 0x140201
def Obj.PWR_CHG_CURRENT : Nat := 0x140202
def Obj.PWR_CHG_TIMER : Nat := 0x140203
def Obj.PWR_CHG_STATE : Nat := 0x140204
def Obj.PWR_CHG_RESTART : Nat := 0x140205
def Obj.PWR_CHG_ELAPSED : Nat := 0x140206
def Obj.PWR_CHG_CYCLES : Nat := 0x140207
def Obj.PWR_CELL_CAPACITY : Nat := 0x140208
def Obj.PWR_CELL_CHARGE : Nat := 0x140209
def Obj.PWR_CELL_VOLTAGE : Nat := 0x14020A
def Obj.PWR_CELL_CURRENT : Nat := 0x14020B
def Obj.PWR_CELL_TEMP : Nat := 0x14020C
def Obj.PWR_CELL_ZONE : Nat := 0x14020D
def Obj.PWR_SHIP : Nat := 0x14020E
def Obj.CAL_STATUS : Nat := 0x150001
def Obj.CAL_GEN : Nat := 0x150002
def Obj.CAL_COMMIT : Nat := 0x150003
def Obj.CAL_COMMIT_UNPROTECTED : Nat := 0x150004
def Obj.CAL_COMMITS : Nat := 0x150005
def Obj.CAL_TORN_COLUMNS : Nat := 0x150006
def Obj.CAL_TORN_PAGES : Nat := 0x150007
def Obj.CAL_DEAD_MAP : Nat := 0x150008
def Obj.CAL_RUN : Nat := 0x150101
def Obj.CAL_RUN_STATUS : Nat := 0x150102
def Obj.CAL_LINES : Nat := 0x150103
def Obj.CAL_RUN_RATE : Nat := 0x150104
def Obj.CAL_DARK_LIMIT : Nat := 0x150105
def Obj.CAL_PIXEL_TABLES : Nat := 0x150201
def Obj.CAL_GAIN_RATIO : Nat := 0x150202
def Obj.CAL_E_CAL : Nat := 0x150203
def Obj.CAL_COLOUR_MATRIX : Nat := 0x150204
def Obj.CAL_CLAMP_REF : Nat := 0x150205
def Obj.CAL_TEST_COL_REF : Nat := 0x150206
def Obj.CAL_SPARE_MAP : Nat := 0x150301
def Obj.CAL_ADC_TRIM : Nat := 0x150302
def Obj.CAL_ADC_DNL : Nat := 0x150401
def Obj.CAL_FLAT_RESIDUAL : Nat := 0x150402
def Obj.CAL_LANE_TRIM : Nat := 0x150403
def Obj.SEC_VENDOR_KEY : Nat := 0x160001
def Obj.SEC_OWNER_KEY : Nat := 0x160002
def Obj.SEC_OWNER_ENROL : Nat := 0x160003
def Obj.SEC_OWNER_SLOTS : Nat := 0x160004
def Obj.SEC_STATUS : Nat := 0x160005
def Obj.SEC_ID_PUBLIC : Nat := 0x160101
def Obj.SEC_ID_CERT : Nat := 0x160102
def Obj.SEC_AUTH_CHALLENGE : Nat := 0x160201
def Obj.SEC_AUTH_RESPONSE : Nat := 0x160202
def Obj.SEC_AUTH_TIME : Nat := 0x160203
def Obj.SEC_AUTH_REVOKE : Nat := 0x160204
def Obj.SEC_AUTH_FAILS : Nat := 0x160205
def Obj.SEC_FW_IMAGE : Nat := 0x160301
def Obj.SEC_FW_ACTIVATE : Nat := 0x160302
def Obj.SEC_FW_SLOTS : Nat := 0x160303
def Obj.SEC_SVN_FUSE : Nat := 0x160304
def Obj.SEC_SVN_COMMIT : Nat := 0x160305
def Obj.EVT_FAULT_CAUSE : Nat := 0x170101
def Obj.EVT_FAULT_DETAIL : Nat := 0x170102
def Obj.EVT_BOOT_REASON : Nat := 0x170103
def Obj.EVT_STATE_TIME : Nat := 0x170104
def Obj.EVT_CORE_CE : Nat := 0x170105
def Obj.EVT_STATUS : Nat := 0x170106
def Obj.EVT_LIFE : Nat := 0x170201
def Obj.EVT_FAULT_HISTORY : Nat := 0x170202
def Obj.EVT_FAULT_HISTORY_CLEAR : Nat := 0x170203
def Obj.EVT_RECORD_GEN : Nat := 0x170204

/-! ## The rows, by index range (R262) -/

def Obj.rows10a : List ObjRow := [
  ⟨0x1000, 0x01, 1, 1, 1, "ID_VENDOR", .str, .const, .none, .text "Wairok", .bytesMul 0 1024 1⟩,
  ⟨0x1000, 0x02, 1, 1, 1, "ID_PRODUCT", .str, .const, .none, .text "EV8192-MX", .bytesMul 0 1024 1⟩,
  ⟨0x1000, 0x03, 1, 1, 1, "ID_SERIAL", .u64, .const, .none, .unset, .any⟩,
  ⟨0x1000, 0x04, 1, 1, 1, "ID_SILICON_STEP", .str, .const, .none, .text "C0", .bytesMul 0 1024 1⟩,
  ⟨0x1000, 0x05, 1, 1, 1, "ID_FW_VERSION", .blob, .ro, .v, .bytes [4, 1, 0], .bytesMul 3 3 1⟩,
  ⟨0x1000, 0x06, 1, 1, 1, "ID_FW_DIGEST", .blob, .ro, .v, .rep 32 [0], .bytesMul 32 32 1⟩,
  ⟨0x1000, 0x07, 1, 1, 1, "ID_BOOTROM_VERSION", .u16, .const, .none, .unset, .any⟩,
  ⟨0x1000, 0x08, 1, 1, 1, "ID_MFG_DATE", .u32, .const, .none, .unset, .any⟩,
  ⟨0x1000, 0x09, 1, 1, 1, "ID_MFG_LOT", .str, .const, .none, .bytes [], .bytesMul 0 16 1⟩,
  ⟨0x1000, 0x0A, 1, 1, 1, "ID_ADDRESS", .u16, .ro, .v, .num 0, .any⟩,
  ⟨0x1000, 0x0B, 1, 1, 1, "ID_POSITION", .u8, .ro, .v, .num 0, .any⟩,
  ⟨0x1000, 0x0C, 1, 1, 1, "ID_STATE", .u8, .ro, .v, .unset, .any⟩,
  ⟨0x1000, 0x0D, 1, 1, 1, "ID_UPTIME", .u64, .ro, .v, .num 0, .any⟩,
  ⟨0x1000, 0x0E, 1, 1, 1, "ID_CONFIG", .u8, .ro, .v, .unset, .any⟩,
  ⟨0x1000, 0x0F, 1, 1, 1, "ID_USER_TAG", .str, .rwc, .c, .bytes [], .bytesMul 0 64 1⟩]

def Obj.rows11a : List ObjRow := [
  ⟨0x1100, 0x01, 1, 1, 1, "CAT_OBJECT_COUNT", .u16, .const, .none, .num 1088, .any⟩,
  ⟨0x1100, 0x02, 1, 1, 1, "CAT_LAYOUT_VERSION", .u16, .const, .none, .unset, .any⟩,
  ⟨0x1100, 0x03, 1, 1, 1, "CAT_STATE_REQUEST", .u8, .wo, .v, .unset, .interval 1 4⟩,
  ⟨0x1100, 0x04, 1, 1, 1, "CAT_VERSION_COUNTER", .u32, .ro, .v, .num 0, .any⟩,
  ⟨0x1100, 0x05, 1, 1, 1, "CAT_SEG_TIMEOUT", .u16, .rw, .v, .num 2000, .interval 100 60000⟩,
  ⟨0x1100, 0x06, 1, 1, 1, "CAT_QUEUE_DEPTH", .u8, .const, .none, .num 32, .any⟩,
  ⟨0x1101, 0x01, 1, 1, 1, "CAT_REQUESTS", .u64, .ro, .v, .num 0, .any⟩,
  ⟨0x1101, 0x02, 1, 1, 1, "CAT_ERRORS", .u32, .ro, .v, .num 0, .any⟩,
  ⟨0x1101, 0x03, 1, 1, 1, "CAT_LAST_ERROR", .u32, .ro, .v, .num 0, .any⟩,
  ⟨0x1101, 0x04, 1, 1, 1, "CAT_SEG_OPEN", .u8, .ro, .v, .num 0, .any⟩,
  ⟨0x1101, 0x05, 1, 1, 1, "CAT_SEG_ABANDONED", .u32, .ro, .v, .num 0, .any⟩,
  ⟨0x1101, 0x06, 1, 1, 1, "CAT_QUEUE_FULL", .u32, .ro, .v, .num 0, .any⟩,
  ⟨0x1101, 0x07, 1, 1, 1, "CAT_MB_IGNORED", .u32, .ro, .v, .num 0, .any⟩,
  ⟨0x1101, 0x08, 1, 1, 1, "CAT_MB_REJECTED", .u32, .ro, .v, .num 0, .any⟩,
  ⟨0x1101, 0x09, 1, 1, 1, "CAT_BROADCAST_DISCARDED", .u32, .ro, .v, .num 0, .any⟩,
  ⟨0x1110, 0x01, 1, 1, 1, "FOL_NUMBER", .u32, .rwf, .f, .num 0, .interval 1 4294967295⟩,
  ⟨0x1110, 0x02, 1, 1, 1, "CAT_FOLIO_SEAL", .u8, .wo, .v, .unset, .interval 1 1⟩,
  ⟨0x1110, 0x03, 1, 1, 1, "CAT_FOLIO_UNSEAL", .u8, .wo, .v, .unset, .interval 1 1⟩,
  ⟨0x1110, 0x04, 1, 1, 1, "CAT_FOLIO_COPY", .u8, .wo, .v, .unset, .interval 1 1⟩,
  ⟨0x1110, 0x05, 1, 1, 1, "FOL_STATUS", .u32, .ro, .v, .num 0, .any⟩,
  ⟨0x1110, 0x06, 1, 1, 1, "FOL_OBJECT_COUNT", .u16, .const, .none, .unset, .any⟩,
  ⟨0x1110, 0x07, 1, 1, 1, "FOL_SEAL_PROGRESS", .u8, .ro, .v, .num 0, .any⟩,
  ⟨0x1111, 0x01, 1, 1, 1, "FOL_ACTIVE_NUMBER", .u32, .ro, .v, .num 0, .any⟩,
  ⟨0x1111, 0x02, 1, 1, 1, "FOL_ACTIVE_DIGEST", .blob, .ro, .v, .rep 32 [0], .bytesMul 32 32 1⟩,
  ⟨0x1111, 0x03, 1, 1, 1, "FOL_ACTIVE_OBJ_DIGEST", .blob, .ro, .v, .rep 32 [0], .bytesMul 32 32 1⟩]

def Obj.rows11b : List ObjRow := [
  ⟨0x1111, 0x04, 1, 1, 1, "FOL_ACTIVE_REF_DIGEST", .blob, .ro, .v, .rep 32 [0], .bytesMul 32 32 1⟩,
  ⟨0x1111, 0x05, 1, 1, 1, "FOL_STAGED_DIGEST", .blob, .ro, .v, .rep 32 [0], .bytesMul 32 32 1⟩,
  ⟨0x1111, 0x06, 1, 1, 1, "FOL_STAGED_OBJ_DIGEST", .blob, .ro, .v, .rep 32 [0], .bytesMul 32 32 1⟩,
  ⟨0x1111, 0x07, 1, 1, 1, "FOL_STAGED_REF_DIGEST", .blob, .ro, .v, .rep 32 [0], .bytesMul 32 32 1⟩,
  ⟨0x1112, 0x01, 1, 1, 1, "FOL_ACC_LAST_ID", .u32, .ro, .v, .num 0, .any⟩,
  ⟨0x1112, 0x02, 1, 1, 1, "FOL_ACC_PENDING_POS", .u64, .ro, .v, .num 0, .any⟩,
  ⟨0x1112, 0x03, 1, 1, 1, "FOL_ACC_DONE", .u32, .ro, .v, .num 0, .any⟩,
  ⟨0x1112, 0x04, 1, 1, 1, "FOL_ACC_MISSED", .u32, .ro, .v, .num 0, .any⟩,
  ⟨0x1112, 0x05, 1, 1, 1, "FOL_ACC_MISSED_CAUSE", .u8, .ro, .v, .num 0, .any⟩,
  ⟨0x1112, 0x06, 1, 1, 1, "FOL_ACC_REPLACED", .u32, .ro, .v, .num 0, .any⟩,
  ⟨0x1112, 0x07, 1, 1, 1, "FOL_ACC_REFUSED", .u32, .ro, .v, .num 0, .any⟩,
  ⟨0x1112, 0x08, 1, 1, 1, "FOL_SWITCH_LINE", .u32, .ro, .v, .num 0, .any⟩,
  ⟨0x1113, 0x01, 1, 1, 1, "FOL_BEACON_PERIOD", .u16, .rw, .v, .num 1000, .interval 100 60000⟩,
  ⟨0x1113, 0x02, 1, 1, 1, "FOL_BEACON_SEQ", .u32, .ro, .v, .num 0, .any⟩,
  ⟨0x1113, 0x03, 1, 1, 1, "FOL_QUOTE_NONCE", .blob, .wo, .v, .rep 32 [0], .bytesMul 32 32 1⟩,
  ⟨0x1113, 0x04, 1, 1, 1, "FOL_QUOTE", .blob, .ro, .v, .bytes [], .bytesMul 0 240 1⟩,
  ⟨0x1114, 0x01, 1, 1, 1, "CAT_FOLIO_SAVE_RESUME", .u8, .wo, .v, .unset, .interval 1 1⟩,
  ⟨0x1114, 0x02, 1, 1, 1, "CAT_FOLIO_CLEAR_RESUME", .u8, .wo, .v, .unset, .interval 1 1⟩,
  ⟨0x1114, 0x03, 1, 1, 1, "FOL_RESUME_NUMBER", .u32, .ro, .v, .num 0, .any⟩,
  ⟨0x1114, 0x04, 1, 1, 1, "FOL_RESUME_DIGEST", .blob, .ro, .v, .rep 32 [0], .bytesMul 32 32 1⟩]

def Obj.rows12a : List ObjRow := [
  ⟨0x1200, 0x01, 1, 1, 1, "LNK_RATE_MAX", .u8, .rw, .v, .num 2, .interval 0 2⟩,
  ⟨0x1200, 0x02, 1, 1, 1, "LNK_RETRAIN_INTERVAL", .u16, .rw, .v, .num 100, .interval 10 10000⟩,
  ⟨0x1200, 0x03, 1, 1, 1, "LNK_RETRAIN_A", .u8, .wo, .v, .unset, .interval 1 1⟩,
  ⟨0x1200, 0x04, 1, 1, 1, "LNK_RETRAIN_B", .u8, .wo, .v, .unset, .interval 1 1⟩,
  ⟨0x1200, 0x05, 1, 1, 1, "LNK_PORT_STATE_A", .u8, .ro, .v, .num 0, .any⟩,
  ⟨0x1200, 0x06, 1, 1, 1, "LNK_PORT_STATE_B", .u8, .ro, .v, .num 0, .any⟩,
  ⟨0x1200, 0x07, 1, 1, 1, "LNK_PORT_RATE", .blob, .ro, .v, .rep 2 [0], .bytesMul 2 2 1⟩,
  ⟨0x1200, 0x08, 1, 1, 1, "LNK_WAKE_A", .u8, .wo, .v, .unset, .interval 1 1⟩,
  ⟨0x1200, 0x09, 1, 1, 1, "LNK_WAKE_B", .u8, .wo, .v, .unset, .interval 1 1⟩,
  ⟨0x1200, 0x0A, 1, 1, 1, "LNK_STATUS", .u32, .ro, .v, .num 0, .any⟩,
  ⟨0x1201, 0x01, 1, 1, 1, "LNK_CODE_ERRORS", .blob, .ro, .v, .rep 32 [0], .bytesMul 32 32 1⟩,
  ⟨0x1201, 0x02, 1, 1, 1, "LNK_LOCK_LOSSES", .blob, .ro, .v, .rep 32 [0], .bytesMul 32 32 1⟩,
  ⟨0x1201, 0x03, 1, 1, 1, "LNK_ELASTIC_ERRORS", .blob, .ro, .v, .rep 32 [0], .bytesMul 32 32 1⟩,
  ⟨0x1201, 0x04, 1, 1, 1, "LNK_DESKEW_ERRORS", .blob, .ro, .v, .rep 8 [0], .bytesMul 8 8 1⟩,
  ⟨0x1201, 0x05, 1, 1, 1, "LNK_RECOVERIES", .blob, .ro, .v, .rep 8 [0], .bytesMul 8 8 1⟩,
  ⟨0x1201, 0x06, 1, 1, 1, "LNK_TS_ERRORS", .u32, .ro, .v, .num 0, .any⟩,
  ⟨0x1201, 0x07, 1, 1, 1, "LNK_LANE_STATUS", .blob, .ro, .v, .rep 8 [0], .bytesMul 8 8 1⟩,
  ⟨0x1202, 0x01, 1, 1, 1, "LNK_HOP_DELAY_A", .u32, .ro, .v, .num 0, .any⟩,
  ⟨0x1202, 0x02, 1, 1, 1, "LNK_HOP_DELAY_B", .u32, .ro, .v, .num 0, .any⟩,
  ⟨0x1202, 0x03, 1, 1, 1, "LNK_HOP_SPREAD_A", .u32, .ro, .v, .num 0, .any⟩,
  ⟨0x1202, 0x04, 1, 1, 1, "LNK_HOP_SPREAD_B", .u32, .ro, .v, .num 0, .any⟩,
  ⟨0x1202, 0x05, 1, 1, 1, "LNK_HOP_PERIOD", .u16, .rw, .v, .num 1000, .zeroOr 100 60000⟩,
  ⟨0x1202, 0x06, 1, 1, 1, "LNK_HOP_REJECTED", .u32, .ro, .v, .num 0, .any⟩,
  ⟨0x1202, 0x07, 1, 1, 1, "LNK_HOP_CHANGES", .u32, .ro, .v, .num 0, .any⟩,
  ⟨0x1203, 0x01, 1, 1, 1, "LNK_EYE_PERIOD", .u16, .rw, .v, .num 60, .interval 0 3600⟩]

def Obj.rows12b : List ObjRow := [
  ⟨0x1203, 0x02, 1, 1, 1, "LNK_EYE_MEASURE", .u8, .wo, .v, .unset, .interval 1 1⟩,
  ⟨0x1203, 0x03, 1, 1, 1, "LNK_EYE", .blob, .ro, .v, .rep 32 [0], .bytesMul 32 32 1⟩,
  ⟨0x1203, 0x04, 1, 1, 1, "LNK_TAPS", .blob, .ro, .v, .rep 32 [0], .bytesMul 32 32 1⟩,
  ⟨0x1203, 0x05, 1, 1, 1, "LNK_EYE_LOW_COUNT", .u32, .ro, .v, .num 0, .any⟩,
  ⟨0x1204, 0x01, 8, 1, 1, "LNK_LANE_TEST", .u32, .rw, .v, .num 0, .mask 0xFFFF⟩,
  ⟨0x1204, 0x09, 1, 1, 1, "LNK_PRBS_BITS", .blob, .ro, .v, .rep 64 [0], .bytesMul 64 64 1⟩,
  ⟨0x1204, 0x0A, 1, 1, 1, "LNK_PRBS_ERRORS", .blob, .ro, .v, .rep 64 [0], .bytesMul 64 64 1⟩,
  ⟨0x1204, 0x0B, 1, 1, 1, "LNK_PRBS_RESYNC", .u32, .ro, .v, .num 0, .any⟩,
  ⟨0x1205, 0x01, 1, 1, 1, "LNK_TTL", .u8, .rw, .v, .num 64, .interval 1 255⟩,
  ⟨0x1205, 0x02, 1, 1, 1, "LNK_DISCARDS_A", .blob, .ro, .v, .rep 36 [0], .bytesMul 36 36 1⟩,
  ⟨0x1205, 0x03, 1, 1, 1, "LNK_DISCARDS_B", .blob, .ro, .v, .rep 36 [0], .bytesMul 36 36 1⟩,
  ⟨0x1205, 0x04, 1, 1, 1, "LNK_FRAMES_RX", .blob, .ro, .v, .rep 16 [0], .bytesMul 16 16 1⟩,
  ⟨0x1205, 0x05, 1, 1, 1, "LNK_FRAMES_TX", .blob, .ro, .v, .rep 16 [0], .bytesMul 16 16 1⟩,
  ⟨0x1205, 0x06, 1, 1, 1, "LNK_NAKS_SENT", .u32, .ro, .v, .num 0, .any⟩,
  ⟨0x1205, 0x07, 1, 1, 1, "LNK_DUAL_DROPPED", .u32, .ro, .v, .num 0, .any⟩,
  ⟨0x1206, 0x01, 1, 1, 1, "LNK_CHAIN", .u8, .ro, .v, .num 0, .any⟩,
  ⟨0x1206, 0x02, 1, 1, 1, "LNK_RING_LENGTH", .u8, .ro, .c, .num 0, .any⟩,
  ⟨0x1206, 0x03, 1, 1, 1, "LNK_ENUM_ID", .u32, .ro, .v, .num 0, .any⟩,
  ⟨0x1206, 0x04, 1, 1, 1, "LNK_POSITION_CHANGES", .u32, .ro, .v, .num 0, .any⟩,
  ⟨0x1207, 0x01, 1, 1, 1, "LNK_TIME", .u64, .ro, .v, .num 0, .any⟩,
  ⟨0x1207, 0x02, 1, 1, 1, "LNK_TIME_MASTER", .u8, .rw, .v, .num 0, .interval 0 1⟩,
  ⟨0x1207, 0x03, 1, 1, 1, "LNK_TIME_PERIOD", .u16, .rw, .v, .num 100, .interval 10 10000⟩,
  ⟨0x1207, 0x04, 1, 1, 1, "LNK_TIME_HOLDOVER", .u16, .rw, .v, .num 10, .interval 1 1000⟩,
  ⟨0x1207, 0x05, 1, 1, 1, "LNK_TIME_LOSS", .u16, .rw, .v, .num 1000, .interval 0 60000⟩,
  ⟨0x1207, 0x06, 1, 1, 1, "LNK_TIME_ERROR", .s32, .ro, .v, .num 0, .any⟩]

def Obj.rows12c : List ObjRow := [
  ⟨0x1207, 0x07, 1, 1, 1, "LNK_TIME_STEPS", .u32, .ro, .v, .num 0, .any⟩]

def Obj.rows13a : List ObjRow := [
  ⟨0x1300, 0x01, 1, 1, 1, "CLK_REF_SEL", .u8, .rw, .v, .num 0, .interval 0 1⟩,
  ⟨0x1300, 0x02, 1, 1, 1, "CLK_REF_ACTIVE", .u8, .ro, .v, .num 0, .any⟩,
  ⟨0x1300, 0x03, 1, 1, 1, "CLK_STATUS", .u32, .ro, .v, .num 0, .any⟩,
  ⟨0x1300, 0x04, 1, 1, 1, "CLK_BAND_TABLE", .blob, .rwc, .c, .padded 256 [0xC0, 0xFB, 0x39, 0x00, 0x40, 0x16, 0x40, 0x00], .bytesMul 256 256 1⟩,
  ⟨0x1300, 0x05, 1, 1, 1, "CLK_BAND_TABLE", .blob, .rwc, .c, .padded 256 [0x80, 0xB9, 0x2A, 0x00, 0x00, 0xD4, 0x30, 0x00], .bytesMul 256 256 1⟩,
  ⟨0x1300, 0x06, 1, 1, 1, "CLK_BAND_TABLE", .blob, .rwc, .c, .padded 256 [0x80, 0x84, 0x1E, 0x00, 0xE0, 0xC1, 0x26, 0x00, 0x60, 0x89, 0x25, 0x00, 0x00, 0x63, 0x2E, 0x00, 0x80, 0x2A, 0x2D, 0x00, 0x20, 0x04, 0x36, 0x00, 0xA0, 0xCB, 0x34, 0x00, 0x00, 0x09, 0x3D, 0x00], .bytesMul 256 256 1⟩,
  ⟨0x1300, 0x07, 1, 1, 1, "CLK_BAND_TABLE", .blob, .rwc, .c, .padded 256 [0x80, 0x8D, 0x5B, 0x00, 0xA0, 0x2E, 0x63, 0x00], .bytesMul 256 256 1⟩,
  ⟨0x1300, 0x08, 1, 1, 1, "CLK_BAND_TABLE", .blob, .rwc, .c, .padded 256 [0x80, 0x84, 0x1E, 0x00, 0xE0, 0xC1, 0x26, 0x00, 0x60, 0x89, 0x25, 0x00, 0x00, 0x63, 0x2E, 0x00, 0x80, 0x2A, 0x2D, 0x00, 0x20, 0x04, 0x36, 0x00, 0xA0, 0xCB, 0x34, 0x00, 0x00, 0x09, 0x3D, 0x00], .bytesMul 256 256 1⟩,
  ⟨0x1300, 0x09, 1, 1, 1, "CLK_BAND_IN_USE", .blob, .ro, .v, .rep 5 [0], .bytesMul 5 5 1⟩,
  ⟨0x1300, 0x0A, 1, 1, 1, "CLK_LOCK_MARGIN", .blob, .ro, .v, .rep 5 [0], .bytesMul 5 5 1⟩,
  ⟨0x1300, 0x0B, 1, 1, 1, "CLK_LOCK_LOSSES", .blob, .ro, .v, .rep 20 [0], .bytesMul 20 20 1⟩,
  ⟨0x1300, 0x0C, 1, 1, 1, "CLK_CASE_TEMP", .s16, .ro, .v, .unset, .any⟩,
  ⟨0x1301, 0x01, 1, 1, 1, "CLK_C_MODE", .u8, .rwf, .f, .num 0, .interval 0 1⟩,
  ⟨0x1301, 0x02, 1, 1, 1, "CLK_C_FIXED", .u32, .rwf, .f, .num 1000000, .interval 250000 1000000⟩,
  ⟨0x1301, 0x03, 1, 1, 1, "CLK_RAMP_PROFILE", .blob, .rwf, .f, .bytes [0, 0, 0, 0, 0x40, 0x42, 0x0F, 0], .bytesMul 8 136 8⟩,
  ⟨0x1301, 0x04, 1, 1, 1, "CLK_RAMP_INTERVAL", .u16, .rw, .v, .num 1, .interval 1 1000⟩,
  ⟨0x1301, 0x05, 1, 1, 1, "CLK_C_TARGET", .u32, .ro, .v, .unset, .any⟩,
  ⟨0x1301, 0x06, 1, 1, 1, "CLK_C_FREQ", .u32, .ro, .v, .unset, .any⟩,
  ⟨0x1301, 0x07, 1, 1, 1, "CLK_HOT_FREQ", .u32, .rw, .v, .num 500000, .interval 250000 1000000⟩,
  ⟨0x1301, 0x08, 1, 1, 1, "CLK_BYPASS_COUNT", .u32, .ro, .v, .num 0, .any⟩,
  ⟨0x1302, 0x01, 4, 1, 1, "CLK_OUT_CFG", .u32, .rw, .v, .num 0x00010000, .mask 0x3FFF01⟩,
  ⟨0x1302, 0x05, 1, 1, 1, "CLK_X_VCO", .u32, .rw, .v, .num 3456000, .interval 2000000 4000000⟩,
  ⟨0x1303, 0x01, 1, 1, 1, "CLK_REST_TIMER", .u32, .rw, .v, .num 0, .interval 0 86400000⟩,
  ⟨0x1303, 0x02, 1, 1, 1, "CLK_WAKE_SOURCE", .u8, .ro, .v, .num 0, .any⟩,
  ⟨0x1303, 0x03, 1, 1, 1, "CLK_REST_COUNT", .u32, .ro, .v, .num 0, .any⟩]

def Obj.rows13b : List ObjRow := [
  ⟨0x1303, 0x04, 1, 1, 1, "CLK_REST_ABANDONED", .u32, .ro, .v, .num 0, .any⟩]

def Obj.rows14a : List ObjRow := [
  ⟨0x1400, 0x01, 1, 1, 1, "PWR_PATH_STATE", .u8, .ro, .v, .num 1, .any⟩,
  ⟨0x1400, 0x02, 1, 1, 1, "PWR_STATUS", .u32, .ro, .v, .num 0, .any⟩,
  ⟨0x1400, 0x03, 1, 1, 1, "PWR_VIN", .u16, .ro, .v, .unset, .any⟩,
  ⟨0x1400, 0x04, 1, 1, 1, "PWR_IIN", .u16, .ro, .v, .unset, .any⟩,
  ⟨0x1400, 0x05, 1, 1, 1, "PWR_IIN_LIMIT", .u16, .rwc, .c, .num 3000, .stepped 200 3000 10⟩,
  ⟨0x1400, 0x06, 1, 1, 1, "PWR_VIN_REG", .u16, .rwc, .c, .num 20000, .interval 18000 34000⟩,
  ⟨0x1400, 0x07, 1, 1, 1, "PWR_VSTB_CURRENT", .u16, .ro, .v, .unset, .any⟩,
  ⟨0x1400, 0x08, 1, 1, 1, "PWR_TILE_POWER", .u16, .ro, .v, .unset, .any⟩,
  ⟨0x1401, 0x01, 1, 1, 1, "PWR_SUPP_POWER", .u16, .ro, .v, .num 0, .any⟩,
  ⟨0x1401, 0x02, 1, 1, 1, "PWR_SUPP_EVENTS", .u32, .ro, .v, .num 0, .any⟩,
  ⟨0x1401, 0x03, 1, 1, 1, "PWR_SUPP_DUTY_COUNT", .u32, .ro, .v, .num 0, .any⟩,
  ⟨0x1401, 0x04, 1, 1, 1, "PWR_VSTB_LIMITED", .u32, .ro, .v, .num 0, .any⟩,
  ⟨0x1401, 0x05, 1, 1, 1, "PWR_HANDOVERS", .u32, .ro, .v, .num 0, .any⟩,
  ⟨0x1401, 0x06, 1, 1, 1, "PWR_BOUNCE_HOLDS", .u32, .ro, .v, .num 0, .any⟩,
  ⟨0x1401, 0x07, 1, 1, 1, "PWR_HOLDUP_TIME", .u16, .rwc, .c, .num 100, .interval 10 10000⟩,
  ⟨0x1401, 0x08, 1, 1, 1, "PWR_HOLDUP_ENERGY", .u32, .ro, .v, .num 0, .any⟩,
  ⟨0x1402, 0x01, 1, 1, 1, "PWR_CHG_ENABLE", .u8, .rwc, .c, .num 1, .interval 0 1⟩,
  ⟨0x1402, 0x02, 1, 1, 1, "PWR_CHG_CURRENT", .u16, .rwc, .c, .num 200, .stepped 50 1000 10⟩,
  ⟨0x1402, 0x03, 1, 1, 1, "PWR_CHG_TIMER", .u8, .rwc, .c, .num 4, .interval 1 16⟩,
  ⟨0x1402, 0x04, 1, 1, 1, "PWR_CHG_STATE", .u8, .ro, .v, .num 0, .any⟩,
  ⟨0x1402, 0x05, 1, 1, 1, "PWR_CHG_RESTART", .u8, .wo, .v, .unset, .interval 1 1⟩,
  ⟨0x1402, 0x06, 1, 1, 1, "PWR_CHG_ELAPSED", .u32, .ro, .v, .num 0, .any⟩,
  ⟨0x1402, 0x07, 1, 1, 1, "PWR_CHG_CYCLES", .u32, .ro, .v, .num 0, .any⟩,
  ⟨0x1402, 0x08, 1, 1, 1, "PWR_CELL_CAPACITY", .u16, .rwc, .c, .num 0, .zeroOr 20 20000⟩,
  ⟨0x1402, 0x09, 1, 1, 1, "PWR_CELL_CHARGE", .u16, .ro, .v, .num 0, .any⟩]

def Obj.rows14b : List ObjRow := [
  ⟨0x1402, 0x0A, 1, 1, 1, "PWR_CELL_VOLTAGE", .u16, .ro, .v, .unset, .any⟩,
  ⟨0x1402, 0x0B, 1, 1, 1, "PWR_CELL_CURRENT", .s16, .ro, .v, .num 0, .any⟩,
  ⟨0x1402, 0x0C, 1, 1, 1, "PWR_CELL_TEMP", .s16, .ro, .v, .unset, .any⟩,
  ⟨0x1402, 0x0D, 1, 1, 1, "PWR_CELL_ZONE", .u8, .ro, .v, .num 2, .any⟩,
  ⟨0x1402, 0x0E, 1, 1, 1, "PWR_SHIP", .u8, .rw, .v, .num 0, .interval 0 1⟩]

def Obj.rows15a : List ObjRow := [
  ⟨0x1500, 0x01, 1, 1, 1, "CAL_STATUS", .u32, .ro, .v, .num 0, .any⟩,
  ⟨0x1500, 0x02, 1, 1, 1, "CAL_GEN", .u32, .ro, .v, .unset, .any⟩,
  ⟨0x1500, 0x03, 1, 1, 1, "CAL_COMMIT", .u8, .wo, .v, .unset, .interval 1 1⟩,
  ⟨0x1500, 0x04, 1, 1, 1, "CAL_COMMIT_UNPROTECTED", .u8, .rw, .v, .num 0, .interval 0 1⟩,
  ⟨0x1500, 0x05, 1, 1, 1, "CAL_COMMITS", .u32, .ro, .v, .num 0, .any⟩,
  ⟨0x1500, 0x06, 1, 1, 1, "CAL_TORN_COLUMNS", .blob, .ro, .v, .rep 1024 [0], .bytesMul 1024 1024 1⟩,
  ⟨0x1500, 0x07, 1, 1, 1, "CAL_TORN_PAGES", .blob, .ro, .v, .rep 32 [0], .bytesMul 32 32 1⟩,
  ⟨0x1500, 0x08, 1, 1, 1, "CAL_DEAD_MAP", .blob, .ro, .v, .rep 1024 [0], .bytesMul 1024 1024 1⟩,
  ⟨0x1501, 0x01, 1, 1, 1, "CAL_RUN", .u8, .wo, .v, .unset, .interval 1 2⟩,
  ⟨0x1501, 0x02, 1, 1, 1, "CAL_RUN_STATUS", .u32, .ro, .v, .num 0, .any⟩,
  ⟨0x1501, 0x03, 1, 1, 1, "CAL_LINES", .u16, .rw, .v, .num 1024, .stepped 64 16384 2⟩,
  ⟨0x1501, 0x04, 1, 1, 1, "CAL_RUN_RATE", .u32, .rw, .v, .num 10000, .interval 1000 40000⟩,
  ⟨0x1501, 0x05, 1, 1, 1, "CAL_DARK_LIMIT", .u16, .rwc, .c, .num 64, .interval 0 1023⟩,
  ⟨0x1502, 0x01, 1, 1, 1, "CAL_PIXEL_TABLES", .blob, .rwc, .c, .pixels, .bytesMul 4456448 4456448 1⟩,
  ⟨0x1502, 0x02, 1, 1, 1, "CAL_GAIN_RATIO", .blob, .rwc, .c, .rep 8 [0, 0x40], .bytesMul 16 16 1⟩,
  ⟨0x1502, 0x03, 1, 1, 1, "CAL_E_CAL", .u64, .rwc, .c, .unset, .interval 1 140737488355327⟩,
  ⟨0x1502, 0x04, 1, 1, 1, "CAL_COLOUR_MATRIX", .blob, .rwc, .c, .rep 96 [0], .bytesMul 96 96 1⟩,
  ⟨0x1502, 0x05, 1, 1, 1, "CAL_CLAMP_REF", .blob, .rwc, .c, .rep 192 [0, 0x04], .bytesMul 384 384 1⟩,
  ⟨0x1502, 0x06, 1, 1, 1, "CAL_TEST_COL_REF", .blob, .rwc, .c, .rep 1536 [0x28, 0x04, 0xF8, 0x0B, 0xE0, 0x0F, 0xFF, 0x0F], .bytesMul 12288 12288 1⟩,
  ⟨0x1503, 0x01, 1, 1, 1, "CAL_SPARE_MAP", .blob, .rwc, .c, .rep 128 [0xFF], .bytesMul 128 128 1⟩,
  ⟨0x1503, 0x02, 1, 1, 1, "CAL_ADC_TRIM", .blob, .rwc, .c, .rep 33152 [0x55, 0x55, 0x55, 0], .bytesMul 132608 132608 1⟩,
  ⟨0x1504, 0x01, 1, 1, 1, "CAL_ADC_DNL", .blob, .ro, .v, .rep 16 [0], .bytesMul 16 16 1⟩,
  ⟨0x1504, 0x02, 1, 1, 1, "CAL_FLAT_RESIDUAL", .blob, .ro, .c, .rep 16 [0xFF], .bytesMul 16 16 1⟩,
  ⟨0x1504, 0x03, 1, 1, 1, "CAL_LANE_TRIM", .blob, .rwc, .c, .rep 32 [0], .bytesMul 32 32 1⟩]

def Obj.rows16a : List ObjRow := [
  ⟨0x1600, 0x01, 1, 1, 1, "SEC_VENDOR_KEY", .blob, .const, .none, .rep 64 [0], .bytesMul 64 64 1⟩,
  ⟨0x1600, 0x02, 1, 1, 1, "SEC_OWNER_KEY", .blob, .ro, .k, .bytes [], .bytesMul 0 64 1⟩,
  ⟨0x1600, 0x03, 1, 1, 1, "SEC_OWNER_ENROL", .blob, .wo, .k, .rep 128 [0], .bytesMul 128 128 1⟩,
  ⟨0x1600, 0x04, 1, 1, 1, "SEC_OWNER_SLOTS", .u8, .ro, .k, .num 2, .any⟩,
  ⟨0x1600, 0x05, 1, 1, 1, "SEC_STATUS", .u32, .ro, .v, .num 0, .any⟩,
  ⟨0x1601, 0x01, 1, 1, 1, "SEC_ID_PUBLIC", .blob, .ro, .k, .rep 64 [0], .bytesMul 64 64 1⟩,
  ⟨0x1601, 0x02, 1, 1, 1, "SEC_ID_CERT", .blob, .ro, .k, .bytes [], .bytesMul 0 1024 1⟩,
  ⟨0x1602, 0x01, 1, 1, 1, "SEC_AUTH_CHALLENGE", .blob, .ro, .v, .rep 32 [0], .bytesMul 32 32 1⟩,
  ⟨0x1602, 0x02, 1, 1, 1, "SEC_AUTH_RESPONSE", .blob, .wo, .v, .rep 64 [0], .bytesMul 64 64 1⟩,
  ⟨0x1602, 0x03, 1, 1, 1, "SEC_AUTH_TIME", .u16, .rw, .v, .num 300, .interval 10 3600⟩,
  ⟨0x1602, 0x04, 1, 1, 1, "SEC_AUTH_REVOKE", .u8, .wo, .v, .unset, .any⟩,
  ⟨0x1602, 0x05, 1, 1, 1, "SEC_AUTH_FAILS", .u32, .ro, .v, .num 0, .any⟩,
  ⟨0x1603, 0x01, 1, 1, 1, "SEC_FW_IMAGE", .blob, .wo, .v, .bytes [], .bytesMul 0 2097152 1⟩,
  ⟨0x1603, 0x02, 1, 1, 1, "SEC_FW_ACTIVATE", .u8, .wo, .v, .unset, .interval 0 1⟩,
  ⟨0x1603, 0x03, 1, 1, 1, "SEC_FW_SLOTS", .blob, .ro, .v, .rep 80 [0], .bytesMul 80 80 1⟩,
  ⟨0x1603, 0x04, 1, 1, 1, "SEC_SVN_FUSE", .u8, .ro, .k, .num 0, .any⟩,
  ⟨0x1603, 0x05, 1, 1, 1, "SEC_SVN_COMMIT", .u8, .wo, .v, .unset, .interval 1 1⟩]

def Obj.rows17a : List ObjRow := [
  ⟨0x1700, 0x01, 1, 1, 1, "EVT_LOG", .blob, .ro, .v, .rep 4096 [0], .bytesMul 4096 4096 1⟩,
  ⟨0x1700, 0x02, 1, 1, 1, "EVT_LOG_NEXT", .u32, .ro, .v, .num 0, .any⟩,
  ⟨0x1700, 0x03, 1, 1, 1, "EVT_LOG_LATEST", .blob, .ro, .v, .rep 16 [0], .bytesMul 16 16 1⟩,
  ⟨0x1700, 0x04, 1, 1, 1, "EVT_LOG_CLEAR", .u8, .wo, .v, .unset, .interval 1 1⟩,
  ⟨0x1700, 0x05, 1, 1, 1, "EVT_LAST_CODE", .u16, .ro, .v, .num 0, .any⟩,
  ⟨0x1701, 0x01, 1, 1, 1, "EVT_FAULT_CAUSE", .u8, .ro, .v, .num 0, .any⟩,
  ⟨0x1701, 0x02, 1, 1, 1, "EVT_FAULT_DETAIL", .u32, .ro, .v, .num 0, .any⟩,
  ⟨0x1701, 0x03, 1, 1, 1, "EVT_BOOT_REASON", .u8, .ro, .v, .num 0, .any⟩,
  ⟨0x1701, 0x04, 1, 1, 1, "EVT_STATE_TIME", .u32, .ro, .v, .num 0, .any⟩,
  ⟨0x1701, 0x05, 1, 1, 1, "EVT_CORE_CE", .u32, .ro, .v, .num 0, .any⟩,
  ⟨0x1701, 0x06, 1, 1, 1, "EVT_STATUS", .u32, .ro, .v, .num 0, .any⟩,
  ⟨0x1702, 0x01, 1, 1, 1, "EVT_LIFE", .blob, .ro, .v, .rep 64 [0], .bytesMul 64 64 1⟩,
  ⟨0x1702, 0x02, 1, 1, 1, "EVT_FAULT_HISTORY", .blob, .ro, .v, .rep 2304 [0], .bytesMul 2304 2304 1⟩,
  ⟨0x1702, 0x03, 1, 1, 1, "EVT_FAULT_HISTORY_CLEAR", .u8, .wo, .v, .unset, .interval 1 1⟩,
  ⟨0x1702, 0x04, 1, 1, 1, "EVT_RECORD_GEN", .u32, .ro, .v, .num 0, .any⟩]

def Obj.rows20a : List ObjRow := [
  ⟨0x2000, 0x01, 1, 1, 1, "PX_ACTIVE_COLUMNS", .u16, .const, .none, .num 8192, .any⟩,
  ⟨0x2000, 0x02, 1, 1, 1, "PX_PHYSICAL_COLUMNS", .u16, .const, .none, .num 8288, .any⟩,
  ⟨0x2000, 0x03, 1, 1, 1, "PX_ROWS", .u8, .const, .none, .num 104, .any⟩,
  ⟨0x2000, 0x04, 1, 1, 1, "PX_PITCH", .u16, .const, .none, .num 7000, .any⟩,
  ⟨0x2000, 0x05, 1, 1, 1, "PX_FULL_WELL", .u32, .const, .none, .num 40000, .any⟩,
  ⟨0x2000, 0x06, 1, 1, 1, "PX_BAND_CENTRES", .blob, .const, .none, .bytes [0xA4, 0x01, 0xCC, 0x01, 0xF9, 0x01, 0x1C, 0x02, 0x58, 0x02, 0x8A, 0x02, 0, 0, 0x52, 0x03], .bytesMul 16 16 1⟩,
  ⟨0x2001, 0x01, 1, 1, 1, "PX_BAND_ENABLE", .u8, .rwf, .f, .num 0xFF, .any⟩,
  ⟨0x2001, 0x02, 1, 1, 1, "PX_TDI_DEPTH", .u8, .rwf, .f, .num 10, .interval 1 10⟩,
  ⟨0x2001, 0x03, 1, 1, 1, "PX_SURVEY_ENABLE", .u8, .rwf, .f, .num 0, .interval 0 1⟩,
  ⟨0x2001, 0x04, 1, 1, 1, "PX_BAND_GAIN", .u8, .rwf, .f, .num 0x00, .any⟩,
  ⟨0x2001, 0x05, 1, 1, 1, "PX_ROWS_ENABLED", .u8, .ro, .v, .unset, .any⟩,
  ⟨0x2001, 0x06, 1, 1, 1, "PX_ACTIVE_RATE_LIMIT", .u32, .ro, .v, .unset, .any⟩,
  ⟨0x2002, 0x01, 1, 1, 1, "PX_EXPOSURE", .u32, .rwf, .f, .num 2000, .stepped 100 999960 5⟩,
  ⟨0x2002, 0x02, 1, 1, 1, "PX_EXPOSURE_SHORT", .u32, .rwf, .f, .num 500, .stepped 20 999960 5⟩,
  ⟨0x2002, 0x03, 1, 1, 1, "PX_DUAL_ENABLE", .u8, .rwf, .f, .num 0x00, .any⟩,
  ⟨0x2002, 0x04, 1, 1, 1, "PX_SHORT_ROWS", .u8, .rwf, .f, .num 1, .any⟩,
  ⟨0x2003, 0x01, 8, 1, 1, "PX_BAND_FIRST_ROW", .u8, .rwf, .f, .num 0, .interval 0 9⟩,
  ⟨0x2004, 0x01, 1, 1, 1, "PX_HALL_ENABLE", .u8, .rwf, .f, .num 0xFF, .any⟩,
  ⟨0x2004, 0x02, 1, 1, 1, "PX_COL_BIN", .u8, .rwf, .f, .num 1, .oneOf [1, 2, 4]⟩,
  ⟨0x2005, 0x01, 1, 1, 1, "PX_STATUS", .u32, .ro, .v, .num 0, .any⟩,
  ⟨0x2005, 0x02, 1, 1, 1, "PX_ARRAY_TEMP", .s16, .ro, .v, .unset, .any⟩,
  ⟨0x2005, 0x03, 1, 1, 1, "PX_TEST_COL_ERRORS", .u32, .ro, .v, .num 0, .any⟩]

def Obj.rows21a : List ObjRow := [
  ⟨0x2100, 0x01, 1, 1, 1, "LT_POS_MASTER", .u8, .rw, .v, .num 0, .interval 0 1⟩,
  ⟨0x2100, 0x02, 1, 1, 1, "LT_ENC_FILTER", .u8, .rw, .v, .num 10, .stepped 0 30 5⟩,
  ⟨0x2100, 0x03, 1, 1, 1, "LT_ENC_DIRECTION", .u8, .rw, .v, .num 0, .interval 0 1⟩,
  ⟨0x2100, 0x04, 1, 1, 1, "LT_ENC_ERRORS", .u32, .ro, .v, .num 0, .any⟩,
  ⟨0x2100, 0x05, 1, 1, 1, "LT_REVERSE_COUNTS", .u32, .ro, .v, .num 0, .any⟩,
  ⟨0x2101, 0x01, 1, 1, 1, "LT_WEB_POSITION", .u64, .ro, .v, .num 0, .any⟩,
  ⟨0x2101, 0x02, 1, 1, 1, "LT_SPEED", .f32, .ro, .v, .num 0, .any⟩,
  ⟨0x2101, 0x03, 1, 1, 1, "LT_POS_PERIOD", .u16, .rw, .v, .num 20, .interval 5 1000⟩,
  ⟨0x2101, 0x04, 1, 1, 1, "LT_POS_HOLDOVER", .u32, .rw, .v, .num 200, .interval 50 100000⟩,
  ⟨0x2101, 0x05, 1, 1, 1, "LT_POS_LOSS", .u32, .rw, .v, .num 10000, .interval 0 1000000⟩,
  ⟨0x2101, 0x06, 1, 1, 1, "LT_POS_STEPS", .u32, .ro, .v, .num 0, .any⟩,
  ⟨0x2101, 0x07, 1, 1, 1, "LT_LINES_LOST", .u32, .ro, .v, .num 0, .any⟩,
  ⟨0x2101, 0x08, 1, 1, 1, "LT_TRIG_MODE", .u8, .rwf, .f, .num 1, .interval 0 1⟩,
  ⟨0x2102, 0x01, 1, 1, 1, "LT_MARK_SOURCE", .u8, .rwf, .f, .num 0, .interval 0 2⟩,
  ⟨0x2102, 0x02, 1, 1, 1, "LT_MASTER_MARK", .u8, .rw, .v, .num 0, .interval 0 1⟩,
  ⟨0x2102, 0x03, 1, 1, 1, "LT_MARK_OFFSET", .s32, .rwf, .f, .num 0, .any⟩,
  ⟨0x2102, 0x04, 1, 1, 1, "LT_REPEAT_LINES", .u32, .rwf, .f, .num 70866, .interval 1 70866⟩,
  ⟨0x2102, 0x05, 1, 1, 1, "LT_REPEAT_TOL", .u16, .rwf, .f, .num 8, .interval 0 4096⟩,
  ⟨0x2102, 0x06, 1, 1, 1, "LT_MARK_GUARD", .u16, .rwf, .f, .num 16, .any⟩,
  ⟨0x2102, 0x07, 1, 1, 1, "LT_REPEAT_INDEX", .u32, .ro, .v, .num 0, .any⟩,
  ⟨0x2103, 0x01, 1, 1, 1, "LT_REPEAT_SHORT", .u32, .ro, .v, .num 0, .any⟩,
  ⟨0x2103, 0x02, 1, 1, 1, "LT_REPEAT_LONG", .u32, .ro, .v, .num 0, .any⟩,
  ⟨0x2103, 0x03, 1, 1, 1, "LT_MARKS_IGNORED", .u32, .ro, .v, .num 0, .any⟩,
  ⟨0x2103, 0x04, 1, 1, 1, "LT_MARK_LATE", .u32, .ro, .v, .num 0, .any⟩,
  ⟨0x2104, 0x01, 1, 1, 1, "LT_MAX_LINE_RATE", .u32, .rwf, .f, .num 400000, .interval 1000 400000⟩]

def Obj.rows21b : List ObjRow := [
  ⟨0x2104, 0x02, 1, 1, 1, "LT_LINE_PITCH", .u32, .rwf, .f, .num 0x000400, .interval 256 16777215⟩,
  ⟨0x2104, 0x03, 1, 1, 1, "LT_STATION_OFFSET", .s32, .rwf, .f, .num 0, .any⟩,
  ⟨0x2105, 0x01, 1, 1, 1, "LT_STB_START", .u32, .rwf, .f, .num 110, .stepped 0 999960 5⟩,
  ⟨0x2105, 0x02, 3, 1, 1, "LT_STB_START", .u32, .rwf, .f, .num 0, .stepped 0 999960 5⟩,
  ⟨0x2105, 0x05, 1, 1, 1, "LT_STB_WIDTH", .u32, .rwf, .f, .num 2000, .stepped 0 999960 5⟩,
  ⟨0x2105, 0x06, 3, 1, 1, "LT_STB_WIDTH", .u32, .rwf, .f, .num 0, .stepped 0 999960 5⟩,
  ⟨0x2105, 0x09, 1, 1, 1, "LT_STB_ENABLE", .u8, .rwf, .f, .num 0x01, .mask 0x0F⟩,
  ⟨0x2106, 0x01, 1, 1, 1, "LT_OVERRUN", .u32, .ro, .v, .num 0, .any⟩,
  ⟨0x2106, 0x02, 1, 1, 1, "LT_HELD", .u32, .ro, .v, .num 0, .any⟩,
  ⟨0x2106, 0x03, 1, 1, 1, "LT_LINE_COUNT", .u64, .ro, .v, .num 0, .any⟩,
  ⟨0x2106, 0x04, 1, 1, 1, "LT_STATUS", .u32, .ro, .v, .num 0, .any⟩]

def Obj.rows22a : List ObjRow := [
  ⟨0x2200, 0x01, 1, 1, 1, "LA_ROW_CLAMP", .u8, .rwf, .f, .num 1, .interval 0 1⟩,
  ⟨0x2200, 0x02, 1, 1, 1, "LA_NORM_ENABLE", .u8, .rwf, .f, .num 1, .interval 0 1⟩,
  ⟨0x2200, 0x03, 1, 1, 1, "LA_NORM_ACC_LONG", .u8, .rwf, .f, .num 0, .interval 0 7⟩,
  ⟨0x2200, 0x04, 1, 1, 1, "LA_NORM_ACC_SHORT", .u8, .rwf, .f, .num 1, .interval 0 7⟩,
  ⟨0x2200, 0x05, 1, 1, 1, "LA_SAT_CODE_X1", .u16, .rwf, .f, .num 4000, .interval 1000 4095⟩,
  ⟨0x2200, 0x06, 1, 1, 1, "LA_SAT_CODE_X4", .u16, .rwf, .f, .num 4090, .interval 1000 4095⟩,
  ⟨0x2200, 0x07, 1, 1, 1, "LA_CLAMP_LIMIT", .u16, .rwf, .f, .num 32, .interval 1 1023⟩,
  ⟨0x2201, 0x01, 1, 1, 1, "LA_REF_ROW", .s16, .ro, .v, .unset, .any⟩,
  ⟨0x2201, 0x02, 1, 1, 1, "LA_REG_LINES", .u16, .ro, .v, .unset, .any⟩,
  ⟨0x2201, 0x03, 1, 1, 1, "LA_MAX_DELAY", .u8, .ro, .v, .unset, .any⟩,
  ⟨0x2202, 0x01, 8, 1, 1, "LA_BAND_ROW_OFFSET", .s16, .rwc, .c, .num 0, .signed (-3) 3⟩,
  ⟨0x2203, 0x01, 1, 1, 1, "LA_LINES", .u64, .ro, .v, .num 0, .any⟩,
  ⟨0x2203, 0x02, 1, 1, 1, "LA_SKIPPED", .u32, .ro, .v, .num 0, .any⟩,
  ⟨0x2203, 0x03, 1, 1, 1, "LA_PARTIAL_TDI", .u32, .ro, .v, .num 0, .any⟩,
  ⟨0x2203, 0x04, 1, 1, 1, "LA_BAND_GAP", .u32, .ro, .v, .num 0, .any⟩,
  ⟨0x2203, 0x05, 1, 1, 1, "LA_SAT_SAMPLES", .u64, .ro, .v, .num 0, .any⟩,
  ⟨0x2203, 0x06, 1, 1, 1, "LA_HDR_SAMPLES", .u64, .ro, .v, .num 0, .any⟩,
  ⟨0x2203, 0x07, 1, 1, 1, "LA_NORM_NONE", .u32, .ro, .v, .num 0, .any⟩,
  ⟨0x2203, 0x08, 1, 1, 1, "LA_NORM_RANGE", .u32, .ro, .v, .num 0, .any⟩,
  ⟨0x2203, 0x09, 1, 1, 1, "LA_CLAMP_FALLBACK", .u32, .ro, .v, .num 0, .any⟩,
  ⟨0x2203, 0x0A, 1, 1, 1, "LA_CLIPPED_SAMPLES", .u64, .ro, .v, .num 0, .any⟩,
  ⟨0x2203, 0x0B, 1, 1, 1, "LA_STATUS", .u32, .ro, .v, .num 0, .any⟩]

def Obj.rows23a : List ObjRow := [
  ⟨0x2300, 0x01, 1, 1, 1, "CU_WINDOW_LINES", .u16, .const, .none, .num 256, .any⟩,
  ⟨0x2300, 0x02, 1, 1, 1, "CU_MAX_AGE", .u32, .rwf, .f, .num 0, .zeroOr 10 100000⟩,
  ⟨0x2300, 0x03, 1, 1, 1, "CU_PLAN_LIMIT", .u16, .rwf, .f, .num 100, .interval 50 400⟩,
  ⟨0x2300, 0x04, 1, 1, 1, "CU_TARGET_UTIL", .u8, .rwf, .f, .num 75, .interval 10 100⟩,
  ⟨0x2300, 0x05, 1, 1, 1, "CU_STEAL_WAIT", .u16, .rw, .v, .num 1000, .any⟩,
  ⟨0x2300, 0x06, 1, 1, 1, "CU_HALL_IDLE", .u16, .rw, .v, .num 50, .interval 5 10000⟩,
  ⟨0x2300, 0x07, 1, 1, 1, "CU_STATUS", .u32, .ro, .v, .num 0, .any⟩,
  ⟨0x2301, 0x01, 1, 1, 1, "CU_PLAN_CYCLES", .u32, .ro, .v, .unset, .any⟩,
  ⟨0x2301, 0x02, 1, 1, 1, "CU_REQ_CYCLES", .u32, .ro, .v, .unset, .any⟩,
  ⟨0x2301, 0x03, 1, 1, 1, "CU_TASKS_PER_LINE", .u16, .ro, .v, .unset, .any⟩,
  ⟨0x2301, 0x04, 1, 1, 1, "CU_HALL_UTIL", .blob, .ro, .v, .rep 16 [0], .bytesMul 16 16 1⟩,
  ⟨0x2302, 0x01, 1, 1, 1, "CU_LINES_RETIRED", .u64, .ro, .v, .num 0, .any⟩,
  ⟨0x2302, 0x02, 1, 1, 1, "CU_LINES_PARTIAL", .u32, .ro, .v, .num 0, .any⟩,
  ⟨0x2302, 0x03, 1, 1, 1, "CU_UNJUDGED", .u64, .ro, .v, .num 0, .any⟩,
  ⟨0x2302, 0x04, 1, 1, 1, "CU_RING_RECLAIMS", .u32, .ro, .v, .num 0, .any⟩,
  ⟨0x2302, 0x05, 1, 1, 1, "CU_RESULTS_DROPPED", .u32, .ro, .v, .num 0, .any⟩,
  ⟨0x2302, 0x06, 1, 1, 1, "CU_STEALS_HALL", .u64, .ro, .v, .num 0, .any⟩,
  ⟨0x2302, 0x07, 1, 1, 1, "CU_STEALS_CROSS", .u64, .ro, .v, .num 0, .any⟩,
  ⟨0x2302, 0x08, 1, 1, 1, "CU_KERNEL_LOADS", .u32, .ro, .v, .num 0, .any⟩,
  ⟨0x2302, 0x09, 1, 1, 1, "CU_FETCH_WAITS", .u32, .ro, .v, .num 0, .any⟩,
  ⟨0x2302, 0x0A, 1, 1, 1, "CU_TABLE_FULL", .u32, .ro, .v, .num 0, .any⟩,
  ⟨0x2302, 0x0B, 1, 1, 1, "CU_WINDOW_FILL", .u16, .ro, .v, .num 0, .any⟩,
  ⟨0x2302, 0x0C, 1, 1, 1, "CU_WINDOW_PEAK", .u16, .ro, .v, .num 0, .any⟩,
  ⟨0x2303, 0x01, 1, 1, 1, "SE_BUDGET_CUTS", .u32, .ro, .v, .num 0, .any⟩,
  ⟨0x2303, 0x02, 1, 1, 1, "SE_TASK_FAULTS", .u32, .ro, .v, .num 0, .any⟩]

def Obj.rows23b : List ObjRow := [
  ⟨0x2303, 0x03, 1, 1, 1, "SE_FETCH_ERRORS", .u32, .ro, .v, .num 0, .any⟩,
  ⟨0x2303, 0x04, 1, 1, 1, "SE_OUT_OVERFLOWS", .u32, .ro, .v, .num 0, .any⟩,
  ⟨0x2303, 0x05, 1, 1, 1, "SE_EVENTS_MERGED", .u32, .ro, .v, .num 0, .any⟩,
  ⟨0x2303, 0x06, 1, 1, 1, "SE_ENGINE_MAP", .blob, .ro, .v, .rep 256 [0], .bytesMul 256 256 1⟩]

def Obj.rows24a : List ObjRow := [
  ⟨0x2400, 0x01, 1, 1, 1, "KN_REGION_MAP", .blob, .rwf, .f, .bytes [], .bytesMul 0 32768 32⟩,
  ⟨0x2400, 0x02, 1, 1, 1, "KN_PARAMS", .blob, .rwf, .f, .bytes [], .bytesMul 0 262144 1⟩,
  ⟨0x2400, 0x03, 1, 1, 1, "KN_EVENT_ENABLE", .u64, .rwf, .f, .num 0xFFFFFFFFFFFFFFFF, .any⟩,
  ⟨0x2400, 0x04, 1, 1, 1, "KN_CROP_SEND", .u8, .rwf, .f, .num 1, .interval 0 1⟩,
  ⟨0x2400, 0x05, 1, 1, 1, "KN_REGION_COUNT", .u16, .ro, .v, .num 0, .any⟩,
  ⟨0x2401, 0x01, 16, 1, 1, "KN_KERNEL", .blob, .rwf, .f, .bytes [], .bytesMul 0 16877056 1⟩,
  ⟨0x2402, 0x01, 1, 1, 1, "KN_BUILTIN_ID", .u16, .const, .none, .num 0x0001, .any⟩,
  ⟨0x2402, 0x02, 1, 1, 1, "KN_BUILTIN_VER", .u16, .const, .none, .unset, .any⟩,
  ⟨0x2403, 0x01, 1, 1, 1, "KN_EVENTS_RAISED", .u64, .ro, .v, .num 0, .any⟩,
  ⟨0x2403, 0x02, 1, 1, 1, "KN_EVENTS_SUPPRESSED", .u32, .ro, .v, .num 0, .any⟩,
  ⟨0x2403, 0x03, 1, 1, 1, "KN_CROPS", .u32, .ro, .v, .num 0, .any⟩,
  ⟨0x2403, 0x04, 1, 1, 1, "KN_CROPS_MERGED", .u32, .ro, .v, .num 0, .any⟩,
  ⟨0x2403, 0x05, 1, 1, 1, "KN_CROP_TRUNC", .u32, .ro, .v, .num 0, .any⟩,
  ⟨0x2403, 0x06, 1, 1, 1, "KN_MARKS", .u32, .ro, .v, .num 0, .any⟩,
  ⟨0x2403, 0x07, 1, 1, 1, "KN_STATE_LOST", .u32, .ro, .v, .num 0, .any⟩]

def Obj.rows25a : List ObjRow := [
  ⟨0x2500, 0x01, 1, 1, 1, "VA_BLOCKS", .u16, .const, .none, .num 6144, .any⟩,
  ⟨0x2500, 0x02, 1, 1, 1, "VA_RING_LINES", .u16, .rwf, .f, .num 64, .interval 16 256⟩,
  ⟨0x2500, 0x03, 1, 1, 1, "VA_RES_STAGING", .u16, .rw, .v, .num 1024, .interval 64 4096⟩,
  ⟨0x2500, 0x04, 1, 1, 1, "VA_RES_GALLERY", .u16, .rw, .v, .num 512, .interval 0 4096⟩,
  ⟨0x2500, 0x05, 1, 1, 1, "VA_RES_LINK_TX", .u16, .rw, .v, .num 128, .interval 32 512⟩,
  ⟨0x2500, 0x06, 1, 1, 1, "VA_RES_CATALOGUE", .u16, .rw, .v, .num 256, .interval 64 1024⟩,
  ⟨0x2500, 0x07, 1, 1, 1, "VA_RES_LINK_RX", .u16, .const, .none, .num 128, .any⟩,
  ⟨0x2500, 0x08, 1, 1, 1, "VA_BORROW_LIMIT", .u16, .rw, .v, .num 1024, .interval 0 6144⟩,
  ⟨0x2501, 0x01, 1, 1, 1, "VA_HELD", .blob, .ro, .v, .rep 26 [0], .bytesMul 26 26 1⟩,
  ⟨0x2501, 0x02, 1, 1, 1, "VA_BORROWED", .blob, .ro, .v, .rep 26 [0], .bytesMul 26 26 1⟩,
  ⟨0x2501, 0x03, 1, 1, 1, "VA_LENDABLE", .u16, .ro, .v, .unset, .any⟩,
  ⟨0x2501, 0x04, 1, 1, 1, "VA_FREE", .u16, .ro, .v, .unset, .any⟩,
  ⟨0x2501, 0x05, 1, 1, 1, "VA_RECLAIMS", .u32, .ro, .v, .num 0, .any⟩,
  ⟨0x2501, 0x06, 1, 1, 1, "VA_BORROW_FAILS", .u32, .ro, .v, .num 0, .any⟩,
  ⟨0x2502, 0x01, 1, 1, 1, "VA_REF_RES", .u8, .rwf, .f, .num 0, .interval 0 1⟩,
  ⟨0x2502, 0x02, 1, 1, 1, "VA_REF_LINE_BYTES", .u32, .ro, .v, .unset, .any⟩,
  ⟨0x2502, 0x03, 1, 1, 1, "VA_SLOT_CLEAR", .u8, .wo, .v, .unset, .interval 1 1⟩,
  ⟨0x2502, 0x04, 1, 1, 1, "VA_SLOT_STATUS", .u8, .ro, .v, .num 0, .any⟩,
  ⟨0x2503, 0x01, 1, 1, 1, "VA_ARCH_CE", .u32, .ro, .v, .num 0, .any⟩,
  ⟨0x2503, 0x02, 1, 1, 1, "VA_ARCH_UE", .u32, .ro, .v, .num 0, .any⟩,
  ⟨0x2503, 0x03, 1, 1, 1, "VA_ARCH_LOAD", .u16, .ro, .v, .num 0, .any⟩,
  ⟨0x2503, 0x04, 1, 1, 1, "VA_SCRUB_PASSES", .u32, .ro, .v, .num 0, .any⟩,
  ⟨0x2503, 0x05, 1, 1, 1, "VA_STALE_READS", .u32, .ro, .v, .num 0, .any⟩,
  ⟨0x2503, 0x06, 1, 1, 1, "VA_CROP_NEXT_ID", .u32, .ro, .v, .num 0, .any⟩,
  ⟨0x2503, 0x07, 1, 1, 1, "VA_CROP_OLDEST_ID", .u32, .ro, .v, .num 0, .any⟩]

def Obj.rows26a : List ObjRow := [
  ⟨0x2600, 0x01, 1, 1, 1, "GA_MUX_MODE", .u8, .rw, .v, .num 0, .interval 0 1⟩,
  ⟨0x2600, 0x02, 1, 1, 1, "GA_PIXEL_RATE", .u32, .const, .none, .num 1200000000, .any⟩,
  ⟨0x2600, 0x03, 1, 1, 1, "GA_STATUS", .u32, .ro, .v, .num 0, .any⟩,
  ⟨0x2600, 0x04, 1, 1, 1, "GA_VIEW_NEXT_ID", .u32, .ro, .v, .num 0, .any⟩,
  ⟨0x2600, 0x05, 1, 1, 1, "GA_VIEW_OLDEST_ID", .u32, .ro, .v, .num 0, .any⟩,
  ⟨0x2600, 0x06, 1, 1, 1, "GA_VIEW_DIR", .blob, .ro, .v, .rep 1024 [0], .bytesMul 1024 1024 1⟩,
  ⟨0x2601, 0x01, 1, 2, 1, "GA_AUX_LANES", .u8, .rw, .v, .num 4, .interval 1 4⟩,
  ⟨0x2601, 0x02, 1, 2, 1, "GA_AUX_LANE_MAP", .u8, .rw, .v, .num 0xE4, .any⟩,
  ⟨0x2601, 0x03, 1, 2, 1, "GA_AUX_POLARITY", .u8, .rw, .v, .num 0x00, .mask 0x1F⟩,
  ⟨0x2601, 0x04, 1, 2, 1, "GA_AUX_ENABLE", .u8, .rw, .v, .num 0, .interval 0 1⟩,
  ⟨0x2601, 0x05, 1, 2, 1, "GA_AUX_ECC_CORRECTED", .u32, .ro, .v, .num 0, .any⟩,
  ⟨0x2601, 0x06, 1, 2, 1, "GA_AUX_ECC_ERRORS", .u32, .ro, .v, .num 0, .any⟩,
  ⟨0x2601, 0x07, 1, 2, 1, "GA_AUX_CRC_ERRORS", .u32, .ro, .v, .num 0, .any⟩,
  ⟨0x2601, 0x08, 1, 2, 1, "GA_AUX_SOT_ERRORS", .u32, .ro, .v, .num 0, .any⟩,
  ⟨0x2601, 0x09, 1, 2, 1, "GA_AUX_UNMATCHED", .u32, .ro, .v, .num 0, .any⟩,
  ⟨0x2601, 0x0A, 1, 2, 1, "GA_AUX_PORT_STATUS", .u8, .ro, .v, .num 0, .any⟩,
  ⟨0x2610, 0x01, 1, 8, 16, "GA_CTX_ENABLE", .u8, .rw, .v, .num 0, .interval 0 1⟩,
  ⟨0x2610, 0x02, 1, 8, 16, "GA_CTX_SOURCE", .u8, .rw, .v, .num 0, .interval 0 3⟩,
  ⟨0x2610, 0x03, 1, 8, 16, "GA_CTX_VC", .u8, .rw, .v, .num 0, .interval 0 15⟩,
  ⟨0x2610, 0x04, 1, 8, 16, "GA_CTX_DT", .u8, .rw, .v, .num 0x2A, .any⟩,
  ⟨0x2610, 0x05, 1, 8, 16, "GA_CTX_WIDTH", .u16, .rw, .v, .num 1920, .interval 16 8192⟩,
  ⟨0x2610, 0x06, 1, 8, 16, "GA_CTX_HEIGHT", .u16, .rw, .v, .num 1080, .interval 16 16384⟩,
  ⟨0x2610, 0x07, 1, 8, 16, "GA_CTX_PATTERN", .u8, .rw, .v, .num 1, .interval 0 4⟩,
  ⟨0x2610, 0x08, 1, 8, 16, "GA_CTX_PHASE", .u8, .rw, .v, .num 0, .interval 0 15⟩,
  ⟨0x2610, 0x09, 1, 8, 16, "GA_CTX_BLACK", .u16, .rw, .v, .num 0, .any⟩]

def Obj.rows26b : List ObjRow := [
  ⟨0x2610, 0x0A, 1, 8, 16, "GA_CTX_WHITE", .u16, .rw, .v, .num 65535, .interval 1 65535⟩,
  ⟨0x2610, 0x0B, 1, 8, 16, "GA_CTX_MATRIX", .blob, .rw, .v, .bytes [0, 16, 0, 0, 0, 0, 0, 0, 0, 0, 0, 0, 0, 16, 0, 0, 0, 0, 0, 0, 0, 0, 0, 0, 0, 16, 0, 0, 0, 0], .bytesMul 30 30 1⟩,
  ⟨0x2610, 0x0C, 1, 8, 16, "GA_CTX_TONE", .u8, .rw, .v, .num 1, .interval 0 2⟩,
  ⟨0x2610, 0x0D, 1, 8, 16, "GA_CTX_WINDOW", .blob, .rw, .v, .rep 8 [0], .bytesMul 8 8 1⟩,
  ⟨0x2610, 0x0E, 1, 8, 16, "GA_CTX_OUTPUTS", .u8, .rw, .v, .num 0x01, .mask 0x0F⟩,
  ⟨0x2610, 0x0F, 1, 8, 16, "GA_CTX_D_SIZE", .blob, .rw, .v, .bytes [0xC0, 0x03, 0x1C, 0x02], .bytesMul 4 4 1⟩,
  ⟨0x2610, 0x10, 1, 8, 16, "GA_CTX_C_SIZE", .blob, .rw, .v, .bytes [0x80, 0x07, 0x38, 0x04], .bytesMul 4 4 1⟩,
  ⟨0x2610, 0x11, 1, 8, 16, "GA_CTX_C_DEPTH", .u8, .rw, .v, .num 8, .oneOf [8, 10]⟩,
  ⟨0x2610, 0x12, 1, 8, 16, "GA_CTX_M_MODE", .u8, .rw, .v, .num 0, .interval 0 1⟩,
  ⟨0x2610, 0x13, 1, 8, 16, "GA_CTX_M_WEIGHTS", .blob, .rw, .v, .bytes [0, 0, 0, 0x10, 0, 0, 0, 0, 0, 0], .bytesMul 10 10 1⟩,
  ⟨0x2610, 0x14, 1, 8, 16, "GA_CTX_M_PLANES", .blob, .rw, .v, .rep 4 [0xFF], .bytesMul 4 4 1⟩,
  ⟨0x2610, 0x15, 1, 8, 16, "GA_CTX_M_BIN", .u8, .rw, .v, .num 1, .oneOf [1, 2, 4]⟩,
  ⟨0x2610, 0x16, 1, 8, 16, "GA_CTX_STAT_CH", .blob, .rw, .v, .bytes [0, 1, 2, 0xFF], .bytesMul 4 4 1⟩,
  ⟨0x2610, 0x17, 1, 8, 16, "GA_CTX_FRAME_STEP", .u8, .rw, .v, .num 1, .interval 1 255⟩,
  ⟨0x2610, 0x18, 1, 8, 16, "GA_CTX_WEIGHT", .u8, .rw, .v, .num 1, .interval 1 15⟩,
  ⟨0x2610, 0x19, 1, 8, 16, "GA_CTX_RES_BLOCKS", .u16, .rw, .v, .num 64, .interval 0 4096⟩,
  ⟨0x2610, 0x1A, 1, 8, 16, "GA_CTX_SEND", .u8, .rw, .v, .num 1, .interval 0 1⟩,
  ⟨0x2610, 0x1B, 1, 8, 16, "GA_CTX_FRAME_TIMEOUT", .u16, .rw, .v, .num 100, .interval 1 10000⟩,
  ⟨0x2610, 0x1C, 1, 8, 16, "GA_CTX_SURVEY_STEP", .u8, .rw, .v, .num 1, .interval 1 64⟩,
  ⟨0x2610, 0x1D, 1, 8, 16, "GA_CTX_SURVEY_SYNC", .u8, .rw, .v, .num 0, .interval 0 1⟩,
  ⟨0x2610, 0x1E, 1, 8, 16, "GA_CTX_APPLY", .u8, .wo, .v, .unset, .interval 1 1⟩,
  ⟨0x2610, 0x1F, 1, 8, 16, "GA_CTX_STATUS", .u32, .ro, .v, .num 0, .any⟩,
  ⟨0x2610, 0x20, 1, 8, 16, "GA_CTX_FRAMES", .u32, .ro, .v, .num 0, .any⟩,
  ⟨0x2610, 0x21, 1, 8, 16, "GA_CTX_FRAMES_DROPPED", .u32, .ro, .v, .num 0, .any⟩,
  ⟨0x2610, 0x22, 1, 8, 16, "GA_CTX_FRAMES_SHORT", .u32, .ro, .v, .num 0, .any⟩]

def Obj.rows26c : List ObjRow := [
  ⟨0x2610, 0x23, 1, 8, 16, "GA_CTX_FRAMES_LONG", .u32, .ro, .v, .num 0, .any⟩,
  ⟨0x2610, 0x24, 1, 8, 16, "GA_CTX_LINES_CUT", .u32, .ro, .v, .num 0, .any⟩]

def Obj.rows27a : List ObjRow := [
  ⟨0x2700, 0x01, 1, 1, 1, "AM_REF_BUFFER", .u8, .rw, .v, .num 1, .interval 0 1⟩,
  ⟨0x2700, 0x02, 1, 1, 1, "AM_REF_ON_TIME", .u32, .ro, .v, .num 0, .any⟩,
  ⟨0x2700, 0x03, 1, 1, 1, "AM_CAL_START", .u8, .wo, .v, .unset, .interval 1 3⟩,
  ⟨0x2700, 0x04, 1, 1, 1, "AM_CAL_STATUS", .u32, .ro, .v, .num 0, .any⟩,
  ⟨0x2700, 0x05, 1, 1, 1, "AM_CAL_MIN_SPUR", .u16, .rw, .v, .num 720, .interval 600 900⟩,
  ⟨0x2700, 0x06, 1, 1, 1, "AM_BG_ENABLE", .u8, .rw, .v, .num 1, .interval 0 1⟩,
  ⟨0x2700, 0x07, 1, 1, 1, "AM_SYNC_RESET", .u8, .wo, .v, .unset, .mask 0x03⟩,
  ⟨0x2700, 0x08, 1, 1, 1, "AM_CAL_SPUR", .blob, .ro, .v, .rep 4 [0], .bytesMul 4 4 1⟩,
  ⟨0x2701, 0x01, 1, 2, 1, "AM_CH_ENABLE", .u8, .rw, .v, .num 0, .interval 0 1⟩,
  ⟨0x2701, 0x02, 1, 2, 1, "AM_CH_INPUT", .u8, .rw, .v, .num 0, .interval 0 3⟩,
  ⟨0x2701, 0x03, 1, 2, 1, "AM_CH_GAIN", .u8, .rw, .v, .num 0, .interval 0 3⟩,
  ⟨0x2701, 0x04, 1, 2, 1, "AM_CH_PRESET", .u8, .rw, .v, .num 0, .interval 0 4⟩,
  ⟨0x2701, 0x05, 1, 2, 1, "AM_CH_MINPHASE", .u8, .rw, .v, .num 0, .interval 0 1⟩,
  ⟨0x2701, 0x06, 1, 2, 1, "AM_CH_SKEW", .s16, .rw, .v, .num 0, .signed (-2048) 2047⟩,
  ⟨0x2701, 0x07, 1, 2, 1, "AM_CH_SAMPLES", .u64, .ro, .v, .num 0, .any⟩,
  ⟨0x2701, 0x08, 1, 2, 1, "AM_CH_STATUS", .u32, .ro, .v, .num 0, .any⟩,
  ⟨0x2701, 0x09, 1, 2, 1, "AM_CH_CLIPS", .u32, .ro, .v, .num 0, .any⟩,
  ⟨0x2701, 0x0A, 1, 2, 1, "AM_CH_SPUR", .u16, .ro, .v, .unset, .any⟩,
  ⟨0x2701, 0x0B, 1, 2, 1, "AM_CH_LATENCY", .u32, .ro, .v, .unset, .any⟩,
  ⟨0x2703, 0x01, 8, 1, 1, "AM_IN_OFFSET", .s32, .rwc, .c, .num 0, .any⟩,
  ⟨0x2703, 0x09, 8, 1, 1, "AM_IN_GAIN", .u32, .rwc, .c, .num 0x00400000, .any⟩,
  ⟨0x2704, 0x01, 1, 1, 1, "AM_SLICE_FACTORS_A", .blob, .rwc, .c, .bytes [0, 0, 0, 0x80, 0, 0, 0, 0, 0, 0, 0, 0x80, 0, 0, 0, 0, 0, 0, 0, 0x80, 0, 0, 0, 0, 0, 0, 0, 0x80, 0, 0, 0, 0, 0, 0, 0x40, 0, 0, 0, 0x40, 0, 0, 0, 0x40, 0, 0, 0, 0x40, 0], .bytesMul 48 48 1⟩,
  ⟨0x2704, 0x02, 1, 1, 1, "AM_SLICE_FACTORS_B", .blob, .rwc, .c, .bytes [0, 0, 0, 0x80, 0, 0, 0, 0, 0, 0, 0, 0x80, 0, 0, 0, 0, 0, 0, 0, 0x80, 0, 0, 0, 0, 0, 0, 0, 0x80, 0, 0, 0, 0, 0, 0, 0x40, 0, 0, 0, 0x40, 0, 0, 0, 0x40, 0, 0, 0, 0x40, 0], .bytesMul 48 48 1⟩,
  ⟨0x2710, 0x01, 1, 2, 1, "AM_ACC_ENABLE", .u8, .rw, .v, .num 1, .interval 0 1⟩,
  ⟨0x2710, 0x02, 1, 8, 1, "AM_ACC_CHANNEL", .u8, .rw, .v, .num 0, .interval 0 1⟩]

def Obj.rows27b : List ObjRow := [
  ⟨0x2710, 0x03, 1, 1, 1, "AM_ACC_GATE", .u8, .rw, .v, .num 1, .interval 0 9⟩,
  ⟨0x2710, 0x04, 1, 8, 1, "AM_ACC_PIN", .u8, .rw, .v, .num 0, .any⟩,
  ⟨0x2710, 0x05, 1, 8, 1, "AM_ACC_WIDTH", .u32, .rw, .v, .num 1000, .interval 16 33000000⟩,
  ⟨0x2710, 0x06, 1, 8, 1, "AM_ACC_CAPTURE", .u8, .wo, .v, .unset, .interval 1 1⟩,
  ⟨0x2710, 0x07, 1, 8, 1, "AM_ACC_RESULT", .blob, .ro, .v, .rep 32 [0], .bytesMul 32 32 1⟩,
  ⟨0x2710, 0x08, 1, 8, 1, "AM_ACC_OVERLAPS", .u32, .ro, .v, .num 0, .any⟩,
  ⟨0x2710, 0x09, 1, 8, 1, "AM_ACC_WINDOWS", .u32, .ro, .v, .num 0, .any⟩,
  ⟨0x2711, 0x03, 1, 1, 1, "AM_ACC_GATE", .u8, .rw, .v, .num 2, .interval 0 9⟩,
  ⟨0x2712, 0x01, 1, 6, 1, "AM_ACC_ENABLE", .u8, .rw, .v, .num 0, .interval 0 1⟩,
  ⟨0x2712, 0x03, 1, 6, 1, "AM_ACC_GATE", .u8, .rw, .v, .num 0, .interval 0 9⟩,
  ⟨0x2720, 0x01, 1, 4, 1, "AM_MM_ENABLE", .u8, .rw, .v, .num 0, .interval 0 1⟩,
  ⟨0x2720, 0x02, 1, 4, 1, "AM_MM_CHANNEL", .u8, .rw, .v, .num 0, .interval 0 1⟩,
  ⟨0x2720, 0x03, 1, 4, 1, "AM_MM_GATE", .u8, .rw, .v, .num 0, .interval 0 7⟩,
  ⟨0x2720, 0x04, 1, 4, 1, "AM_MM_CLEAR", .u8, .wo, .v, .unset, .interval 1 1⟩,
  ⟨0x2720, 0x05, 1, 4, 1, "AM_MM_RESULT", .blob, .ro, .v, .rep 20 [0], .bytesMul 20 20 1⟩,
  ⟨0x2730, 0x01, 1, 2, 1, "AM_GZ_ENABLE", .u8, .rw, .v, .num 0, .interval 0 1⟩,
  ⟨0x2730, 0x02, 1, 2, 1, "AM_GZ_FREQ", .u32, .rw, .v, .num 100000, .any⟩,
  ⟨0x2730, 0x03, 1, 2, 1, "AM_GZ_N", .u32, .rw, .v, .num 4096, .interval 16 1048576⟩,
  ⟨0x2730, 0x04, 1, 2, 1, "AM_GZ_RESULT", .blob, .ro, .v, .rep 24 [0], .bytesMul 24 24 1⟩]

def Obj.rows28a : List ObjRow := [
  ⟨0x2800, 0x01, 1, 1, 1, "PE_PIN_CFG", .blob, .rwc, .c, .rep 256 [0, 0x0A, 0, 0], .bytesMul 1024 1024 1⟩,
  ⟨0x2800, 0x02, 1, 1, 1, "PE_ENABLE", .u32, .rw, .v, .num 0, .any⟩,
  ⟨0x2800, 0x03, 1, 1, 1, "PE_RESTART", .u32, .wo, .v, .unset, .any⟩,
  ⟨0x2800, 0x04, 1, 1, 1, "PE_BANK_VIO", .blob, .ro, .v, .rep 8 [0], .bytesMul 8 8 1⟩,
  ⟨0x2800, 0x05, 1, 1, 1, "PE_PIN_LEVEL", .blob, .ro, .v, .rep 32 [0], .bytesMul 32 32 1⟩,
  ⟨0x2800, 0x06, 1, 1, 1, "PE_STATUS", .u32, .ro, .v, .num 0, .any⟩,
  ⟨0x2800, 0x07, 1, 1, 1, "PE_PIN_CLOCK", .u32, .const, .none, .num 500000000, .any⟩,
  ⟨0x2810, 0x01, 1, 32, 1, "PEN_PROGRAM", .blob, .rw, .v, .bytes [], .bytesMul 0 176 1⟩,
  ⟨0x2810, 0x02, 1, 32, 1, "PEN_PATCH", .u32, .wo, .v, .unset, .mask 0x1FFFFF⟩,
  ⟨0x2810, 0x03, 1, 32, 1, "PEN_INJECT", .u32, .wo, .v, .unset, .mask 0x1FFFF⟩,
  ⟨0x2810, 0x04, 1, 32, 1, "PEN_CLKDIV", .u32, .rw, .v, .num 0x000100, .interval 256 16777215⟩,
  ⟨0x2810, 0x05, 1, 32, 1, "PEN_PINS", .blob, .rw, .v, .bytes [0, 1, 0, 0, 0, 0, 0, 0], .bytesMul 8 8 1⟩,
  ⟨0x2810, 0x06, 1, 32, 1, "PEN_SHIFT", .u16, .rw, .v, .num 0, .mask 0xFFCF⟩,
  ⟨0x2810, 0x07, 1, 32, 1, "PEN_EVENT_MASK", .u64, .rw, .v, .num 0, .any⟩,
  ⟨0x2810, 0x08, 1, 32, 1, "PEN_TX", .u32, .wo, .v, .unset, .any⟩,
  ⟨0x2810, 0x09, 1, 32, 1, "PEN_RX", .u32, .ro, .v, .unset, .any⟩,
  ⟨0x2810, 0x0A, 1, 32, 1, "PEN_STATUS", .u32, .ro, .v, .num 0, .any⟩,
  ⟨0x2810, 0x0B, 1, 32, 1, "PEN_PC", .u8, .ro, .v, .num 0, .any⟩,
  ⟨0x2810, 0x0C, 1, 32, 1, "PEN_REGS", .blob, .ro, .v, .rep 24 [0], .bytesMul 24 24 1⟩,
  ⟨0x2810, 0x0D, 1, 32, 1, "PEN_EVENT_DROPS", .u32, .ro, .v, .num 0, .any⟩,
  ⟨0x2810, 0x0E, 1, 32, 1, "PEN_RX_DROPS", .u32, .ro, .v, .num 0, .any⟩]

def Obj.rows29a : List ObjRow := [
  ⟨0x2900, 0x01, 1, 1, 1, "TW_ALERT_MASK", .u8, .rw, .v, .num 0x00, .mask 0x1F⟩,
  ⟨0x2900, 0x02, 1, 1, 1, "TW_ALERT_PENDING", .u8, .ro, .v, .num 0, .any⟩,
  ⟨0x2900, 0x03, 1, 1, 1, "TW_ALERT_SET", .u8, .wo, .v, .unset, .interval 1 1⟩,
  ⟨0x2900, 0x04, 1, 1, 1, "TW_ALERT_CLEAR", .u8, .wo, .v, .unset, .mask 0x1F⟩,
  ⟨0x2900, 0x05, 1, 1, 1, "TW_ALERT_PORT", .u8, .rw, .v, .num 1, .interval 0 1⟩,
  ⟨0x2900, 0x06, 1, 1, 1, "TW_ARA_LOST", .u32, .ro, .v, .num 0, .any⟩,
  ⟨0x2901, 0x01, 1, 2, 1, "TW_ENABLE", .u8, .rw, .v, .num 1, .interval 0 1⟩,
  ⟨0x2901, 0x02, 1, 1, 1, "TW_ADDR", .blob, .rwc, .c, .bytes [0x5B, 0, 0, 0], .bytesMul 4 4 1⟩,
  ⟨0x2901, 0x03, 1, 2, 1, "TW_ADDR_MASK", .u8, .rwc, .c, .num 0x00, .mask 0x7F⟩,
  ⟨0x2901, 0x04, 1, 2, 1, "TW_REST_MODE", .u8, .rw, .v, .num 0, .interval 0 2⟩,
  ⟨0x2901, 0x05, 1, 2, 1, "TW_STATUS", .u32, .ro, .v, .num 0, .any⟩,
  ⟨0x2901, 0x06, 1, 2, 1, "TW_RS_ACK", .u32, .ro, .v, .num 0, .any⟩,
  ⟨0x2901, 0x07, 1, 2, 1, "TW_TIMEOUTS", .u32, .ro, .v, .num 0, .any⟩,
  ⟨0x2901, 0x08, 1, 2, 1, "TW_REST_WAKES", .u32, .ro, .v, .num 0, .any⟩,
  ⟨0x2901, 0x09, 1, 2, 1, "TW_STRETCH_MAX", .u16, .ro, .v, .num 0, .any⟩,
  ⟨0x2901, 0x0A, 1, 2, 1, "TW_TRANSFERS", .u32, .ro, .v, .num 0, .any⟩,
  ⟨0x2901, 0x10, 1, 1, 1, "TW_SPEED", .u8, .rw, .v, .num 1, .interval 0 2⟩,
  ⟨0x2901, 0x11, 1, 1, 1, "TW_XFER", .blob, .wo, .v, .bytes [], .bytesMul 8 72 1⟩,
  ⟨0x2901, 0x12, 1, 1, 1, "TW_RESULT", .blob, .ro, .v, .bytes [0xFF, 0, 0, 0, 0, 0, 0, 0], .bytesMul 8 72 1⟩,
  ⟨0x2901, 0x13, 1, 1, 1, "TW_RECOVER", .u8, .wo, .v, .unset, .interval 1 1⟩,
  ⟨0x2901, 0x14, 1, 1, 1, "TW_STRETCH_LIMIT", .u16, .rw, .v, .num 25, .interval 1 100⟩,
  ⟨0x2901, 0x15, 1, 1, 1, "TW_ARB_LOST", .u32, .ro, .v, .num 0, .any⟩,
  ⟨0x2901, 0x16, 1, 1, 1, "TW_BUS_ERR", .u32, .ro, .v, .num 0, .any⟩,
  ⟨0x2901, 0x17, 1, 1, 1, "TW_RECOVERIES", .u32, .ro, .v, .num 0, .any⟩,
  ⟨0x2901, 0x18, 1, 1, 1, "TW_WINDOW_OUT", .blob, .rw, .v, .rep 128 [0], .bytesMul 128 128 1⟩]

def Obj.rows29b : List ObjRow := [
  ⟨0x2901, 0x19, 1, 1, 1, "TW_WINDOW_IN", .blob, .ro, .v, .rep 128 [0], .bytesMul 128 128 1⟩,
  ⟨0x2901, 0x1A, 1, 1, 1, "TW_WINDOW_SEQ", .u32, .ro, .v, .num 0, .any⟩,
  ⟨0x2902, 0x02, 1, 1, 1, "TW_ADDR", .blob, .rwc, .c, .bytes [0x5A, 0, 0, 0], .bytesMul 4 4 1⟩]

def Obj.rows30a : List ObjRow := [
  ⟨0x3000, 0x01, 1, 128, 16, "ST_UTIL", .u16, .ro, .v, .num 0, .any⟩,
  ⟨0x3000, 0x02, 1, 128, 16, "ST_PLAN_CYCLES", .u32, .ro, .v, .unset, .any⟩,
  ⟨0x3000, 0x03, 1, 128, 16, "ST_TASKS", .u64, .ro, .v, .num 0, .any⟩,
  ⟨0x3000, 0x04, 1, 128, 16, "ST_CUT", .u32, .ro, .v, .num 0, .any⟩,
  ⟨0x3000, 0x05, 1, 128, 16, "ST_UNJUDGED", .u64, .ro, .v, .num 0, .any⟩,
  ⟨0x3000, 0x06, 1, 128, 16, "ST_UNCAL_MASK", .u64, .ro, .v, .num 0, .any⟩]

/-- The rows whose indices have `hi` as their high byte (R262). -/
def Obj.rowsFor (hi : Nat) : List ObjRow :=
  if Nat.beq hi 0x10 then Obj.rows10a
  else if Nat.beq hi 0x11 then Obj.rows11a ++ Obj.rows11b
  else if Nat.beq hi 0x12 then Obj.rows12a ++ Obj.rows12b ++ Obj.rows12c
  else if Nat.beq hi 0x13 then Obj.rows13a ++ Obj.rows13b
  else if Nat.beq hi 0x14 then Obj.rows14a ++ Obj.rows14b
  else if Nat.beq hi 0x15 then Obj.rows15a
  else if Nat.beq hi 0x16 then Obj.rows16a
  else if Nat.beq hi 0x17 then Obj.rows17a
  else if Nat.beq hi 0x20 then Obj.rows20a
  else if Nat.beq hi 0x21 then Obj.rows21a ++ Obj.rows21b
  else if Nat.beq hi 0x22 then Obj.rows22a
  else if Nat.beq hi 0x23 then Obj.rows23a ++ Obj.rows23b
  else if Nat.beq hi 0x24 then Obj.rows24a
  else if Nat.beq hi 0x25 then Obj.rows25a
  else if Nat.beq hi 0x26 then Obj.rows26a ++ Obj.rows26b ++ Obj.rows26c
  else if Nat.beq hi 0x27 then Obj.rows27a ++ Obj.rows27b
  else if Nat.beq hi 0x28 then Obj.rows28a
  else if Nat.beq hi 0x29 then Obj.rows29a ++ Obj.rows29b
  else if (Nat.ble 0x30 hi && Nat.ble hi 0x37) then Obj.rows30a
  else []

/-- Every row, in ascending order of index. -/
def Obj.rows : List ObjRow :=
  Obj.rows10a ++
  Obj.rows11a ++
  Obj.rows11b ++
  Obj.rows12a ++
  Obj.rows12b ++
  Obj.rows12c ++
  Obj.rows13a ++
  Obj.rows13b ++
  Obj.rows14a ++
  Obj.rows14b ++
  Obj.rows15a ++
  Obj.rows16a ++
  Obj.rows17a ++
  Obj.rows20a ++
  Obj.rows21a ++
  Obj.rows21b ++
  Obj.rows22a ++
  Obj.rows23a ++
  Obj.rows23b ++
  Obj.rows24a ++
  Obj.rows25a ++
  Obj.rows26a ++
  Obj.rows26b ++
  Obj.rows26c ++
  Obj.rows27a ++
  Obj.rows27b ++
  Obj.rows28a ++
  Obj.rows29a ++
  Obj.rows29b ++
  Obj.rows30a

/-- Does row `r` define object `id`? -/
def ObjRow.covers (r : ObjRow) (id : Nat) : Bool :=
  let i := id / 256
  let s := id % 256
  Nat.ble r.index i && Nat.blt i (r.index + r.stride * r.insts) && (Nat.beq ((i - r.index) % r.stride) 0) &&
    Nat.ble r.sub s && Nat.blt s (r.sub + r.subs)

/-- The row that defines object `id`, if one does. -/
def Obj.find (id : Nat) : Option ObjRow := (Obj.rowsFor (id / 65536)).find? (fun r => r.covers id)

/-- Is some object defined at this index (R262)? -/
def Obj.indexDefined (index : Nat) : Bool :=
  (Obj.rowsFor (index / 256)).any (fun r =>
    Nat.ble r.index index && Nat.blt index (r.index + r.stride * r.insts) && Nat.beq ((index - r.index) % r.stride) 0)

/-- The highest subindex in use at an index: the descriptor of R263. -/
def Obj.highestSub (index : Nat) : Nat :=
  (Obj.rowsFor (index / 256)).foldl (fun m r =>
    if Nat.ble r.index index && Nat.blt index (r.index + r.stride * r.insts) && Nat.beq ((index - r.index) % r.stride) 0
    then Nat.max m (r.sub + r.subs - 1) else m) 0

/-- Width of a fixed-size type in bytes; 0 for STR and BLOB (R10). -/
def Ty.size : Ty → Nat
  | .u8 => 1
  | .u16 | .s16 => 2
  | .u32 | .s32 | .f32 => 4
  | .u64 => 8
  | .str | .blob => 0

/-- The number a default stands for. -/
def Dflt.toNum : Dflt → Nat
  | .num n => n
  | _ => 0

/-- Byte `k` of a pixel-table column (R521) that holds D = 64.0 and F = 16.0 in every row (R101). -/
def pixelDefaultByte (k : Nat) : Byte :=
  let w := if k < 480 then (if (k / 2) % 3 = 2 then 0x4000 else 0x0400)
    else if ((k - 480) / 2) % 2 = 1 then 0x4000 else 0x0400
  BitVec.ofNat 8 (if k % 2 = 0 then w % 256 else w / 256)

/-- The number of bytes a default stands for. -/
def Dflt.len : Dflt → Nat
  | .text s => s.length
  | .bytes l => l.length
  | .rep n l => n * l.length
  | .padded n _ => n
  | .pixels => 4456448
  | _ => 0

/-- Byte `i` of the bytes a default stands for. -/
def Dflt.byte (d : Dflt) (i : Nat) : Byte :=
  match d with
  | .text s => BitVec.ofNat 8 ((s.toList.map Char.toNat).getD i 0)
  | .bytes l => BitVec.ofNat 8 (l.getD i 0)
  | .rep _ l => BitVec.ofNat 8 (l.getD (i % l.length) 0)
  | .padded _ l => BitVec.ofNat 8 (l.getD i 0)
  | .pixels => pixelDefaultByte (i % 544)
  | _ => 0

/-- The default number of object `id`. -/
def Obj.defaultNum (id : Nat) : Nat := ((Obj.find id).map (fun r => r.dflt.toNum)).getD 0

/-- The number of bytes of the default of object `id`. -/
def Obj.defaultLen (id : Nat) : Nat := ((Obj.find id).map (fun r => r.dflt.len)).getD 0

/-- Byte `i` of the default of object `id`. -/
def Obj.defaultByte (id i : Nat) : Byte := ((Obj.find id).map (fun r => r.dflt.byte i)).getD 0

/-- Width in bits of the value of object `id`; 64 where it has no fixed size. -/
def Obj.bits (id : Nat) : Nat :=
  match Obj.find id with
  | some r => if r.ty.size = 0 then 64 else 8 * r.ty.size
  | none => 64

/-- Every object a row defines, ascending. -/
def ObjRow.ids (r : ObjRow) : List Nat :=
  (List.range r.insts).flatMap (fun i =>
    (List.range r.subs).map (fun k => (r.index + r.stride * i) * 256 + r.sub + k))

end Sys2Proof.Machine
end

