-- ==== Sys2Proof/Machine/Operands.lean ====
section
/-! DEFINITION. Bit fields, byte order, rounding and check sums: the forms in which the spec's values are read and
written (R4-R7, R9). Everything here is about values alone; no state is read. -/

namespace Sys2Proof.Machine

/-! ## Fields and bits (R5) -/

/-- The field [hi:lo] of a number. -/
def field (v hi lo : Nat) : Nat := (v / 2 ^ lo) % 2 ^ (hi + 1 - lo)

/-- Bit `k` of a number. -/
def bit (v k : Nat) : Bool := Nat.beq ((v / 2 ^ k) % 2) 1

/-- 1 for true, 0 for false. -/
def b2n (b : Bool) : Nat := if b then 1 else 0

/-- The number whose bit `k` is element `k` of the list. -/
def bitsToNat : List Bool → Nat
  | [] => 0
  | b :: r => b2n b + 2 * bitsToNat r

/-- A number with bit `k` set or cleared. -/
def withBit (v k : Nat) (b : Bool) : Nat :=
  if bit v k = b then v else if b then v + 2 ^ k else v - 2 ^ k

/-- Two numbers' common bits. -/
def natAnd (a b : Nat) : Nat := Nat.land a b

/-- A number limited to 2^w - 1 (a saturating counter). -/
def satNat (w v : Nat) : Nat := if v < 2 ^ w then v else 2 ^ w - 1

/-- The two's complement value of the low `w` bits (R6). -/
def toSigned (w v : Nat) : Int :=
  let u := v % 2 ^ w
  if u < 2 ^ (w - 1) then (u : Int) else (u : Int) - ((2 ^ w : Nat) : Int)

/-- The low `w` bits of an integer's two's complement form. -/
def fromSigned (w : Nat) (v : Int) : Nat := (v % ((2 ^ w : Nat) : Int)).toNat

/-- `v` limited to lo..hi. -/
def clampInt (lo hi v : Int) : Int := if v < lo then lo else if hi < v then hi else v

/-! ## Byte order (R4) -/

/-- The low `n` bytes of a value, least significant first. -/
def leBytes : Nat → Nat → List Byte
  | 0, _ => []
  | n + 1, v => BitVec.ofNat 8 (v % 256) :: leBytes n (v / 256)

/-- The value of bytes given least significant first. -/
def leNat : List Byte → Nat
  | [] => 0
  | b :: r => b.toNat + 256 * leNat r

/-- `n` bytes from offset `o`, 0 beyond the end. -/
def sliceBytes (l : List Byte) (o n : Nat) : List Byte :=
  let t := (l.drop o).take n
  t ++ List.replicate (n - t.length) 0

/-- The little-endian value of `n` bytes at offset `o` (0 beyond the end). -/
def leAt (l : List Byte) (o n : Nat) : Nat := leNat ((l.drop o).take n)

/-- `l` with the bytes `d` laid over it from offset `o` (0 fills a gap). -/
def overlay (l : List Byte) (o : Nat) (d : List Byte) : List Byte :=
  sliceBytes l 0 o ++ d ++ l.drop (o + d.length)

/-- Bytes padded with 0 to a multiple of 4. -/
def pad4 (l : List Byte) : List Byte := l ++ List.replicate ((4 - l.length % 4) % 4) 0

/-- `n` zero bytes. -/
def zeros (n : Nat) : List Byte := List.replicate n 0

/-- A bit map of n bits as bytes, element 0 in bit 0 of byte 0. -/
def bitmapBytes : Nat → List Bool → List Byte
  | 0, _ => []
  | n + 1, l => BitVec.ofNat 8 (bitsToNat (l.take 8)) :: bitmapBytes n (l.drop 8)

/-! ## Rounding half to even (R7) -/

/-- `a / b` rounded half to even; 0 where b is 0. -/
def divHalfEven (a : Int) (b : Nat) : Int :=
  let q := a.fdiv b
  let r := a.fmod b
  if 2 * r < (b : Int) then q
  else if (b : Int) < 2 * r then q + 1
  else if q % 2 = 0 then q else q + 1

/-- `a / b` rounded half to even, on naturals; 0 where b is 0. -/
def divHalfEvenNat (a b : Nat) : Nat :=
  let q := a / b
  let r := a % b
  if 2 * r < b then q
  else if b < 2 * r then q + 1
  else if q % 2 = 0 then q else q + 1

/-- `⌈a / b⌉`. -/
def ceilDiv (a b : Nat) : Nat := (a + b - 1) / b

/-- An arithmetic right shift by `k`, rounded half to even. -/
def shrHalfEven (a : Int) (k : Nat) : Int := divHalfEven a (2 ^ k)

/-- Floor of the `k`-th root of `n`, by bisection on the bits `2^m .. 2^0` of the answer. -/
def rootBits (k n : Nat) : Nat → Nat → Nat
  | 0, acc => acc
  | m + 1, acc => if (acc + 2 ^ m) ^ k ≤ n then rootBits k n m (acc + 2 ^ m) else rootBits k n m acc

/-- Floor of the square root. -/
def sqrtFloor (n : Nat) : Nat := rootBits 2 n (Nat.log2 n / 2 + 1) 0

/-- Square root rounded half to even (no exact half exists between integers' squares). -/
def sqrtRound (n : Nat) : Nat := let r := sqrtFloor n; if r * r + r < n then r + 1 else r

/-! ## Check sums -/

/-- One bit step of a CRC register of width `w`, most significant bit first. -/
def crcStepMsb (w poly : Nat) (r : Nat) (b : Bool) : Nat :=
  let top := (bit r (w - 1)) != b
  let s := (2 * r) % 2 ^ w
  if top then Nat.xor s poly else s

/-- Eight steps over a byte, most significant bit first. -/
def crcByteMsb (w poly : Nat) (r : Nat) (x : Byte) : Nat :=
  [7, 6, 5, 4, 3, 2, 1, 0].foldl (fun r k => crcStepMsb w poly r (bit x.toNat k)) r

/-- A CRC of width `w` over bytes, most significant bit first. -/
def crcMsb (w poly init : Nat) (l : List Byte) : Nat := l.foldl (crcByteMsb w poly) init

/-- One bit step of a reflected CRC register (least significant bit first), `rpoly` the reflected polynomial. -/
def crcStepLsb (rpoly : Nat) (r : Nat) (b : Bool) : Nat :=
  if (bit r 0) != b then Nat.xor (r / 2) rpoly else r / 2

/-- Eight steps over a byte, least significant bit first. -/
def crcByteLsb (rpoly : Nat) (r : Nat) (x : Byte) : Nat :=
  [0, 1, 2, 3, 4, 5, 6, 7].foldl (fun r k => crcStepLsb rpoly r (bit x.toNat k)) r

/-- CRC-32C (Castagnoli), reflected, initial and final 0xFFFFFFFF. -/
def crc32c (l : List Byte) : Nat := Nat.xor (l.foldl (crcByteLsb 0x82F63B78) 0xFFFFFFFF) 0xFFFFFFFF

end Sys2Proof.Machine
end

