-- ==== Sys2Proof/Machine/Store.lean ====
section
/-! DEFINITION. Sparse data by key: a list of (key, value) pairs with strictly rising keys and no pair whose value
equals what an unlisted key reads as. Registers, engines, columns and the Archive's bytes are held so; equal
contents are equal lists. -/

namespace Sys2Proof.Machine

/-- A sparse store. -/
abbrev Store (α : Type) := List (Nat × α)

/-- The listed value of key `k`, if there is one. -/
def storeFind {α : Type} (k : Nat) : Store α → Option α
  | [] => none
  | (k', v) :: r => if k = k' then some v else storeFind k r

/-- The value of key `k`; `d k` where it is not listed. -/
def storeGet {α : Type} (d : Nat → α) (m : Store α) (k : Nat) : α :=
  match storeFind k m with
  | some v => v
  | none => d k

/-- The store with key `k` no longer listed. -/
def storeErase {α : Type} (k : Nat) : Store α → Store α
  | [] => []
  | (k', v) :: r => if k = k' then storeErase k r else (k', v) :: storeErase k r

/-- The store with `(k, v)` listed. -/
def storeInsert {α : Type} (k : Nat) (v : α) : Store α → Store α
  | [] => [(k, v)]
  | (k', w) :: r =>
    if k < k' then (k, v) :: (k', w) :: r
    else if k = k' then (k, v) :: r
    else (k', w) :: storeInsert k v r

/-- The store in which key `k` has the value `v`; writing the value an unlisted key reads as removes the entry. -/
def storePut {α : Type} [DecidableEq α] (d : Nat → α) (m : Store α) (k : Nat) (v : α) : Store α :=
  if v = d k then storeErase k m else storeInsert k v m

/-- Every listed key is above `lo` and rising. -/
def storeRising {α : Type} : Option Nat → Store α → Bool
  | _, [] => true
  | none, (k, _) :: r => storeRising (some k) r
  | some p, (k, _) :: r => Nat.blt p k && storeRising (some k) r

/-- The canonical form: rising keys, no listed default. -/
def storeWf {α : Type} [DecidableEq α] (d : Nat → α) (m : Store α) : Bool :=
  storeRising none m && m.all (fun p => decide (p.2 ≠ d p.1))

/-! ## Addressed memory -/

/-- An addressed memory: (address, byte) pairs in the canonical form. -/
abbrev Memory := List Host.Cell

/-- One byte of a memory whose unlisted addresses read as `d`. -/
def memRead (d : Nat → Byte) (m : Memory) (a : Nat) : Byte := storeGet d m a

/-- Bytes `a, a+1, …` of a memory. -/
def memReadN (d : Nat → Byte) (m : Memory) (a : Nat) : Nat → List Byte
  | 0 => []
  | n + 1 => memRead d m a :: memReadN d m (a + 1) n

/-- A memory with one byte written. -/
def memWrite (d : Nat → Byte) (m : Memory) (a : Nat) (b : Byte) : Memory := storePut d m a b

/-- A memory with bytes written from `a` up. -/
def memWriteN (d : Nat → Byte) (m : Memory) : Nat → List Byte → Memory
  | _, [] => m
  | a, b :: r => memWriteN d (memWrite d m a b) (a + 1) r

/-- A memory with the addresses from `a` to `a + n - 1` back at what an unlisted address reads as. -/
def memForget (m : Memory) (a n : Nat) : Memory := m.filter (fun p => decide (p.1 < a ∨ a + n ≤ p.1))

/-- The canonical form of a memory. -/
def Memory.wf (d : Nat → Byte) (m : Memory) : Bool := storeWf d m

end Sys2Proof.Machine
end

