-- ==== Sys2Proof/Machine/State.lean ====
section
/-! DEFINITION. The state of the tile: plain data, everything the spec names, and the queue of waiting commands. -/

namespace Sys2Proof.Machine

/-! ## Outcomes that are not a next state -/

/-- Why a step stops with a fault. -/
inductive Fault where
  /-- A command names a unit that the tile does not have (a pin above 255, an engine above 127, a context above 7):
  the command is not well formed (WellFormed.lean). Raised by the step, for no command the hardware can receive.
  Safe. -/
  | noSuchUnit
  deriving DecidableEq, Repr

/-- Why a step is refused. -/
inductive Refusal where
  /-- A command without a meaning yet, by its mnemonic. Raised by exec's arms alone. Safe. -/
  | notModelled (mnemonic : String)
  deriving DecidableEq, Repr

/-! ## Tile (01, 21) -/

/-- The nine tile states (R18). -/
inductive TileState where
  | off | boot | selftest | calload | linkup | ready | run | rest | fault
  deriving DecidableEq, Repr

/-- What runs the control core in FAULT (R550, R552). -/
inductive Server where
  | firmware | bootRom | alwaysOn
  deriving DecidableEq, Repr

/-- How far REST entry has come (R480). -/
inductive RestPhase where
  | none | draining | passing | inRest | waking
  deriving DecidableEq, Repr

/-- The tile's state and what belongs to it: `since` the entry to the state, `bootAt` the last entry to BOOT,
`readyAt` the entry to READY after BOOT or REST (R60), `server` who serves FAULT, `faultAt` the instant of the
cause EVT_FAULT_CAUSE holds (R553), `stopping` the requesters of accepted STOPs, `phase` the REST entry and wake,
`phaseAt` its beginning or that of the wake, `trim` what SELFTEST found of the column ADCs (R514), `onAt` and `runAt` the instants from which the present hours outside OFF and in RUN count,
`runPart` the part of an hour counted in earlier stays in RUN (R560, R561). -/
structure Tile where
  state : TileState := .off
  since : Nat := 0
  bootAt : Nat := 0
  readyAt : Nat := 0
  server : Server := .firmware
  faultAt : Nat := 0
  stopping : List Requester := []
  phase : RestPhase := .none
  phaseAt : Nat := 0
  trim : Option SelfTestReport := none
  onAt : Nat := 0
  runAt : Nat := 0
  runPart : Nat := 0
  deriving DecidableEq, Repr

/-! ## Catalogue (10) -/

/-- Status codes of a response (R266). -/
inductive Status where
  | ok | noObject | noSub | denied | length | range | sealed | busy | state | auth | segment | noHoldup
  deriving DecidableEq, Repr

/-- The value of an STR or BLOB: its length, its bytes where they differ from the default's, and its VERSION
(R274). -/
structure Blob where
  len : Nat
  cells : Memory
  version : BitVec 32
  deriving DecidableEq, Repr

/-- One set of object values: the numbers and the byte strings that differ from their defaults. -/
structure Bank where
  nums : Store (BitVec 64) := []
  blobs : Store Blob := []
  deriving DecidableEq, Repr

/-- What a Catalogue request asks (R272-R281). `bad` tells that a flag, a reserved bit or a reserved word of the
request was not 0. `malformed` is a request whose payload fails step 1 of R267. -/
inductive CatOp where
  | get (id : Nat) (staged bad : Bool)
  | set (id : Nat) (staged bad : Bool) (value : List Byte)
  | getSeg (id : Nat) (staged bad : Bool) (offset len : Nat)
  | setSeg (id : Nat) (staged last bad : Bool) (offset total : Nat) (data : List Byte)
  | list (id : Nat) (names folioOnly bad : Bool) (max : Nat)
  | malformed (rtype id : Nat) (staged : Bool)
  deriving DecidableEq, Repr

/-- A request in the Catalogue's queue. -/
structure Request where
  sender : Requester
  op : CatOp
  deriving DecidableEq, Repr

/-- Who holds a SET-SEG transfer: the source address on VC0, or the I2CB path as a whole (R278). -/
inductive Source where
  | addr (a : Nat)
  | mailbox
  deriving DecidableEq, Repr

/-- An open or last completed SET-SEG transfer (R278). -/
structure Transfer where
  id : Nat
  staged : Bool
  source : Source
  total : Nat
  data : List Byte
  lastOffset : Nat
  lastLen : Nat
  lastStatus : Status
  lastAt : Nat
  deriving DecidableEq, Repr

/-- The operations that R270 calls long: their rules allow them more than 100 us (R139, R237, R256, R522, R539). -/
inductive LongOp where
  | sealChecks
  | saveResume
  | calCommit
  | kernelBlob (slot : Nat) (data : List Byte)
  | enrol
  deriving DecidableEq, Repr

/-- The running long operation: what it is, whom it answers, the request it answers, when it was accepted. -/
structure LongRun where
  op : LongOp
  sender : Requester
  rtype : Nat
  id : Nat
  staged : Bool
  started : Nat
  deriving DecidableEq, Repr

/-- The states of the I2CB mailbox (R282). -/
inductive MbState where
  | idle | busy | done | rejected
  deriving DecidableEq, Repr

/-- The Catalogue: the banks of values, the request queue of 32, the transfers, the long operation and the I2CB
mailbox. `work` holds the working copy of the calibration set, `used` the values the line assembler uses (R512). -/
structure Catalogue where
  vol : Bank := {}
  active : Bank := {}
  staged : Bank := {}
  work : Bank := {}
  used : Bank := {}
  version : BitVec 32 := 0
  queue : List Request := []
  transfers : List Transfer := []
  completed : List Transfer := []
  long : Option LongRun := none
  mbBytes : Store Byte := []
  mbPointer : Nat := 0
  mbState : MbState := .idle
  mbSeq : BitVec 16 := 0
  deriving DecidableEq, Repr

/-! ## Event log and records (10, 21) -/

/-- A log entry (R291). -/
structure LogEntry where
  time : BitVec 64
  code : BitVec 16
  count : BitVec 16
  param : BitVec 32
  deriving DecidableEq, Repr

/-- The holdoff of an event code (R555): its end, and the pending count with the PARAM and TIME of its first
occurrence. -/
structure Holdoff where
  ends : Nat
  pending : Nat
  param : BitVec 32
  time : BitVec 64
  deriving DecidableEq, Repr

/-- A fault record (R562). -/
structure FaultRecord where
  cause : Nat
  state : Nat
  detail : BitVec 32
  time : BitVec 64
  boot : BitVec 32
  uptime : BitVec 32
  logNext : BitVec 32
  entries : List LogEntry
  deriving DecidableEq, Repr

/-- The firmware records (R559): EVT_LIFE's sixteen values by number, the fault history, newest first. -/
structure Records where
  life : Store (BitVec 32) := []
  history : List FaultRecord := []
  deriving DecidableEq, Repr

/-- The event log: the 256 slots, the next sequence number, the holdoffs by code, the entries held in the always-on
domain (R555). -/
structure EventLog where
  slots : Store LogEntry := []
  next : BitVec 32 := 0
  holdoffs : Store Holdoff := []
  held : List LogEntry := []
  live : Bool := true
  mirror : Bool := false
  bootSeq : BitVec 32 := 0
  logVersion : BitVec 32 := 0
  latestVersion : BitVec 32 := 0
  deriving DecidableEq, Repr

/-! ## Line timer (03) -/

/-- An accepted encoder edge, for the speed of R57. -/
structure Edge where
  time : Nat
  sign : Int
  deriving DecidableEq, Repr

/-- The position model of R58. Positions are held in units of 1/256 of 10^-12 count, so that a boundary in 1/256
count, a speed in counts per second and a time in ps meet without rounding; `tm` is installation time in ps. -/
structure Model where
  p : Int := 0
  tm : Int := 0
  speed : Int := 0
  deriving DecidableEq, Repr

/-- What a line is judged by besides its samples: the flags of R100 that the trigger decides, as the FLAGS word. -/
structure LineHead where
  kind : Nat
  depth : Nat
  bands : Nat
  halls : Nat
  bin : Nat
  line : BitVec 32
  position : Nat
  folio : Nat
  repeatIndex : Nat
  holdDelay : Nat
  time : BitVec 32
  gapBands : Nat
  flags : Nat
  qLong : Nat
  qShort : Nat
  deriving DecidableEq, Repr

/-- The line-assembly values in use (R512): the bank of a commit, whether TORN is set, and the uncalibrated and dead columns as objects. -/
structure CalUse where
  used : Bank := {}
  torn : Bool := false
  marked : Bank := {}
  deriving DecidableEq, Repr

/-- A line as its trigger leaves it: its header so far, its LINE number, the Folio it runs under with the physical
slot of its reference (false A, true B) and its Accession, its boundary and that of the line before it in 1/256 count, the first capture that counts for it (R95), the reference line it is judged
against, if any, its arrival, the calibration values in use at its trigger (R512). -/
structure Trig where
  head : LineHead
  number : Nat
  bank : Bank
  slot : Bool
  era : Nat
  boundary : Nat
  before : Nat
  firstValid : Nat
  ref : Option Nat
  arrival : Nat
  cal : CalUse := {}
  deriving DecidableEq, Repr

/-- The line timer. `count` is the master's own count of quarter-steps, `frozen` the freeze of R53, `edges` the
accepted edges, newest first. `model` is the position model, `hold` the position at which R59 holds it. `seenPos` is
the model position at the last command that looked at it, with `backward` the direction it was moving in, `reverseFrom`
where an unfinished reversal began and `reversePart` the part of a count moved backwards (R65). `tokenAt` is the local
instant of the last token applied, `tokenSource`, `tokenSeq` its source and SEQ, `heardAt` when that source was last
heard. `sendSeq` is the SEQ of the last token sent, `marks` and `markPos` the master's own mark count and latest mark,
`marksSeen` the MARK_COUNT that a follower compares with (R363).

The grid: `cand` is the next boundary of the present grid in 1/256 count, `k` the index of its line, `origins` the
origins of the marks still ahead (R73), `late` a repeat that starts at the next boundary (R77), `startFlags` the flags
its first line carries, `inRepeat` whether a repeat runs, `accepted` whether a mark was accepted since entry to RUN,
`longDone` whether LONG was counted for this repeat, `lastIndex` the index of the last line triggered, `high` the
highest boundary fired, `last` the boundary of the last LINE number given. `busyUntil` ends the busy window of R34, `held` the held trigger of R68. `strobes` are the
strobe windows open, each with its end (R69). -/
structure LineTimer where
  count : Nat := 0
  edges : List Edge := []
  frozen : Bool := false
  faultSince : Nat := 0
  model : Model := {}
  hold : Option Int := none
  seenPos : Int := 0
  backward : Bool := false
  reverseFrom : Option Int := none
  reversePart : Int := 0
  tokenAt : Option Nat := none
  tokenSource : Option Nat := none
  tokenSeq : Nat := 0
  heardAt : Nat := 0
  sendSeq : Nat := 0
  sentAt : Option Nat := none
  marks : Nat := 0
  markPos : Nat := 0
  marksSeen : Option Nat := none
  fresh : Bool := true
  cand : Nat := 0
  k : Nat := 0
  origins : List Nat := []
  late : Bool := false
  startFlags : Nat := 0
  inRepeat : Bool := false
  accepted : Bool := false
  longDone : Bool := false
  lastIndex : Nat := 0
  high : Option Nat := none
  last : Nat := 0
  busyUntil : Nat := 0
  held : Option Trig := none
  strobes : List (Nat × Nat) := []
  pulses : Nat := 0
  starts : Nat := 0
  deriving DecidableEq, Repr

/-! ## Line assembly (02, 04) -/

/-- One captured row of a trigger: for each active column the numerator of its u value over `den` (`none`: the column
is dead and gives no sample) and whether its code was saturated (R86-R89); the clamp fallback of R87; whether it was captured in the short
window. -/
structure RowCapture where
  row : Nat
  cols : List (Option Int × Bool)
  den : Nat
  fallback : Bool
  short : Bool := false
  deriving DecidableEq, Repr

/-- What one trigger captured, by its LINE number: its rows, the q of its two windows in 3.13 and how each came about
(R89): 1.0 for want of a valid energy, or limited. -/
structure Capture where
  number : Nat
  rows : List RowCapture := []
  qLong : Nat := 8192
  qShort : Nat := 8192
  noneLong : Bool := false
  rangeLong : Bool := false
  noneShort : Bool := false
  rangeShort : Bool := false
  deriving DecidableEq, Repr

/-- A line between its firing and its close: `strobed` are the strobe windows it has opened, `done` row slots have delivered their codes. -/
structure Flight where
  trig : Trig
  t0 : Nat
  exposing : Bool := false
  shortExposing : Bool := false
  ended : Bool := false
  strobed : List Nat := []
  done : Nat := 0
  deriving DecidableEq, Repr

/-- The line assembler: lines in flight, oldest first; captures, newest first; the restart due at the next line and
the first capture that counts (R95); per test column the run of failing and of passing lines and the columns in the
failed condition (R27), with those that deviated in the line being converted. -/
structure Assembler where
  flights : List Flight := []
  captures : List Capture := []
  restartDue : Bool := false
  firstValid : Nat := 0
  testFail : Store Nat := []
  testPass : Store Nat := []
  testBad : List Nat := []
  testNow : List Nat := []
  deriving DecidableEq, Repr

/-! ## Link lanes (11) -/

/-- Port states (R305). -/
inductive PortState where
  | down | detect | train | align | up | recovery | test | pass | idleEnd
  deriving DecidableEq, Repr

/-- Transmit tap codes (R308). -/
structure Taps where
  pre : Nat := 4
  main : Nat := 50
  post : Nat := 10
  deriving DecidableEq, Repr

/-- A tap request (R306, R309): a preset or the three tap codes. -/
inductive TapRequest where
  | preset (n : Nat)
  | step (post pre main : Nat)
  deriving DecidableEq, Repr

/-- The outstanding request of a receiver lane (R310): its REQ_SEQ and when it was last sent. -/
structure Outstanding where
  seq : Nat
  req : TapRequest
  sentAt : Nat
  resends : Nat := 0
  deriving DecidableEq, Repr

/-- Phases of the tap training of a receiver lane (R311). -/
inductive TrainPhase where
  | idle | presets | steps | accepted | failed
  deriving DecidableEq, Repr

/-- A lane. Transmitter: its taps, the acknowledged REQ_SEQ and the status of each tap (R309). Receiver: what it has
seen of the partner's training sets (`ts1Run` and `ts2Run` valid sets in a row with the same RATES, `rates`, `target`, `partnerLane`,
`partnerDone` its RX_DONE) and where its training stands (R311): `presetNo` the preset being measured, `best` the one kept with its
`bestProduct`, `order` the next step of the round, `taken` the steps requested, `gained` a gain in this round, `reversing` a
request that is not measured, `refused` a step the partner refused. `syncAt` is when the PRBS checker came into sync. -/
structure Lane where
  taps : Taps := {}
  partner : Taps := {}
  ackSeq : Option Nat := none
  ackPost : Nat := 0
  ackPre : Nat := 0
  ackMain : Nat := 0
  ts1Run : Nat := 0
  ts2Run : Nat := 0
  rates : Nat := 0
  target : Nat := 0
  fallback : Bool := false
  partnerLane : Nat := 0
  partnerDone : Bool := false
  phase : TrainPhase := .idle
  presetNo : Nat := 0
  best : Nat := 0
  bestProduct : Nat := 0
  order : Nat := 0
  taken : Nat := 0
  gained : Bool := false
  reversing : Bool := false
  reqSeq : Nat := 0
  outstanding : Option Outstanding := none
  refused : Bool := false
  width : Nat := 0
  height : Nat := 0
  syncAt : Option Nat := none
  deriving DecidableEq, Repr

/-- A hop-delay exchange (R314, R316): the number of LOOP sets, the first of their tags, the tags echoed, and for each
echo the round trip less TURNAROUND, in ps. -/
structure HopRun where
  count : Nat
  firstTag : Nat
  tags : List Nat := []
  trips : List Int := []
  deriving DecidableEq, Repr

/-! ## Frames (12) -/

/-- A frame, from its destination to its payload (R332). -/
structure Frame where
  dest : Nat
  source : Nat
  vc : Nat
  type : Nat
  tag : Nat := 0
  dual : Bool := false
  retx : Bool := false
  last : Bool := false
  reserved : Nat := 0
  offset : Nat := 0
  hops : Nat := 0
  ttl : Nat := 1
  payload : List Byte
  deriving DecidableEq, Repr

/-- A frame waiting in a port's transmit queue: forwarded or originated, and since when. For an originated frame
without a route, `since` starts the wait of R347. -/
structure Queued where
  frame : Frame
  own : Bool
  since : Nat
  deriving DecidableEq, Repr

/-- Credit accounting of a port (R339-R342): `heard` an INIT this UP period, `acked` the partner's INIT_ACK. As
sender: `used` is u per channel, `freedSeen` the partner's last cumulative counts. As receiver: `recvd` per channel the
units held at the INIT and received since, `told` the freed counts last sent, `lastSent` when a set was last sent,
`sentInits` and `sentUpdates` how many. -/
structure Credits where
  heard : Bool := false
  acked : Bool := false
  used : List Nat := [0, 0, 0, 0]
  freedSeen : List Nat := [0, 0, 0, 0]
  recvd : List Nat := [0, 0, 0, 0]
  told : List Nat := [0, 0, 0, 0]
  lastSent : Nat := 0
  sentInits : Nat := 0
  sentUpdates : Nat := 0
  deriving DecidableEq, Repr

/-- A port of the link. `rate` is the rate code in use, `ceiling` the highest one negotiation may choose (R312),
`fromUp` tells that the port left UP and has not been DOWN since, `leftAt` when it last left UP (R349), `fallback` that it sends TS1 with FALLBACK, `orderLogged`
that event 0x1208 was recorded since entry to DETECT. `deskewTimes` are the deskew errors of the last ms. `loopTag` is the next LOOP tag, `hop` the
exchange that runs, `hopDone` an exchange done since entry to ALIGN or RECOVERY, `hopAt` the start of the last exchange, `echo` the last LOOP_ECHO sent.
`wakeUntil` ends the electrical idle of a wake (R326), `passUntil` the suppression of R325, `passSeen` PASS sets since the last training sets. `queue`
holds the frames waiting, oldest first, `wire` the frame in transmission and `token` a token in transmission, alone or inside that frame (R330).
`deficit1` and `deficit2` belong to the deficit round robin of VC1 and VC2, `turn2` tells whose turn it is; `lastOwn` tells by channel whether the last frame sent was originated here (R337). `latestHops`, `latestTimeAt` and
`betterSince` serve the choice of the time port (R358). `skipAt` is the last SKP set (R301), `injected` counts the bits inverted (R321), `aborts` the ABORT columns sent (R331). -/
structure LinkPort where
  state : PortState := .down
  since : Nat := 0
  rate : Nat := 0
  ceiling : Nat := 2
  everUp : Bool := false
  fromUp : Bool := false
  leftAt : Nat := 0
  fallback : Bool := false
  lanes : List Lane := [{}, {}, {}, {}]
  orderLogged : Bool := false
  deskewTimes : List Nat := []
  skipAt : Nat := 0
  skipSets : Nat := 0
  loopTag : Nat := 0
  hop : Option HopRun := none
  hopDone : Bool := false
  hopAt : Nat := 0
  echo : List Byte := []
  wakeUntil : Option Nat := none
  passUntil : Nat := 0
  passSeen : Bool := false
  credits : Credits := {}
  queue : List Queued := []
  wire : Option Queued := none
  token : Option Queued := none
  lastOwn : List Bool := [false, false, false, false]
  deficit1 : Nat := 0
  deficit2 : Nat := 0
  turn2 : Bool := false
  eyeAt : Nat := 0
  latestHops : Option Nat := none
  latestTimeAt : Option Nat := none
  betterSince : Option Nat := none
  injected : Nat := 0
  aborts : Nat := 0
  deriving DecidableEq, Repr

/-- A DUAL frame consumed within the last 10 ms (R348). -/
structure DualSeen where
  source : Nat
  tag : Nat
  type : Nat
  at_ : Nat
  deriving DecidableEq, Repr

/-- An OFFER to be passed on after the onward port was woken (R353). -/
structure Onward where
  port : Port
  payload : List Byte
  asked : Nat
  arrived : Port
  deriving DecidableEq, Repr

/-- The Registrar and installation time (R352-R361). `onward` is an OFFER that waits for its port, `finalUnder` the
ENUM_ID of the last final position, `dual` the DUAL frames consumed lately (R348). Installation time is `1000 * now +
offset` ps plus the part of `slew` worked off since `slewFrom`; `held` tells that a token was ever followed since BOOT,
`followedAt` when the last one was followed since BOOT or REST, `firstUpAt` the first entry of a port to UP since then (R359), `lockRun` the tokens in a row with an
error of 20 ns or less, `sendSeq` and `sentAt` belong to a time master (R361). `waiting` are frames without a port in UP (R347). -/
structure Registrar where
  onward : Option Onward := none
  finalUnder : Option Nat := none
  dual : List DualSeen := []
  offset : Int := 0
  slew : Int := 0
  slewFrom : Nat := 0
  held : Bool := false
  followedAt : Option Nat := none
  firstUpAt : Option Nat := none
  lockRun : Nat := 0
  sendSeq : BitVec 32 := 0
  sentAt : Option Nat := none
  waiting : List Queued := []
  deriving DecidableEq, Repr

/-! ## Analogue monitor (14) -/

/-- A monitor channel (R397-R406): whether its clock runs, the instant of its last reset and the number of resets so
far, the instant of its FIRST_VALID output if it has settled since, the value AM_CHx_SAMPLES holds while it has not,
the end of a self-calibration of its converter; the last update of the background correction, where its spur
estimate then lay (R401; 3 before the first) and since when it has lain there. -/
structure MonChannel where
  running : Bool := false
  resetAt : Nat := 0
  resets : Nat := 0
  settledAt : Option Nat := none
  heldSamples : Nat := 0
  calUntil : Option Nat := none
  bgAt : Nat := 0
  spurBand : Nat := 3
  spurFrom : Nat := 0
  deriving DecidableEq, Repr

/-- An open or closed window of an accumulator or tracker (R408-R412), with the settings it opened with. -/
structure Window where
  openAt : Nat
  closeAt : Option Nat
  line : Nat
  time : Nat
  chan : Nat
  gate : Nat
  settledAtOpen : Bool
  resets : Nat
  clip : Bool := false
  sum : Int := 0
  samples : Nat := 0
  ovf : Bool := false
  deriving DecidableEq, Repr

/-- An accumulator: its windows not yet latched, oldest first; whether the next valid result is the first since a reset
of its channel; what it last latched, for which line (R414). -/
structure Accumulator where
  windows : List Window := []
  firstDue : Bool := true
  lastLine : Option Nat := none
  lastValue : Int := 0
  lastValid : Bool := false
  deriving DecidableEq, Repr

/-- A min-max tracker (R415): its windows; with gate 0 its running extremes. -/
structure Tracker where
  windows : List Window := []
  min : Int := 8388607
  max : Int := -8388608
  samples : Nat := 0
  clip : Bool := false
  firstDue : Bool := true
  deriving DecidableEq, Repr

/-- A single-frequency detector (R416): blocks since the last reset, the settings of the block in progress, a clip in
it. -/
structure Detector where
  block : Nat := 0
  freq : Nat := 100000
  n : Nat := 4096
  clip : Bool := false
  deriving DecidableEq, Repr

/-- The analogue monitor. `refAt` is when the reference buffer came on. -/
structure Monitor where
  refAt : Option Nat := none
  chA : MonChannel := {}
  chB : MonChannel := {}
  accs : Store Accumulator := []
  mms : Store Tracker := []
  gzs : Store Detector := []
  deriving DecidableEq, Repr

/-! ## Calibration and MRAM (19) -/

/-- The head of an MRAM page as far as its validity goes (R521). -/
structure PageHead where
  generation : BitVec 32
  valid : Bool
  deriving DecidableEq, Repr

/-- A commit in progress (R523): when it started, the working copy as it stood, and whether it clears TORN or changes
a value of R512. -/
structure CommitRun where
  started : Nat
  snapshot : Bank
  generation : BitVec 32
  deriving DecidableEq, Repr

/-- The lines of a calibration run (R516): kind, lines taken, the trigger instants' start, lines captured so far. -/
structure CalLine where
  number : Nat
  gain4 : Bool
  energy : Option Int
  rows : List (Nat × List Nat)
  deriving DecidableEq, Repr

/-- A calibration run in progress (R516). -/
structure CalRun where
  flat : Bool
  started : Nat
  total : Nat
  fired : Nat := 0
  lines : List CalLine := []
  lastAt : Nat := 0
  deriving DecidableEq, Repr

/-- The stored calibration set, its pages and what runs on it; the resume Folio and the record pages share the MRAM. -/
structure Calibration where
  stored : Bank := {}
  pages : Store PageHead := []
  commit : Option CommitRun := none
  run : Option CalRun := none
  ringWord : Nat := 0
  ringPending : Option Nat := none
  recordPages : Store Records := []
  recordHeads : Store PageHead := []
  recordsPending : Bool := false
  deriving DecidableEq, Repr

/-! ## Strip engines (05) -/

/-- A kernel image (R138): where it comes from (`none`: the built-in image; otherwise its user slot) and its BLOB. -/
structure Image where
  slot : Option Nat
  bytes : List Byte
  deriving DecidableEq, Repr

/-- A task (R176): `number` is the LINE number of its line, `image` its kernel image, `queuedAt` when it was created. -/
structure Task where
  number : Nat
  region : Nat
  strip : Nat
  col0 : Nat
  ncol : Nat
  image : Image
  pinned : Bool
  queuedAt : Nat
  deriving DecidableEq, Repr

/-- An active loop (R120): first and last instruction of its body and the runs left. -/
structure LoopFrame where
  first : Nat
  last : Nat
  left : Nat
  deriving DecidableEq, Repr

/-- A fetch of a task (R127-R130): what it reads, where it lands, whether it has completed and with what length. -/
structure Fetch where
  address : Nat
  length : Nat
  landing : Nat
  table : Bool
  issued : Bool
  done : Bool
  landed : Nat
  deriving DecidableEq, Repr

/-- An instruction that waits and is taken up again when what it waits for has come (R124, R126, R129, R186). -/
inductive Held where
  | ldw (rd ra : Nat) (imm : Int)
  | stw (rd ra : Nat) (imm : Int)
  | ldh (rd ra : Nat) (imm : Int)
  | sth (rd ra : Nat) (imm : Int)
  | vlut (rd ra rb pg k : Nat)
  | vld (rd ra pg : Nat) (off : Int) (inc : Bool)
  | vst (rd ra pg : Nat) (off : Int) (inc : Bool)
  | fetch (rd ra rb tag : Nat) (table : Bool)
  | wait (tag : Nat)
  | popLine (rd pg : Nat)
  | push (ra : Nat)
  | pushs (ra : Nat)
  | finish
  deriving DecidableEq, Repr

/-- How a task ends while the engine drains (R134, R136, R137): by YIELD or with a cause of R196. -/
inductive Ending where
  | yielded
  | cut (cause : Nat)
  deriving DecidableEq, Repr

/-- A crop request (R165): its region, strip, centre column and the LINE of the request. -/
structure CropKey where
  region : Nat
  strip : Nat
  centre : Nat
  line : BitVec 32
  deriving DecidableEq, Repr

/-- An open blob of DEFECT (R163). `runs` are its runs of the last judged line, as (first column, last column), `hit` that AREA has reached MIN_AREA, `keys` the
crops requested for it. -/
structure Blob8 where
  area : Nat
  firstLine : BitVec 32
  lastLine : BitVec 32
  lines : Nat
  colMin : Nat
  colMax : Nat
  maxDe : Nat
  sumDe : Nat
  runs : List (Nat × Nat)
  hit : Bool
  keys : List CropKey
  deriving DecidableEq, Repr

/-- One unit of a REGISTER set: its edge, in 1/256 line from FIRST_LINE and 1/256 column, and GAP (R167, R168). -/
structure UnitEdge where
  along : Int
  across : Nat
  gap : Bool
  deriving DecidableEq, Repr

/-- The state of a built-in region part (R149, R150, R156-R171). `inProgress` is the mark of R150, `cutDue` that the task now
running found it set. COLOUR and DENSITY: the sums by band over `pixels`, the sums of the reference, the LINE of the first
line and the lines contributing, `open_` a patch or set. DEFECT: the open blobs and OVERFLOW. REGISTER: the edges of the set,
whether it was closed in this repeat, the means of the last judged line by unit, the judged lines for which the reference unit
has stayed on the unpast side, up to 4. STREAK: counters by 8,192 * band + column, in ON by the same key. `lastIndex` and
`lastNumber` name the last judged line. -/
structure Part where
  inProgress : Bool := false
  cutDue : Bool := false
  open_ : Bool := false
  sums : List Nat := []
  refL : Rat := 0
  refA : Rat := 0
  refB : Rat := 0
  pixels : Nat := 0
  firstLine : BitVec 32 := 0
  lines : Nat := 0
  lastIndex : Option Nat := none
  lastNumber : Option Nat := none
  blobs : List Blob8 := []
  overflow : Bool := false
  edges : Store UnitEdge := []
  closed : Bool := false
  means : Store Rat := []
  clear : Nat := 0
  counters : Store Nat := []
  on : Store Bool := []
  deriving DecidableEq, Repr

/-- A strip engine (R106-R136). The image it holds, one being loaded with the task that follows it, the task it runs;
registers, program counter, loops, LDM and the parameter block; ESTAT, the busy cycles with the cycle at which each
register is ready (s 0-31, v 32-63, a 64-67 for readers and 68-71 for the same accumulator, p 72-79); the LINE port
(`popped` vectors of `arrived`), the REF port (`refAt`, `refLen`, `refPos`), the tags, bytes fetched and pushed, the
OUT bytes with the places of crop identities and of crop requests in them; the instruction that waits, the ending. `pre` is the prefetch of a task, issued at its start or before (R186), with the bytes read; `refData` the bytes a built-in task has landed on tag 0. `parts`
holds the built-in state by region, `partsOf` the Accession it belongs to, `reloaded` a load of the image since its last task (R148). `ranFrom` is
when its task started. -/
structure Engine where
  image : Option Image := none
  loading : Option (Image × Option Task) := none
  task : Option Task := none
  s : Store Word := []
  v : Store (List Half) := []
  a : Store (List Int) := []
  p : Store Half := []
  pc : Nat := 0
  loops : List LoopFrame := []
  ldm : Memory := []
  param : List Byte := []
  estat : Nat := 0
  cycles : Nat := 0
  ready : Store Nat := []
  popped : Nat := 0
  arrived : Nat := 0
  refAt : Nat := 0
  refLen : Nat := 0
  refPos : Nat := 0
  tags : Store (Option Fetch) := []
  fetched : Nat := 0
  outBytes : Nat := 0
  out : List Byte := []
  outCrops : List (Nat × CropKey) := []
  outRequests : List (Nat × CropKey) := []
  held : Option Held := none
  ending : Option Ending := none
  pre : Option (Task × Fetch) := none
  preData : List Byte := []
  refData : List Byte := []
  parts : Store Part := []
  partsOf : Option Nat := none
  reloaded : Bool := false
  ranFrom : Nat := 0
  deriving DecidableEq, Repr

/-! ## Curator, Vault and Archive (07, 08) -/

/-- An unjudged entry (R196). -/
structure Unjudged where
  region : Nat
  strip : Nat
  cause : Nat
  deriving DecidableEq, Repr

/-- A result record in staging (R154): its sort key, its bytes, and at which byte the identity of which crop belongs
(R165). -/
structure Result where
  region : Nat
  col0 : Nat
  bytes : List Byte
  crops : List (Nat × CropKey)
  deriving DecidableEq, Repr

/-- A line of the reorder window (R190): its header, the Folio, slot and Accession it ran under, its boundary and that of the line
before it in 1/256 count, its reference line, the band samples by enabled band, the halls whose ring holds it, the tasks created, unjudged
entries, results, crop requests and the crops whose blobs closed on it. -/
structure LineRec where
  number : Nat
  head : LineHead
  bank : Bank
  slot : Bool
  era : Nat
  boundary : Nat
  before : Nat
  ref : Option Nat
  closedAt : Nat
  cal : CalUse := {}
  samples : List (List Half) := []
  halls : List Nat := []
  created : Nat := 0
  unjudged : List Unjudged := []
  results : List Result := []
  requests : List CropKey := []
  closed : List CropKey := []
  deriving DecidableEq, Repr

/-- A hall's fast clock (R184): running, or restarting until an instant; when it last had a task. -/
structure Hall where
  running : Bool := false
  readyAt : Option Nat := none
  idleFrom : Nat := 0
  deriving DecidableEq, Repr

/-- An open crop (R165, R224): its identity, region and Accession, its offset in the crop ring and the end of the room kept for it, its window, enabled
bands, what its header says, the number of its first line, the requests whose blobs it waits for, the lines left after their close, CROP_POST and
CROP_MAX, whether it is sent and the bytes already sent. -/
structure Crop where
  id : Nat
  region : Nat
  era : Nat
  offset : Nat
  room : Nat
  col0 : Nat
  ncol : Nat
  bands : Nat
  nband : Nat
  bin : Nat
  folio : Nat
  firstLine : BitVec 32
  begun : Nat
  lines : Nat
  flags : Nat
  waits : List CropKey
  postLeft : Option Nat
  post : Nat
  max : Nat
  send : Bool
  sent : Nat
  deriving DecidableEq, Repr

/-- A bulk read in progress (R230): its requester, descriptor space, Archive base, the range it asked for, what is left, and whether its range was
overwritten while it ran. -/
structure BulkRead where
  port : Port
  source : Nat
  tag : Nat
  space : Nat
  base : Nat
  first : Nat
  total : Nat
  offset : Nat
  left : Nat
  stale : Bool
  deriving DecidableEq, Repr

/-- A bulk write with ACK whose RESPONSE is still to be sent (R229): its port, source, tag and bytes. -/
structure BulkAck where
  port : Port
  source : Nat
  tag : Nat
  bytes : Nat
  deriving DecidableEq, Repr

/-- A slot clear in progress (R223): the physical slot, the extent, when it began. -/
structure SlotClear where
  slot : Bool
  extent : Nat
  started : Nat
  deriving DecidableEq, Repr

/-- The Curator, the Vault and the Archive's bookkeeping. `lines` is the window, oldest first; `waiting` the tasks not started;
`fetchers` the engines whose fetch waits for a table entry; `raised` the last instant and engine of each event line (R133). `slotB` tells
that slot B is the Active one, `era` counts the Accessions taken. `shortRun` counts the lines since the PLL-C frequency was last short. `cropIds`
gives the crop of each request whose blob is open or not yet retired, `cropAt` the ring offset for the next crop, `cropsHeld` the crops in the ring with offset and bytes, newest first. `streams` numbers the streams sent (R364). `acks` are the bulk writes still to be acknowledged, oldest first. `ue` are the uncorrectable Archive words. `moved` are
the Archive transfers of the last ms, `busyLog` the busy cycles of tasks ended in the last second, by instant and engine, `clockLog` the changes of the PLL-C frequency in RUN. -/
structure Curator where
  lines : List LineRec := []
  waiting : List Task := []
  engines : Store Engine := []
  halls : Store Hall := []
  fetchers : List Nat := []
  raised : Store (Nat × Nat) := []
  slotB : Bool := false
  era : Nat := 0
  shortRun : Nat := 0
  crops : List Crop := []
  cropIds : List (CropKey × Nat) := []
  cropAt : Nat := 0
  cropsHeld : List (Nat × Nat × Nat) := []
  streams : Nat := 0
  reads : List BulkRead := []
  acks : List BulkAck := []
  clear : Option SlotClear := none
  ue : List Nat := []
  moved : List (Nat × Nat) := []
  busyLog : List (Nat × Nat × Nat) := []
  clockLog : List (Nat × Nat) := []
  deriving DecidableEq, Repr

/-! ## Pins and pin engines (15) -/

/-- A pin-engine instruction without its tick field (R430). -/
inductive PinOp where
  | nop | take | add | sub | xch
  | ldk (dst k : Nat)
  | ldi (ct : Bool) (v : Nat)
  | move (dst src op : Nat)
  | pin (mode v : Nat)
  | shout (dst n : Nat)
  | shin (src n : Nat)
  | fill (ifReady block : Bool)
  | send (ifReady block : Bool)
  | await (sense : Bool) (src idx : Nat)
  | go (cond target : Nat)
  | pause (n : Nat)
  deriving DecidableEq, Repr

/-- A stalled instruction with its tick field, and the pulse counts at its issue (R429, R432). -/
structure PinStall where
  op : PinOp
  tick : Nat
  pulses : Nat
  starts : Nat
  deriving DecidableEq, Repr

/-- A pin engine (R428). `words` are its program words, `prog` the program's WORDS, ENTRY, TICK and K as loaded, `latch` the level it
last gave each pin, `dirs` the field directions; `stall` a stalled instruction, `kept` one abandoned by a stop (R441), `injecting` an injection stalled (R440)
with its RESUME, `unowned` as R433 gives. -/
structure PinEngine where
  words : Store Nat := []
  wordCount : Nat := 32
  entry : Nat := 0
  tickFlag : Bool := false
  k : Store Nat := []
  progId : Nat := 0
  loaded : Bool := false
  pc : Nat := 0
  ag : Word := 0
  ct : Word := 0
  so : Word := 0
  soBits : Nat := 0
  si : Word := 0
  siBits : Nat := 0
  tx : List Word := []
  rx : List Word := []
  ev : List (Word × Word) := []
  latch : Store Bool := []
  dirs : Nat := 255
  stall : Option PinStall := none
  kept : Option PinStall := none
  injecting : Option Bool := none
  resume : Option PinStall := none
  unowned : Bool := false
  deriving DecidableEq, Repr

/-- A bank's supply (R422): the code last accepted, whether it is faulty, since when the accepted code is back. -/
structure VioBank where
  accepted : Option Nat := none
  faulty : Bool := false
  backSince : Option Nat := none
  deriving DecidableEq, Repr

/-- The pins: the engines, the banks, and the levels last seen at pads the tile does not drive. -/
structure Pins where
  engines : Store PinEngine := []
  banks : Store VioBank := []
  pads : Store Bool := []
  deriving DecidableEq, Repr

/-! ## Two-wire ports (16) -/

/-- A controller transfer on I2CA (R450, R451): its fields, the attempts made, whether it has the bus. -/
structure TwXfer where
  addr : Nat
  wlen : Nat
  rlen : Nat
  retries : Nat
  data : List Byte
  attempts : Nat
  onBus : Bool
  deriving DecidableEq, Repr

/-- A port's target: the pointer into its 256 bytes (R283), the beginning of a STRETCH hold (R457), whether the port has counted the present wake (R458),
the addresses and mask that it answers until the next bus free where they were changed while the bus was busy (R449). -/
structure TwTarget where
  pointer : Nat := 0
  holdSince : Option Nat := none
  woke : Bool := false
  inUse : Option (List Byte × Nat) := none
  deriving DecidableEq, Repr

/-- The two-wire ports: a transfer, whether a recovery runs, the targets. -/
structure TwoWire where
  xfer : Option TwXfer := none
  recovering : Bool := false
  a : TwTarget := {}
  b : TwTarget := {}
  deriving DecidableEq, Repr

/-! ## Folios, Accession, Provenance (09) -/

/-- The conditions of the Staged Folio (R236). -/
inductive Staging where
  | opened | sealing | sealed
  deriving DecidableEq, Repr

/-- A pending ACCESSION (R242, R243): its identity, Folio number, switch position and expected digest. -/
structure PendingAcc where
  accId : BitVec 32
  folio : Nat
  pos : Nat
  digest : List Byte
  deriving DecidableEq, Repr

/-- The resume Folio in MRAM (R256): the object values, the number, OBJ_DIGEST and Folio digest saved, and whether its pages are whole. -/
structure ResumeFolio where
  bank : Bank
  number : Nat
  objDigest : List Byte
  digest : List Byte
  valid : Bool
  deriving DecidableEq, Repr

/-- The Folios: the condition of the Staged Folio, whether there is an Active one, whether its REF_DIGEST is being computed (R258), since when a digest is
computed; the pending ACCESSION and the last ACC_ID processed; LINE and DIVERGENT of the last line whose trigger arrived in this RUN (R253); the bytes
0x00-0xAF of a quote being signed; the instant of the last beacon; the resume Folio stored, one being saved, and whether the stored one becomes Active at
READY (R257). -/
structure Folio where
  staging : Staging := .opened
  hasActive : Bool := false
  computing : Bool := false
  since : Nat := 0
  waiting : Option PendingAcc := none
  lastAcc : Option (BitVec 32) := none
  lastLine : Option (Nat × Bool) := none
  quoting : Option (List Byte) := none
  beaconAt : Option Nat := none
  stored : Option ResumeFolio := none
  saving : Option ResumeFolio := none
  toLoad : Bool := false
  deriving DecidableEq, Repr

/-! ## Security (20) -/

/-- The states of a firmware slot (R545). -/
inductive FwState where
  | empty | valid | invalid | writing
  deriving DecidableEq, Repr

/-- A firmware slot (R532-R536): its state and its image; `none` is the image the tile leaves the factory with (log entry 26). -/
structure FwSlot where
  state : FwState := .empty
  image : Option (List Byte) := some []
  deriving DecidableEq, Repr

/-- An owner slot in the fuses (R539, R540): unused, its key blown but not its ENROLLED fuse, or enrolled. -/
inductive OwnerSlot where
  | unused
  | spent
  | enrolled (key : List Byte)
  deriving DecidableEq, Repr

/-- An authorisation grant (R541): the requester value and the end of the grant. -/
structure Grant where
  requester : Nat
  ends : Nat
  deriving DecidableEq, Repr

/-- Security: the firmware slots, which one is preferred and which one runs, the SVN fuse counter, the owner slots and a key being blown; the challenge with
its end, the grants, oldest first, the instants of the last refused responses, the end of the lockout (R532-R541). -/
structure Security where
  slot0 : FwSlot := { state := .valid, image := none }
  slot1 : FwSlot := {}
  preferred : Nat := 0
  running : Nat := 0
  runs : Bool := false
  fuse : Nat := 0
  owner0 : OwnerSlot := .unused
  owner1 : OwnerSlot := .unused
  blowing : Option (List Byte) := none
  challenge : Option (List Byte × Nat) := none
  grants : List Grant := []
  fails : List Nat := []
  lockedUntil : Option Nat := none
  deriving DecidableEq, Repr

/-! ## Clocks (17) -/

/-- A PLL out of lock (R471): the instant of the loss and the attempts that have failed. -/
structure LostPll where
  since : Nat
  failed : Nat := 0
  deriving DecidableEq, Repr

/-- An excursion of PLL-C (R476, R584): the set frequency it goes to, with its divider and band, and its beginning. -/
structure Excursion where
  target : Nat
  divider : Nat
  band : Nat
  since : Nat
  deriving DecidableEq, Repr

/-- The clocks: the PLLs out of lock by their code; of PLL-C the set frequency, its divider (0: none in use) and band, an excursion, the last ramp interval;
the instant of a retune of PLL-X; a change to the recovered reference that waits for port A after a
wake (R482). -/
structure Clocks where
  lost : Store LostPll := []
  freq : Nat := 0
  divider : Nat := 0
  band : Nat := 0
  excursion : Option Excursion := none
  rampAt : Nat := 0
  retuneX : Option Nat := none
  waitRef : Bool := false
  deriving DecidableEq, Repr

/-! ## Power path (18) -/

/-- States of the power path (R491). -/
inductive PathState where
  | input | handover | cell | shutdown
  deriving DecidableEq, Repr

/-- Charge states (R508). -/
inductive ChgState where
  | disabled | noCell | precharge | cc | cv | done | suspended | timerFault | ntcFault | noInput
  deriving DecidableEq, Repr

/-- Where a supplement event stands (R490): the continuous first 10 ms, or its periodic phase with supplement forbidden or allowed; `phaseAt` is the
beginning of the phase, `zeroFrom` since when no supplement was drawn, `since` the beginning of the event. -/
structure Supplement where
  since : Nat
  phaseAt : Nat
  periodic : Bool
  allowed : Bool
  zeroFrom : Option Nat
  deriving DecidableEq, Repr

/-- The power path, the cell and the charger. `vin` is VIN in mV as last reported, `vinAt` when; `lowNs` is the hold-up time counted in this stay in CELL
(R494), `qualFrom` the beginning of the qualification (R493); `handovers` are the entries to HANDOVER of the last second, `bounceUntil` ends a bounce hold.
`vinOver` is VIN_OVER. `cellMv` is the cell voltage as last measured, `connected` tells that the cell is not cut off by SHIP, `shipArmed` that SHIP is armed.
`noCell`, `ntcFault`, `ntcGoodFrom` and `tempOut` are what the NTC tells (R496, R498). `known` and `charge` are the charge count in mA ns (R495), `measuredAt`
the last measurement. `phase` is where the charge cycle stands (`disabled`: no cycle), `timer` the counted time in half ns up to `timerAt` (R500), `zone` the
zone of R499. `heldBack` tells that R489 holds the charge current down, `need` what demand lacks in mW beyond the input, `overload` that FAULT was entered by PWR_OVERLOAD,
`thermal` is thermal regulation (R499). -/
structure Power where
  path : PathState := .input
  vin : Nat := 0
  vinAt : Nat := 0
  lowNs : Nat := 0
  qualFrom : Nat := 0
  handovers : List Nat := []
  bounceUntil : Option Nat := none
  vinOver : Bool := false
  cellMv : Nat := 0
  connected : Bool := true
  shipArmed : Bool := false
  noCell : Bool := true
  ntcFault : Bool := false
  ntcGoodFrom : Option Nat := none
  tempOut : Bool := false
  known : Bool := false
  charge : Nat := 0
  measuredAt : Nat := 0
  phase : ChgState := .disabled
  timer : Nat := 0
  timerAt : Nat := 0
  zone : Nat := 2
  heldBack : Bool := false
  need : Nat := 0
  overload : Bool := false
  thermal : Bool := false
  supplement : Option Supplement := none
  deriving DecidableEq, Repr

/-! ## Gallery (13) -/

/-- A processing set of a context (R373, R392). -/
structure GaSet where
  enable : Bool := false
  source : Nat := 0
  vc : Nat := 0
  dt : Nat := 0x2A
  width : Nat := 1920
  height : Nat := 1080
  pattern : Nat := 1
  phase : Nat := 0
  black : Nat := 0
  white : Nat := 65535
  matrix : List Int := [4096, 0, 0, 0, 0, 0, 4096, 0, 0, 0, 0, 0, 4096, 0, 0]
  tone : Nat := 1
  window : List Nat := [0, 0, 0, 0]
  outputs : Nat := 1
  dSize : List Nat := [960, 540]
  cSize : List Nat := [1920, 1080]
  cDepth : Nat := 8
  mMode : Nat := 0
  mWeights : List Nat := [0, 4096, 0, 0, 0]
  mPlanes : List Nat := [255, 255, 255, 255]
  mBin : Nat := 1
  statCh : List Nat := [0, 1, 2, 255]
  frameStep : Nat := 1
  weight : Nat := 1
  resBlocks : Nat := 64
  send : Bool := true
  timeout : Nat := 100
  surveyStep : Nat := 1
  surveySync : Bool := false
  deriving DecidableEq, Repr

/-- A view item (R388, R389): its frame's context and number, its format code, its identity, its place in the view buffers, its length, and STATE: 0
open, 1 complete, 2 overwritten, 3 dropped. -/
structure ViewItem where
  id : Nat
  ctx : Nat
  seq : Nat
  kind : Nat
  offset : Nat
  length : Nat
  state : Nat
  deriving DecidableEq, Repr

/-- A frame of a context (R375-R379): the set it is processed with, GA_CTX_FRAMES at its start, the order of its start among all frames, its time, its first line
or CSI-2 frame number, FOLIO, the rows received (samples as 16-bit values or YUV bytes, first row first), its FLAGS so far, whether it still receives, whether FRAME_STEP selects it, the pixels the
pipeline has taken, since when it holds borrowed blocks, the formats still to begin, those open. For a survey frame `first` is the LINE it starts at. -/
structure GaFrame where
  set : GaSet
  seq : Nat
  order : Nat
  time : Nat
  first : Nat
  folio : Nat := 0
  rows : List (List Nat) := []
  flags : Nat := 0
  receiving : Bool := true
  selected : Bool := true
  taken : Nat := 0
  lentAt : Option Nat := none
  toBegin : List Nat := []
  items : List ViewItem := []
  deriving DecidableEq, Repr

/-- A context: the set applied, the pending one, whether the next frame carries APPLIED, its frames, oldest first, when its last packet came, whether a dropped
frame's rest is ignored (R381), the REPEAT_START line a survey frame was last started for. -/
structure GaCtx where
  applied : GaSet := {}
  pending : Option GaSet := none
  fresh : Bool := false
  frames : List GaFrame := []
  packetAt : Nat := 0
  discarding : Bool := false
  usedRepeat : Option Nat := none
  deriving DecidableEq, Repr

/-- The Gallery: the contexts, the frames started so far, the offset for the next item, the items held or open, newest first, whether the clock runs and when
there was last work; the latest LINE number that carried REPEAT_START. -/
structure Gallery where
  ctxs : Store GaCtx := []
  started : Nat := 0
  at_ : Nat := 0
  items : List ViewItem := []
  clock : Bool := false
  workAt : Nat := 0
  repeatAt : Option Nat := none
  deriving DecidableEq, Repr

/-! ## The whole state -/

/-- The state of the tile. `free` counts the free values taken so far (log entry 3); `pending` is the queue of
waiting commands, first in, first out. -/
structure State where
  now : Nat := 0
  tile : Tile := {}
  cat : Catalogue := {}
  log : EventLog := {}
  recs : Records := {}
  lt : LineTimer := {}
  la : Assembler := {}
  portA : LinkPort := {}
  portB : LinkPort := {}
  rg : Registrar := {}
  am : Monitor := {}
  cal : Calibration := {}
  fol : Folio := {}
  sec : Security := {}
  ck : Clocks := {}
  pw : Power := {}
  cu : Curator := {}
  pins : Pins := {}
  tw : TwoWire := {}
  ga : Gallery := {}
  archive : Memory := []
  free : Nat := 0
  pending : List Instr := []
  deriving DecidableEq, Repr

/-- The tile before its first supply: every field at the value its structure gives. -/
def State.reset : State := {}

end Sys2Proof.Machine
end

