-- ==== Sys2Proof/Machine/Ops.lean ====
section
/-! DEFINITION. The named operations that every subsystem uses: the clock, the object values (10), installation time
(12), the alert causes (16), the event log (21) and the Archive (08). -/

namespace Sys2Proof

/-- The other port. -/
def Port.other : Port → Port
  | .a => .b
  | .b => .a

/-- Ports are coded 0 for A and 1 for B (R583). -/
def Port.code : Port → Nat
  | .a => 0
  | .b => 1

/-- Channels are coded 0 for A and 1 for B (R583). -/
def Chan.code : Chan → Nat
  | .a => 0
  | .b => 1

/-- PLLs are coded 0-4 in the order of R485. -/
def Pll.code : Pll → Nat
  | .a => 0
  | .b => 1
  | .c => 2
  | .l => 3
  | .x => 4

/-- The two-wire ports: 0 I2CA, 1 I2CB. -/
def TwPort.code : TwPort → Nat
  | .i2ca => 0
  | .i2cb => 1

end Sys2Proof

namespace Sys2Proof.Machine

/-! ## The clock -/

/-- The state at instant `t`: the tile's clock never runs backwards. -/
def State.at (s : State) (t : Nat) : State := { s with now := Nat.max s.now t }

/-- The next free value's number (log entry 3). -/
def State.drawn (s : State) : State := { s with free := s.free + 1 }

/-! ## Object values (R264, R265) -/

/-- The number of object `o` in a bank. -/
def Bank.num (b : Bank) (o : Nat) : Nat :=
  (storeGet (fun k => BitVec.ofNat 64 (Obj.defaultNum k)) b.nums o).toNat

/-- A bank in which object `o` holds the number `v`. -/
def Bank.setNum (b : Bank) (o v : Nat) : Bank :=
  { b with nums := storePut (fun k => BitVec.ofNat 64 (Obj.defaultNum k)) b.nums o (BitVec.ofNat 64 v) }

/-- The byte string an object holds before anything is written. -/
def defaultBlob (o : Nat) : Blob := { len := Obj.defaultLen o, cells := [], version := 0 }

/-- The byte string of object `o` in a bank. -/
def Bank.blob (b : Bank) (o : Nat) : Blob := storeGet defaultBlob b.blobs o

/-- Byte `i` of object `o`, 0 beyond its end. -/
def Bank.byte (b : Bank) (o i : Nat) : Byte :=
  let v := b.blob o
  if i < v.len then memRead (Obj.defaultByte o) v.cells i else 0

/-- `n` bytes of object `o` from offset `off`. -/
def Bank.bytes (b : Bank) (o off n : Nat) : List Byte := (List.range n).map (fun i => b.byte o (off + i))

/-- All bytes of object `o`. -/
def Bank.all (b : Bank) (o : Nat) : List Byte := b.bytes o 0 (b.blob o).len

/-- The little-endian value of `n` bytes of object `o` at `off`. -/
def Bank.le (b : Bank) (o off n : Nat) : Nat := leNat (b.bytes o off n)

/-- A bank in which object `o` holds the bytes `l`, at VERSION `ver`. -/
def Bank.setBlob (b : Bank) (o : Nat) (l : List Byte) (ver : BitVec 32) : Bank :=
  let v : Blob := { len := l.length, cells := memWriteN (Obj.defaultByte o) [] 0 l, version := ver }
  { b with blobs := storeInsert o v b.blobs }

/-- A bank in which the bytes of object `o` from `off` on are replaced by `l`, its length unchanged. -/
def Bank.patchBlob (b : Bank) (o off : Nat) (l : List Byte) (ver : BitVec 32) : Bank :=
  let v := b.blob o
  let v' : Blob := { len := v.len, cells := memWriteN (Obj.defaultByte o) v.cells off (l.take (v.len - off)), version := ver }
  { b with blobs := storeInsert o v' b.blobs }

/-- A bank in which the byte string of object `o` has VERSION `ver`. -/
def Bank.stampBlob (b : Bank) (o : Nat) (ver : BitVec 32) : Bank :=
  { b with blobs := storeInsert o { b.blob o with version := ver } b.blobs }

/-- The number of a volatile object. -/
def State.reg (s : State) (o : Nat) : Nat := s.cat.vol.num o

/-- A volatile object set to a number. -/
def State.setReg (s : State) (o v : Nat) : State := { s with cat := { s.cat with vol := s.cat.vol.setNum o v } }

/-- A counter of `w` bits advanced by `n`, wrapping to 0 (R81, R104, R290 and the other object tables). -/
def State.bumpBy (s : State) (w o n : Nat) : State := s.setReg o ((s.reg o + n) % 2 ^ w)

/-- A U32 counter advanced by 1, wrapping. -/
def State.bump (s : State) (o : Nat) : State := s.bumpBy 32 o 1

/-- Bit `k` of a status register. -/
def State.flag (s : State) (o k : Nat) : Bool := bit (s.reg o) k

/-- A status register with bit `k` set or cleared. -/
def State.setFlag (s : State) (o k : Nat) (b : Bool) : State := s.setReg o (withBit (s.reg o) k b)

/-- The number of an object in the Active Folio. -/
def State.act (s : State) (o : Nat) : Nat := s.cat.active.num o

/-- The number of an object in the Staged Folio. -/
def State.stg (s : State) (o : Nat) : Nat := s.cat.staged.num o

/-- The working value of a calibration object. -/
def State.wrk (s : State) (o : Nat) : Nat := s.cat.work.num o

/-- The version counter advanced by one write of a byte string (R274). -/
def State.nextVersion (s : State) : State :=
  { s with cat := { s.cat with version := s.cat.version + 1 } }

/-- A volatile byte string that the tile keeps elsewhere has changed: it takes the next VERSION (R274). -/
def State.touch (s : State) (o : Nat) : State :=
  let v := s.cat.version + 1
  { s with cat := { s.cat with version := v, vol := s.cat.vol.stampBlob o v } }

/-- A volatile byte string replaced. -/
def State.setBlob (s : State) (o : Nat) (l : List Byte) : State :=
  let v := s.cat.version + 1
  { s with cat := { s.cat with version := v, vol := s.cat.vol.setBlob o l v } }

/-- Bytes of a volatile byte string replaced from `off` on. -/
def State.patchBlob (s : State) (o off : Nat) (l : List Byte) : State :=
  let v := s.cat.version + 1
  { s with cat := { s.cat with version := v, vol := s.cat.vol.patchBlob o off l v } }

/-- A byte string of the Staged Folio replaced. -/
def State.setStagedBlob (s : State) (o : Nat) (l : List Byte) : State :=
  let v := s.cat.version + 1
  { s with cat := { s.cat with version := v, staged := s.cat.staged.setBlob o l v } }

/-- A byte string of the working calibration copy replaced. -/
def State.setWorkBlob (s : State) (o : Nat) (l : List Byte) : State :=
  let v := s.cat.version + 1
  { s with cat := { s.cat with version := v, work := s.cat.work.setBlob o l v } }

/-- A number of the Staged Folio set. -/
def State.setStg (s : State) (o v : Nat) : State :=
  { s with cat := { s.cat with staged := s.cat.staged.setNum o v } }

/-- A number of the working calibration copy set. -/
def State.setWrk (s : State) (o v : Nat) : State :=
  { s with cat := { s.cat with work := s.cat.work.setNum o v } }

/-- Entry `k` of a counter BLOB of U32 entries advanced by 1, wrapping. -/
def State.bumpEntry (s : State) (o k : Nat) : State :=
  s.patchBlob o (4 * k) (leBytes 4 ((s.cat.vol.le o (4 * k) 4 + 1) % 2 ^ 32))

/-- Entry `k` of a counter BLOB of U64 entries advanced by `n`, wrapping. -/
def State.bumpEntry64 (s : State) (o k n : Nat) : State :=
  s.patchBlob o (8 * k) (leBytes 8 ((s.cat.vol.le o (8 * k) 8 + n) % 2 ^ 64))

/-! ## Installation time (R356-R359) -/

/-- The part of the slew worked off at instant `t`, in ps: at most 50 ppm (R358). How fast within that bound is left
open: log entry 4. -/
def Registrar.worked (r : Registrar) (t : Nat) : Int :=
  if r.slew = 0 then 0
  else
    let lim : Int := ((t - r.slewFrom : Nat) : Int) / 20
    clampInt (-lim) lim (clampInt (Min.min 0 r.slew) (Max.max 0 r.slew) (Config.slewWorked r.slew (t - r.slewFrom)))

/-- Installation time in ps at local instant `t`. -/
def Registrar.psAt (r : Registrar) (t : Nat) : Int := 1000 * (t : Int) + r.offset + r.worked t

/-- Installation time in ps now. -/
def State.itimePs (s : State) : Int := s.rg.psAt s.now

/-- Installation time in ns now, 64 bits. -/
def State.itime (s : State) : Nat := fromSigned 64 ((s.itimePs).fdiv 1000)

/-- Is installation time held? A time master holds its own; a follower from its first token on, until TIME_LOST
(R291, R359). -/
def State.timeHeld (s : State) : Bool :=
  bit (s.reg Obj.LNK_STATUS) 8 || (s.rg.held && !(bit (s.reg Obj.LNK_STATUS) 6))

/-- The TIME of a log entry: installation time, or LOCAL and the ns since BOOT (R291). -/
def State.stamp (s : State) : BitVec 64 :=
  if s.timeHeld then BitVec.ofNat 64 (s.itime % 2 ^ 63)
  else BitVec.ofNat 64 (2 ^ 63 + (s.now - s.tile.bootAt) % 2 ^ 63)

/-! ## The Archive (R214, R216) -/

/-- The bytes of one reference slot: 70,866 lines of 32,768 bytes. -/
def slotBytes : Nat := 2322137088

/-- The first byte of a physical slot: A or B. -/
def slotBase (b : Bool) : Nat := if b then 0xA0000000 else 0

/-- The first byte of the crop ring. -/
def cropRingBase : Nat := 0x140000000

/-- The first byte of the crop directory. -/
def cropDirBase : Nat := 0x1C0000000

/-- The first byte of the Gallery's view buffers. -/
def viewBase : Nat := 0x180000000

/-- The first byte of the event-log mirror. -/
def mirrorBase : Nat := 0x1C0100000

/-- The end of the Archive: 8 GiB. -/
def archiveBytes : Nat := 0x200000000

/-- What a byte of the Archive that nothing has written reads as: 0xFF in the two slots, which SELFTEST fills so
(R216), and 0 elsewhere (log entry 7). -/
def archiveDefault (a : Nat) : Byte :=
  if a < slotBytes ∨ (0xA0000000 ≤ a ∧ a < 0xA0000000 + slotBytes) then 0xFF else 0

/-- Bytes of the Archive. -/
def State.archRead (s : State) (a n : Nat) : List Byte := memReadN archiveDefault s.archive a n

/-- Bytes transferred to or from the Archive, which count for its load over the last ms (R187, R217; log entry 19). -/
def State.moved (s : State) (n : Nat) : State :=
  { s with cu := { s.cu with moved := (s.now, n) :: s.cu.moved.filter (fun m => Nat.ble s.now (m.1 + 1000000)) } }

/-- The uncorrectable words that a write of `n` bytes at `a` covers whole read correctly again (R215). -/
def State.rewritten (s : State) (a n : Nat) : State :=
  { s with cu := { s.cu with ue := s.cu.ue.filter (fun w => !(Nat.ble a (8 * w) && Nat.ble (8 * w + 8) (a + n))) } }

/-- The Archive with bytes written. -/
def State.archWrite (s : State) (a : Nat) (l : List Byte) : State :=
  { (s.moved l.length).rewritten a l.length with archive := memWriteN archiveDefault s.archive a l }

/-- The Archive with a slot filled with 0xFF again. -/
def State.archFill (s : State) (a n : Nat) : State :=
  { (s.moved n).rewritten a n with archive := memForget s.archive a n }

/-! ## Alert causes (R459) -/

/-- An alert cause latched, masked or not: 0 MB_DONE, 1 FAULT, 2 EVENT, 3 WINDOW, 4 HOST. -/
def State.alert (s : State) (k : Nat) : State := s.setFlag Obj.TW_ALERT_PENDING k true

/-- Does the tile drive ALERT_N low (R459)? -/
def State.drivesAlert (s : State) : Bool :=
  (match s.tile.state with
    | .rest | .off | .boot => false
    | _ => true) && Nat.blt 0 (natAnd (s.reg Obj.TW_ALERT_PENDING) (s.reg Obj.TW_ALERT_MASK))

/-! ## The event log (R291, R292, R555) -/

/-- The 16 bytes of an entry (R291). -/
def LogEntry.bytes (e : LogEntry) : List Byte :=
  leBytes 8 e.time.toNat ++ leBytes 2 e.code.toNat ++ leBytes 2 e.count.toNat ++ leBytes 4 e.param.toNat

/-- An empty slot. -/
def emptyEntry : LogEntry := ⟨0, 0, 0, 0⟩

/-- Slot `k` of the log. -/
def EventLog.slot (l : EventLog) (k : Nat) : LogEntry := storeGet (fun _ => emptyEntry) l.slots k

/-- An entry written to the log and, while the Archive is available, to the mirror (R291, R292, R557); each entry
sets the EVENT alert cause (R555). The two BLOBs that change take a VERSION each (R274). -/
def State.writeEntry (s : State) (e : LogEntry) : State :=
  let k := s.log.next.toNat % 256
  let v := s.cat.version
  let s1 := { s with
    log := { s.log with
      slots := storePut (fun _ => emptyEntry) s.log.slots k e
      next := s.log.next + 1
      logVersion := v + 1
      latestVersion := v + 2 }
    cat := { s.cat with version := v + 2 } }
  let s2 := if s.log.mirror then s1.archWrite (mirrorBase + 16 * k) e.bytes else s1
  s2.alert 2

/-- An entry that falls due: written, or held in the always-on domain while the control core cannot write (R555). -/
def State.emitEntry (s : State) (e : LogEntry) : State :=
  if s.log.live then s.writeEntry e
  else { s with log := { s.log with held := s.log.held ++ [e] } }

/-- Codes 0x1701-0x1704 have no holdoff (R555). -/
def noHoldoff (code : Nat) : Bool := Nat.ble 0x1701 code && Nat.ble code 0x1704

/-- The holdoff of an event code that has not occurred. -/
def idleHoldoff : Holdoff := ⟨0, 0, 0, 0⟩

/-- The length of a holdoff: 1 s. -/
def holdoffNs : Nat := 1000000000

/-- An occurrence of an event (R555): written at once with COUNT 1 outside the holdoff of its code, which it starts;
within the holdoff it adds to the pending count, whose first occurrence fixes PARAM and TIME. -/
def State.event (s : State) (code : Nat) (param : Nat) : State :=
  let p := BitVec.ofNat 32 param
  let e : LogEntry := ⟨s.stamp, BitVec.ofNat 16 code, 1, p⟩
  if noHoldoff code then s.emitEntry e
  else
    let h := storeGet (fun _ => idleHoldoff) s.log.holdoffs code
    if h.ends ≤ s.now ∧ h.pending = 0 then
      let s1 := { s with log := { s.log with
        holdoffs := storePut (fun _ => idleHoldoff) s.log.holdoffs code ⟨s.now + holdoffNs, 0, 0, 0⟩ } }
      s1.emitEntry e
    else
      let h' : Holdoff := if h.pending = 0 then ⟨h.ends, 1, p, s.stamp⟩ else { h with pending := h.pending + 1 }
      { s with log := { s.log with
        holdoffs := storePut (fun _ => idleHoldoff) s.log.holdoffs code h' } }

/-- The end of a code's holdoff with a pending count above 0: one entry with that count, and a new holdoff (R555). -/
def State.holdoffEnd (s : State) (code : Nat) : State :=
  let h := storeGet (fun _ => idleHoldoff) s.log.holdoffs code
  if h.ends ≤ s.now ∧ 0 < h.pending then
    let e : LogEntry := ⟨h.time, BitVec.ofNat 16 code, BitVec.ofNat 16 (satNat 16 h.pending), h.param⟩
    let s1 := { s with log := { s.log with
      holdoffs := storePut (fun _ => idleHoldoff) s.log.holdoffs code ⟨s.now + holdoffNs, 0, 0, 0⟩ } }
    s1.emitEntry e
  else s

/-- The entries held through REST written in the order in which they fell due (R555). -/
def State.flushHeld (s : State) : State :=
  let l := s.log.held
  l.foldl State.writeEntry { s with log := { s.log with held := [], live := true } }

/-- The state code of R18. -/
def TileState.code : TileState → Nat
  | .off => 0 | .boot => 1 | .selftest => 2 | .calload => 3 | .linkup => 4
  | .ready => 5 | .run => 6 | .rest => 7 | .fault => 15

/-- A change of tile state, with event 0x1703 EVT_STATE: [7:4] the old code, [3:0] the new (R556). -/
def State.goto (s : State) (st : TileState) : State :=
  let old := s.tile.state
  let s1 := { s with tile := { s.tile with state := st, since := s.now } }
  if old = st then s1 else s1.event 0x1703 (16 * old.code + st.code)

/-- EVT_LIFE value `k` advanced by 1, saturating (R561). -/
def State.life (s : State) (k : Nat) : State :=
  let v := (storeGet (fun _ => (0 : BitVec 32)) s.recs.life k).toNat
  let s1 := s.touch Obj.EVT_LIFE
  { s1 with recs := { s1.recs with
      life := storePut (fun _ => (0 : BitVec 32)) s1.recs.life k (BitVec.ofNat 32 (satNat 32 (v + 1))) } }

/-- Is the tile in READY or RUN? -/
def State.readyOrRunning (s : State) : Bool := match s.tile.state with | .ready | .run => true | _ => false

/-! ## Ports -/

/-- One port of the link. -/
def State.port (s : State) : Port → LinkPort
  | .a => s.portA
  | .b => s.portB

/-- One port of the link replaced. -/
def State.setPort (s : State) (p : Port) (v : LinkPort) : State :=
  match p with
  | .a => { s with portA := v }
  | .b => { s with portB := v }

end Sys2Proof.Machine
end

