-- ==== Sys2Proof/Machine/Position.lean ====
section
/-! DEFINITION. The array's rows and timing as a Folio sets them (02), and web position, station position and the line
grid (03 R50-R66, R72-R78; 12 R362, R363). -/

namespace Sys2Proof.Machine

/-! ## Rows, exposure and busy window (R33-R39) -/

/-- Bands 0-7 enabled in a bank (R36, R48). -/
def enabledBands (b : Bank) : List Nat := (List.range 8).filter (fun k => bit (b.num Obj.PX_BAND_ENABLE) k)

/-- The enabled rows of band `k`: 10k + f to 10k + f + d - 1 (R36). -/
def bandRows (b : Bank) (k : Nat) : List Nat :=
  (List.range (b.num Obj.PX_TDI_DEPTH)).map (fun i => 10 * k + b.num (Obj.PX_BAND_FIRST_ROW k) + i)

/-- Is the survey strip read (R31)? -/
def surveyOn (b : Bank) : Bool := Nat.beq (b.num Obj.PX_SURVEY_ENABLE) 1

/-- The enabled rows in ascending order (R36, R83). -/
def enabledRows (b : Bank) : List Nat :=
  (enabledBands b).flatMap (bandRows b) ++ (if surveyOn b then (List.range 16).map (80 + ·) else [])

/-- n, the number of enabled rows (R36). -/
def rowCount (b : Bank) : Nat :=
  (enabledBands b).length * b.num Obj.PX_TDI_DEPTH + (if surveyOn b then 16 else 0)

/-- Is band `k` in dual exposure (R39, R48)? A bit for a disabled band has no effect. -/
def dualBand (b : Bank) (k : Nat) : Bool :=
  bit (b.num Obj.PX_DUAL_ENABLE) k && bit (b.num Obj.PX_BAND_ENABLE) k

/-- Is any band in dual exposure? -/
def anyDual (b : Bank) : Bool := (List.range 8).any (dualBand b)

/-- The short rows of band `k`: the last PX_SHORT_ROWS of its enabled rows (R39). -/
def shortRowsOf (b : Bank) (k : Nat) : List Nat :=
  if dualBand b k then (bandRows b k).drop (b.num Obj.PX_TDI_DEPTH - b.num Obj.PX_SHORT_ROWS) else []

/-- All short rows. -/
def shortRows (b : Bank) : List Nat := (List.range 8).flatMap (shortRowsOf b)

/-- The busy window B = max(n * 125, E + 40) in ns (R34). -/
def busyNs (n e : Nat) : Nat := Nat.max (n * 125) (e + 40)

/-- The busy window of a Folio. -/
def folioBusy (b : Bank) : Nat := busyNs (rowCount b) (b.num Obj.PX_EXPOSURE)

/-- PX_ACTIVE_RATE_LIMIT (R38). -/
def rateLimit (b : Bank) : Nat :=
  Nat.min 400000 (Nat.min (8000000 / rowCount b) (1000000000 / (b.num Obj.PX_EXPOSURE + 40)))

/-- The row offset o of band `k` in use (R91). -/
def bandOffset (used : Bank) (k : Nat) : Int := toSigned 16 (used.num (Obj.LA_BAND_ROW_OFFSET k))

/-- The largest of a list of integers, or `d`. -/
def maxInt (d : Int) : List Int → Int
  | [] => d
  | x :: r => r.foldl (fun m y => if m < y then y else m) x

/-- The reference row z: the largest effective row of any enabled row of a band (R91). -/
def refRow (used b : Bank) : Int :=
  maxInt 0 ((enabledBands b).flatMap (fun k => (bandRows b k).map (fun (r : Nat) => (r : Int) + bandOffset used k)))

/-- The wait of band `k` in lines: z - (l + o) (R94). -/
def bandWait (used b : Bank) (k : Nat) : Int :=
  refRow used b - (((10 * k + b.num (Obj.PX_BAND_FIRST_ROW k) + b.num Obj.PX_TDI_DEPTH - 1 : Nat) : Int) + bandOffset used k)

/-- LA_REG_LINES: the total wait (R94). -/
def regLines (used b : Bank) : Int := (enabledBands b).foldl (fun a k => a + bandWait used b k) 0

/-- LA_MAX_DELAY: the largest wait (R94). -/
def maxDelay (used b : Bank) : Int := maxInt 0 ((enabledBands b).map (bandWait used b))

/-! ## Seal checks of the array and the line timer (R37-R39, R44, R70) -/

/-- The PARAM of a refused configuration: [31:16] index, [15:8] subindex, [7:0] a code (R583). -/
def objParam (id code : Nat) : Nat := 256 * id + code

/-- The first array check that a Folio fails: the PARAM of event 0x2004 (R37, R38, R39, R44). -/
def arrayRefusal (b : Bank) : Option Nat :=
  let d := b.num Obj.PX_TDI_DEPTH
  let f := b.num Obj.LT_MAX_LINE_RATE
  if enabledBands b = [] then some (objParam Obj.PX_BAND_ENABLE 0)
  else if d < 1 ∨ 10 < d then some (objParam Obj.PX_TDI_DEPTH 0)
  else match (enabledBands b).find? (fun k => Nat.blt 10 (b.num (Obj.PX_BAND_FIRST_ROW k) + d)) with
    | some k => some (objParam (Obj.PX_BAND_FIRST_ROW k) 0)
    | none =>
      if 8000000 / f < rowCount b then some (objParam Obj.LT_MAX_LINE_RATE 1)
      else if 1000000000 < (b.num Obj.PX_EXPOSURE + 40) * f then some (objParam Obj.LT_MAX_LINE_RATE 2)
      else if anyDual b ∧ (b.num Obj.PX_SHORT_ROWS < 1 ∨ d ≤ b.num Obj.PX_SHORT_ROWS) then
        some (objParam Obj.PX_SHORT_ROWS 0)
      else if anyDual b ∧ b.num Obj.PX_EXPOSURE < b.num Obj.PX_EXPOSURE_SHORT then
        some (objParam Obj.PX_EXPOSURE_SHORT 0)
      else if b.num Obj.PX_HALL_ENABLE = 0 then some (objParam Obj.PX_HALL_ENABLE 0)
      else none

/-- The strobe window that R70 refuses, if one is. -/
def strobeRefusal (b : Bank) (x : Nat) : Bool :=
  bit (b.num Obj.LT_STB_ENABLE) x &&
    (Nat.beq (b.num (Obj.LT_STB_WIDTH x)) 0 ||
      Nat.blt (folioBusy b) (b.num (Obj.LT_STB_START x) + b.num (Obj.LT_STB_WIDTH x)))

/-- The first line-timer check that a Folio fails: the PARAM of event 0x210B (R70). -/
def timerRefusal (b : Bank) : Option Nat :=
  match (List.range 4).find? (strobeRefusal b) with
  | some x => some (objParam (Obj.LT_STB_WIDTH x) 0)
  | none =>
    if b.num Obj.LT_LINE_PITCH < 0x100 ∨ 0xFFFFFF < b.num Obj.LT_LINE_PITCH then
      some (objParam Obj.LT_LINE_PITCH 0)
    else if b.num Obj.LT_MAX_LINE_RATE < 1000 ∨ 400000 < b.num Obj.LT_MAX_LINE_RATE then
      some (objParam Obj.LT_MAX_LINE_RATE 0)
    else none

/-! ## Positions (R55, R56, R58) -/

/-- Units of a model position per count: 256 * 10^12. -/
def unitsPerCount : Int := 256000000000000

/-- The modulus of positions, 2^48 counts. -/
def posModulus : Int := 281474976710656 * unitsPerCount

/-- A position reduced modulo 2^48 counts. -/
def posMod (a : Int) : Int := a % posModulus

/-- `a - b` as a signed distance: at or above 0 exactly when `a` is at or beyond `b` (R55). -/
def posDiff (a b : Int) : Int := (a - b + posModulus / 2) % posModulus - posModulus / 2

/-- `a` is at or beyond `b` (R55). -/
def atOrBeyond (a b : Int) : Bool := decide (0 ≤ posDiff a b)

/-- A boundary in 1/256 count as a position. -/
def boundaryPos (b : Nat) : Int := (b : Int) * 1000000000000

/-- A count as a position. -/
def countPos (c : Nat) : Int := (c : Int) * unitsPerCount

/-- P(t) = P + S * (t - T), before any hold (R58); `ps` is installation time in ps. -/
def Model.eval (m : Model) (ps : Int) : Int := posMod (m.p + 256 * m.speed * (ps - m.tm))

/-- The model's web position: held while the model would lie short of it against the direction of motion (R59). -/
def State.webPos (s : State) : Int :=
  let v := s.lt.model.eval s.itimePs
  match s.lt.hold with
  | none => v
  | some h => if 0 ≤ s.lt.model.speed then (if posDiff v h < 0 then h else v)
              else (if 0 < posDiff v h then h else v)

/-- LT_STATION_OFFSET of the Active Folio (R56). -/
def State.stationOffset (s : State) : Int := toSigned 32 (s.act Obj.LT_STATION_OFFSET)

/-- The station position of the model (R56). -/
def State.station (s : State) : Int := posMod (s.webPos - s.stationOffset * unitsPerCount)

/-- Is this tile position master (R55)? -/
def State.posMaster (s : State) : Bool := Nat.beq (s.reg Obj.LT_POS_MASTER) 1

/-- Does the line timer fire in EDGE mode: the mode set and this tile the master (R64)? -/
def State.edgeMode (s : State) : Bool := Nat.beq (s.act Obj.LT_TRIG_MODE) 0 && s.posMaster

/-- The station position that triggers are measured by: the counted edges in EDGE mode, the model otherwise (R64). -/
def State.trigPos (s : State) : Int :=
  if s.edgeMode then posMod (countPos s.lt.count - s.stationOffset * unitsPerCount) else s.station

/-- The line pitch of the Active Folio in 1/256 count (R62). -/
def State.pitch (s : State) : Nat := s.act Obj.LT_LINE_PITCH

/-! ## Backward motion (R65) -/

/-- The model position looked at: whole counts of backward motion counted, a new reversal recorded, REVERSE kept for
READY (R65). -/
def State.watchMotion (s : State) : State :=
  match s.tile.state with
  | .ready | .run =>
    let p := s.webPos
    let d := posDiff p s.lt.seenPos
    if d < 0 then
      let part := s.lt.reversePart - d
      let whole := (part / unitsPerCount).toNat
      let from_ := match s.lt.reverseFrom with
        | some f => f
        | none => s.lt.seenPos
      let s1 := if s.lt.backward then s else s.event 0x2103 0
      let s2 := { s1 with lt := { s1.lt with
        seenPos := p, backward := true, reverseFrom := some from_, reversePart := part % unitsPerCount } }
      let s3 := s2.bumpBy 32 Obj.LT_REVERSE_COUNTS whole
      s3.setFlag Obj.LT_STATUS 6 true
    else if 0 < d then
      let rf := match s.lt.reverseFrom with
        | some f => if atOrBeyond p f then none else some f
        | none => none
      let s2 := { s with lt := { s.lt with seenPos := p, backward := false, reverseFrom := rf } }
      s2.setFlag Obj.LT_STATUS 6 rf.isSome
    else s
  | _ => { s with lt := { s.lt with seenPos := s.webPos } }

/-- REVERSE as R65 gives it: in RUN while the station position lies below the highest boundary fired, otherwise as the
reversal in READY left it. -/
def State.reverseNow (s : State) : Bool :=
  match s.tile.state with
  | .run => match s.lt.high with
    | some h => !(atOrBeyond s.station (boundaryPos h))
    | none => false
  | .ready => s.flag Obj.LT_STATUS 6 && (match s.lt.reverseFrom with
    | some f => !(atOrBeyond s.webPos f)
    | none => false)
  | _ => false

/-! ## Adopting a model (R59, R61) -/

/-- A new model adopted, with or without the hold of R59; a difference of more than one line pitch is counted and
recorded as a step. -/
def State.adopt (s : State) (m : Model) (noHold : Bool) : State :=
  let old := s.webPos
  let new := m.eval s.itimePs
  let d := posDiff new old
  let hold := if noHold then none
    else if 0 ≤ m.speed then (if d < 0 then some old else none)
    else (if 0 < d then some old else none)
  let s1 := { s with lt := { s.lt with model := m, hold := hold } }
  if boundaryPos s.pitch < (if d < 0 then -d else d) then (s1.bump Obj.LT_POS_STEPS).event 0x2107 0 else s1

/-- Installation time stepped: the model's old position is where the hold of R59 starts from. `old` is the position
before the step. -/
def State.afterTimeStep (s : State) (old : Int) : State :=
  let new := s.lt.model.eval s.itimePs
  let d := posDiff new old
  let hold := if 0 ≤ s.lt.model.speed then (if d < 0 then some old else none) else (if 0 < d then some old else none)
  let s1 := { s with lt := { s.lt with hold := hold } }
  if boundaryPos s.pitch < (if d < 0 then -d else d) then (s1.bump Obj.LT_POS_STEPS).event 0x2107 0 else s1

/-! ## The line grid and repeat marks (R62, R66, R72-R78) -/

/-- The first grid boundary at or beyond position `p` in the grid from origin `o` with pitch `q`: its number and its
place in 1/256 count (R61, R62, R66). -/
def gridAt (o q : Nat) (p : Int) : Nat × Nat :=
  let d := posMod (p - boundaryPos o)
  let i := if q = 0 then 0 else ((d + boundaryPos q - 1) / boundaryPos q).toNat
  (i, (o + i * q) % 2 ^ 56)

/-- LT_MARK_SOURCE of the Active Folio (R72). -/
def State.markSource (s : State) : Nat := s.act Obj.LT_MARK_SOURCE

/-- The line timer at entry to RUN (R62, R66, R76): the grid from station position 0, no line fired. -/
def State.enterGrid (s : State) : State :=
  let (i, b) := gridAt 0 s.pitch s.trigPos
  let s1 := { s with lt := { s.lt with
    cand := b, k := i, origins := [], late := false, startFlags := 0, inRepeat := false, accepted := false,
    longDone := false, lastIndex := 0, high := none, busyUntil := s.now, held := none } }
  s1.setFlag Obj.LT_STATUS 5 (Nat.blt 0 s.markSource)

/-- Does the guard of R74 refuse a mark now? Only once a repeat runs. -/
def State.guarded (s : State) : Bool :=
  s.lt.inRepeat && Nat.blt s.lt.lastIndex (s.act Obj.LT_MARK_GUARD)

/-- A mark refused by the guard (R74). -/
def State.markIgnored (s : State) : State := s.bump Obj.LT_MARKS_IGNORED

/-- FLAGS bits of R100 that the line timer sets. -/
def flDivergent : Nat := 2 ^ 22
def flUncal : Nat := 2 ^ 21
def flAccession : Nat := 2 ^ 20
def flClock : Nat := 2 ^ 19
def flOverrun : Nat := 2 ^ 18
def flRepeatStart : Nat := 2 ^ 17
def flShort : Nat := 2 ^ 16
def flLong : Nat := 2 ^ 15
def flNoRef : Nat := 2 ^ 14
def flNoMark : Nat := 2 ^ 13
def flMarkLate : Nat := 2 ^ 12
def flHeld : Nat := 2 ^ 11
def flHoldover : Nat := 2 ^ 10
def flPartialTdi : Nat := 2 ^ 9
def flBandGap : Nat := 2 ^ 8
def flHdr : Nat := 2 ^ 7
def flSat : Nat := 2 ^ 6
def flNormNone : Nat := 2 ^ 5
def flNormRange : Nat := 2 ^ 4
def flClamp : Nat := 2 ^ 3
def flImageTemp : Nat := 2 ^ 2
def flTestCol : Nat := 2
def flPartial : Nat := 2 ^ 23

/-- A FLAGS word with one flag set as well. -/
def addFlag (w f : Nat) (c : Bool) : Nat := if c then Nat.lor w f else w

/-- A mark accepted (R75, R76): SHORT when it comes early, and NO_MARK ends. -/
def State.markAccepted (s : State) : State :=
  let short := s.lt.inRepeat &&
    Nat.blt (s.lt.lastIndex + 1) (s.act Obj.LT_REPEAT_LINES - s.act Obj.LT_REPEAT_TOL)
  let s1 := if short then (s.bump Obj.LT_REPEAT_SHORT).event 0x2108 0 else s
  let s2 := { s1 with lt := { s1.lt with
    accepted := true, startFlags := addFlag s1.lt.startFlags flShort short } }
  s2.setFlag Obj.LT_STATUS 5 false

/-- Origins ahead, the nearest first. -/
def insertOrigin (pos : Int) (o : Nat) : List Nat → List Nat
  | [] => [o]
  | x :: r => if posDiff (boundaryPos o) pos < posDiff (boundaryPos x) pos then o :: x :: r
              else x :: insertOrigin pos o r

/-- A mark at station position `m` delivered from source `src` (R73, R74, R77): one whose origin the station position
has passed starts a repeat at the next boundary, late; another waits for its origin. -/
def State.mark (s : State) (src m : Nat) : State :=
  if s.tile.state = .run ∧ s.markSource = src then
    let b0 := fromSigned 56 (256 * ((m : Int) + toSigned 32 (s.act Obj.LT_MARK_OFFSET)))
    if 0 < posDiff s.station (boundaryPos b0) then
      if s.guarded then s.markIgnored
      else
        let s1 := (s.markAccepted.bump Obj.LT_MARK_LATE).event 0x210A 0
        { s1 with lt := { s1.lt with late := true, startFlags := addFlag s1.lt.startFlags flMarkLate true } }
    else { s with lt := { s.lt with origins := insertOrigin s.station b0 s.lt.origins } }
  else s

/-- The next boundary to fire: the grid's own, or the origin of a waiting mark at or before it (R73). -/
def State.nextBoundary (s : State) : Nat :=
  match s.lt.origins with
  | o :: _ => if atOrBeyond (boundaryPos s.lt.cand) (boundaryPos o) && !s.guarded then o else s.lt.cand
  | [] => s.lt.cand

/-- The waiting marks that the guard refuses as the grid reaches their origins (R74). -/
def dropGuarded (s : State) : List Nat → State
  | [] => s
  | o :: r =>
    if atOrBeyond (boundaryPos s.lt.cand) (boundaryPos o) && s.guarded then
      dropGuarded { s.markIgnored with lt := { s.markIgnored.lt with origins := r } } r
    else s

/-- Does the next boundary start a repeat by a mark? -/
def State.markDue (s : State) : Bool :=
  match s.lt.origins with
  | o :: _ => atOrBeyond (boundaryPos s.lt.cand) (boundaryPos o) && !s.guarded
  | [] => false

/-- The line index carried on, and the flags of the line that its place in the repeat decides (R72, R75, R76). -/
def repeatFlags (s : State) (k : Nat) : Nat × Nat × Bool :=
  let l := s.act Obj.LT_REPEAT_LINES
  let t := s.act Obj.LT_REPEAT_TOL
  if s.markSource = 0 then
    let i := if l = 0 then 0 else k % l
    (i, addFlag 0 flRepeatStart (Nat.beq i 0), false)
  else if !s.lt.inRepeat then
    (k, addFlag (addFlag (addFlag 0 flNoRef true) flLong (!s.lt.accepted)) flNoMark (!s.lt.accepted), false)
  else if l ≤ k then (k, addFlag (addFlag 0 flNoRef true) flLong (Nat.ble (l + t) k), Nat.ble (l + t) k)
  else (k, 0, false)

/-! ## Loss and return of the position (R60, R61) -/

/-- The instant from which LT_POS_HOLDOVER and LT_POS_LOSS are timed (R60). -/
def State.posSince (s : State) : Nat :=
  match s.lt.tokenAt with
  | some t => t
  | none => s.tile.readyAt

/-- Position lost (R60)? -/
def State.posLost (s : State) : Bool := s.flag Obj.LT_STATUS 3

/-- The line index of grid line `k`: without marks it wraps at LT_REPEAT_LINES (R72). -/
def State.indexOf (s : State) (k : Nat) : Nat :=
  let l := s.act Obj.LT_REPEAT_LINES
  if s.markSource = 0 ∧ 0 < l then k % l else k

/-- The grid moved over the boundaries before position `p`, which are lost: line index, LT_LINE_COUNT and
LT_LINES_LOST move with it (R61). -/
def State.loseUpTo (s : State) (p : Int) : State :=
  if atOrBeyond p (boundaryPos s.lt.cand) then
    let (n, b) := gridAt s.lt.cand s.pitch p
    if n = 0 then s
    else
      let s1 := { s with lt := { s.lt with cand := b, k := s.lt.k + n, lastIndex := s.indexOf (s.lt.k + n - 1) } }
      (s1.bumpBy 64 Obj.LT_LINE_COUNT n).bumpBy 32 Obj.LT_LINES_LOST n
  else s

/-- The boundaries passed while the position was lost, with the repeats that began among them (R61). -/
def State.loseOver (s : State) (p : Int) : List Nat → State
  | [] => s.loseUpTo p
  | o :: r =>
    if 0 < posDiff p (boundaryPos o) then
      let s1 := s.loseUpTo (boundaryPos o)
      let s2 := if s1.guarded then s1.markIgnored
        else { s1.markAccepted with lt := { s1.markAccepted.lt with
          startFlags := 0, inRepeat := true, longDone := false, cand := o, k := 0 } }
      State.loseOver { s2 with lt := { s2.lt with origins := r } } p r
    else s.loseUpTo p

/-- The first token after loss moves the grid in RUN (R61). -/
def State.skipLost (s : State) : State :=
  if s.tile.state = .run then s.loseOver s.trigPos s.lt.origins else s

/-! ## The master's own count (R50-R57) -/

/-- Edges of the last 100 ms, at most 16, newest first (R57). -/
def recentEdges (now : Nat) (l : List Edge) : List Edge :=
  (l.take 16).filter (fun e => Nat.ble now (e.time + 100000000))

/-- S in counts per second over the recent edges (R57), rounded half to even (R7). -/
def edgeSpeed (now : Nat) (l : List Edge) : Int :=
  let r := recentEdges now l
  match r.head?, r.getLast? with
  | some newest, some oldest =>
    if r.length < 2 then 0
    else divHalfEven (((r.take (r.length - 1)).foldl (fun a e => a + e.sign) 0) * 1000000000) (newest.time - oldest.time)
  | _, _ => 0

/-- A position master's speed: 0 while an encoder pair is faulty (R53). -/
def State.masterSpeed (s : State) : Int := if s.lt.frozen then 0 else edgeSpeed s.now s.lt.edges

/-- The payload of a POSITION token (R57, R362). -/
def State.positionPayload (s : State) (seq : Nat) (speed : Int) : List Byte :=
  leBytes 4 seq ++ leBytes 4 (b2n s.lt.frozen + 2 * b2n (decide (speed < 0))) ++ leBytes 8 s.lt.count ++
    leBytes 8 s.itime ++ leBytes 4 (fromSigned 32 speed) ++ leBytes 4 s.lt.marks ++ leBytes 8 s.lt.markPos

end Sys2Proof.Machine
end

