-- ==== Sys2Proof/Machine/Assembler.lean ====
section
/-! DEFINITION. Column conversion and line assembly (04 R83-R101; 02 R27, R45; 19 R512, R514): from the codes of a row
slot to the samples and the header of a line. -/

namespace Sys2Proof.Machine

/-! ## Calibration values in use (R101, R512, R521) -/

/-- The values in use now. -/
def State.calUse (s : State) : CalUse :=
  { used := s.cat.used, torn := s.flag Obj.CAL_STATUS 0,
    marked := { blobs := s.cat.vol.blobs.filter (fun p => Nat.beq p.1 Obj.CAL_TORN_COLUMNS || Nat.beq p.1 Obj.CAL_DEAD_MAP) } }

/-- Is active column `k` marked uncalibrated while TORN is set (R101, R525)? -/
def CalUse.uncal (c : CalUse) (k : Nat) : Bool := c.torn && bit (c.marked.byte Obj.CAL_TORN_COLUMNS (k / 8)).toNat (k % 8)

/-- Is active column `k` dead (R514)? -/
def CalUse.deadColumn (c : CalUse) (k : Nat) : Bool := bit (c.marked.byte Obj.CAL_DEAD_MAP (k / 8)).toNat (k % 8)

/-- The dark value D in 12.4 of pixel (row, column) at a gain (R86, R521). -/
def CalUse.darkValue (c : CalUse) (row k : Nat) (gain4 : Bool) : Nat :=
  if c.uncal k then 1024
  else if row < 80 then c.used.le Obj.CAL_PIXEL_TABLES (544 * k + 6 * row + (if gain4 then 2 else 0)) 2
  else c.used.le Obj.CAL_PIXEL_TABLES (544 * k + 480 + 4 * (row - 80)) 2

/-- The flat gain F in 6.10 of pixel (row, column) (R88, R521). -/
def CalUse.flatGain (c : CalUse) (row k : Nat) : Nat :=
  if c.uncal k then 16384
  else if row < 80 then c.used.le Obj.CAL_PIXEL_TABLES (544 * k + 6 * row + 4) 2
  else c.used.le Obj.CAL_PIXEL_TABLES (544 * k + 480 + 4 * (row - 80) + 2) 2

/-- The calibrated gain ratio g of band `b` in 4.12 (R88). -/
def CalUse.gainRatio (c : CalUse) (b : Nat) : Nat := c.used.le Obj.CAL_GAIN_RATIO (2 * b) 2

/-- The band of a row; the survey and dark rows have none. -/
def rowBand (row : Nat) : Option Nat := if row < 80 then some (row / 10) else none

/-- The column gain of a row: x4 as the band's bit says, x1 on survey and dark rows (R31, R41). -/
def rowGain4 (b : Bank) (row : Nat) : Bool :=
  match rowBand row with
  | some k => bit (b.num Obj.PX_BAND_GAIN) k
  | none => false

/-- The saturation code of a gain (R92). -/
def satCode (b : Bank) (gain4 : Bool) : Nat := if gain4 then b.num Obj.LA_SAT_CODE_X4 else b.num Obj.LA_SAT_CODE_X1

/-- The physical column that delivers the code of active column `k`: a spare mapped to it, or its own (R26, R83). -/
def CalUse.chainOf (c : CalUse) (k : Nat) : Nat :=
  let h := k / 1024
  match (List.range 8).find? (fun i => Nat.beq (c.used.le Obj.CAL_SPARE_MAP (2 * (8 * h + i)) 2) k) with
  | some i => 8224 + 8 * h + i
  | none => 16 + k

/-! ## The row clamp (R87) -/

/-- The codes of the 16 dark columns. -/
def darkCodes (codes : List (BitVec 12)) : List Nat :=
  ((codes.drop 8).take 8 ++ (codes.drop 8208).take 8).map BitVec.toNat

/-- The row's calibrated dark mean in 12.4 (CAL_CLAMP_REF). -/
def CalUse.clampRef (c : CalUse) (row : Nat) (gain4 : Bool) : Nat :=
  c.used.le Obj.CAL_CLAMP_REF (2 * (2 * row + b2n gain4)) 2

/-- The row clamp in 1/16 code, and whether it fell back to 0 (R87). -/
def CalUse.rowClamp (c : CalUse) (b : Bank) (row : Nat) (codes : List (BitVec 12)) : Int × Bool :=
  if b.num Obj.LA_ROW_CLAMP = 1 then
    let ref := c.clampRef row (rowGain4 b row)
    let lim := 16 * b.num Obj.LA_CLAMP_LIMIT
    let kept := (darkCodes codes).filter (fun x => Nat.ble (16 * x) (ref + lim) && Nat.ble ref (16 * x + lim))
    if kept.length < 8 then (0, true)
    else (divHalfEven (16 * (kept.foldl (· + ·) 0 : Nat)) kept.length - (ref : Int), false)
  else (0, false)

/-! ## Light-energy normalisation (R89, R414) -/

/-- An accumulator that has latched nothing. -/
def idleAcc : Accumulator := {}

/-- The energy of a line from accumulator `i` when that accumulator is enabled with gate `gate` and latched a valid
result for the line (R414). -/
def State.energy (s : State) (i gate line : Nat) : Option Int :=
  let a := storeGet (fun _ => idleAcc) s.am.accs i
  if s.reg (Obj.AM_ACC_ENABLE i) = 1 ∧ s.reg (Obj.AM_ACC_GATE i) = gate ∧ a.lastLine = some (line % 2 ^ 32) ∧ a.lastValid
  then some a.lastValue else none

/-- q in 3.13 from E_cal and the line's energy, with NORM_NONE and NORM_RANGE (R89). -/
def normQ (ecal : Nat) (e : Option Int) : Nat × Bool × Bool :=
  match e with
  | none => (8192, true, false)
  | some v =>
    if v ≤ 0 ∨ 4 * v < (ecal : Int) then (32768, false, true)
    else if 4 * (ecal : Int) < v then (2048, false, true)
    else ((divHalfEven (8192 * (ecal : Int)) v.toNat).toNat, false, false)

/-- The q of a window for a line of a Folio. -/
def State.lineQ (s : State) (c : CalUse) (b : Bank) (short : Bool) (line : Nat) : Nat × Bool × Bool :=
  if b.num Obj.LA_NORM_ENABLE = 1 then
    if short then normQ (c.used.num Obj.CAL_E_CAL) (s.energy (b.num Obj.LA_NORM_ACC_SHORT) 2 line)
    else normQ (c.used.num Obj.CAL_E_CAL) (s.energy (b.num Obj.LA_NORM_ACC_LONG) 1 line)
  else (8192, false, false)

/-! ## One row's capture (R86-R90) -/

/-- The denominator of a row's u values: 2^27 at gain x1; at gain x4 also g and the 4.000 of R101. -/
def CalUse.rowDen (c : CalUse) (b : Bank) (row : Nat) : Nat :=
  match rowGain4 b row, rowBand row with
  | true, some k => 134217728 * c.gainRatio k * 16384
  | _, _ => 134217728

/-- The exact numerator of u of one pixel (R86-R90): x * F * q over the row's denominator. -/
def CalUse.pixelNum (c : CalUse) (b : Bank) (row k code : Nat) (clamp : Int) (q : Nat) : Int :=
  let g4 := rowGain4 b row
  let x : Int := 16 * (code : Int) - (c.darkValue row k g4 : Int) - clamp
  let y : Int := x * (c.flatGain row k : Int) * (q : Int)
  match g4, rowBand row with
  | true, some band => y * 4096 * (if c.uncal k then (c.gainRatio band : Int) else 16384)
  | _, _ => y

/-- The capture of a row from its codes: one entry for each active column. -/
def CalUse.captureRow (c : CalUse) (b : Bank) (row q : Nat) (codes : List (BitVec 12)) : RowCapture :=
  let (clamp, fb) := c.rowClamp b row codes
  let sat := satCode b (rowGain4 b row)
  let arr := codes.toArray
  { row := row
    den := c.rowDen b row
    fallback := fb
    short := (shortRows b).contains row
    cols := (List.range 8192).map (fun k =>
      let code := (arr.getD (c.chainOf k) 0).toNat
      if c.deadColumn k then (none, false) else (some (c.pixelNum b row k code clamp q), Nat.ble sat code)) }

/-! ## Test columns (R27) -/

/-- The physical test columns, in the order of CAL_TEST_COL_REF. -/
def testColumns : List Nat := [0, 1, 2, 3, 4, 5, 6, 7, 8216, 8217, 8218, 8219, 8220, 8221, 8222, 8223]

/-- The calibrated code of test column `i` in a row at a gain and an injection parity (R517, R528). -/
def CalUse.testRef (c : CalUse) (i row : Nat) (gain4 : Bool) (parity : Nat) : Nat :=
  c.used.le Obj.CAL_TEST_COL_REF (2 * (4 * (96 * i + row) + 2 * b2n gain4 + parity)) 2

/-- The test columns whose code in this row deviates by more than 2 % of full scale (R27). -/
def CalUse.testDeviations (c : CalUse) (b : Bank) (row line : Nat) (codes : List (BitVec 12)) : List Nat :=
  if row < 96 then
    let arr := codes.toArray
    (List.range 16).filter (fun i =>
      let code := (arr.getD (testColumns.getD i 0) 0).toNat
      let r := c.testRef i row (rowGain4 b row) (line % 2)
      Nat.blt (2 * 4096) (100 * (if code < r then r - code else code - r)))
  else []

/-- A test column after a converted line: 16 failing lines in a row count and report it once, 16 passing lines end
its failed condition (R27). -/
def State.testColumnLine (s : State) (i : Nat) : State :=
  let bad := s.la.testNow.contains i
  let f := if bad then storeGet (fun _ => 0) s.la.testFail i + 1 else 0
  let p := if bad then 0 else storeGet (fun _ => 0) s.la.testPass i + 1
  let s1 := { s with la := { s.la with
    testFail := storePut (fun _ => 0) s.la.testFail i (Nat.min f 16)
    testPass := storePut (fun _ => 0) s.la.testPass i (Nat.min p 16) } }
  if 16 ≤ f ∧ !(s.la.testBad.contains i) then
    let s2 := (s1.bump Obj.PX_TEST_COL_ERRORS).event 0x2003 (testColumns.getD i 0)
    { s2 with la := { s2.la with testBad := i :: s2.la.testBad } }
  else if 16 ≤ p then { s1 with la := { s1.la with testBad := s1.la.testBad.filter (· ≠ i) } }
  else s1

/-- Every test column after a converted line, and PX_STATUS.TEST_COL_FAIL (R27, R49). -/
def State.testColumnsLine (s : State) : State :=
  let s1 := (List.range 16).foldl State.testColumnLine s
  let s2 := { s1 with la := { s1.la with testNow := [] } }
  s2.setFlag Obj.PX_STATUS 1 (!s2.la.testBad.isEmpty)

/-! ## Codes of a row slot (R83, R85) -/

/-- The flight whose next row slot is `slot`, oldest first. -/
def Assembler.converting (a : Assembler) (slot : Nat) : Option Flight :=
  a.flights.find? (fun f => f.ended && Nat.beq f.done slot)

/-- A flight replaced, by its LINE number. -/
def Assembler.setFlight (a : Assembler) (f : Flight) : Assembler :=
  { a with flights := a.flights.map (fun x => if x.trig.number = f.trig.number then f else x) }

/-- The capture of a LINE number. -/
def Assembler.capture (a : Assembler) (n : Nat) : Option Capture := a.captures.find? (fun c => Nat.beq c.number n)

/-- A capture stored: the newest 128 are kept, which covers every wait of R94. -/
def Assembler.setCapture (a : Assembler) (c : Capture) : Assembler :=
  if a.captures.any (fun x => Nat.beq x.number c.number) then
    { a with captures := a.captures.map (fun x => if x.number = c.number then c else x) }
  else { a with captures := (c :: a.captures).take 128 }

/-- The first row of a capture fixes the q of its trigger's windows, with the events of R89. -/
def State.openCapture (s : State) (f : Flight) : State × Capture :=
  let n := f.trig.number
  match s.la.capture n with
  | some c => (s, c)
  | none =>
    let (ql, nl, rl) := s.lineQ f.trig.cal f.trig.bank false n
    let (qs, ns, rs) := if anyDual f.trig.bank then s.lineQ f.trig.cal f.trig.bank true n else (8192, false, false)
    let s1 := if nl || ns then s.event 0x2201 0 else s
    let s2 := if rl || rs then s1.event 0x2202 0 else s1
    (s2, { number := n, qLong := ql, qShort := qs, noneLong := nl, rangeLong := rl, noneShort := ns, rangeShort := rs })

/-- The codes of a row slot taken into the line's capture (R83-R90). -/
def State.rowCodes (s : State) (f : Flight) (codes : List (BitVec 12)) : State :=
  let b := f.trig.bank
  let row := (enabledRows b).getD f.done 0
  let (s1, c) := s.openCapture f
  let q := if (shortRows b).contains row then c.qShort else c.qLong
  let rc := f.trig.cal.captureRow b row q codes
  let s2 := if rc.fallback then (s1.bump Obj.LA_CLAMP_FALLBACK).event 0x2203 0 else s1
  let dev := f.trig.cal.testDeviations b row f.trig.number codes
  let la1 := s2.la.setCapture { c with rows := rc :: c.rows }
  let la2 := la1.setFlight { f with done := f.done + 1 }
  { s2 with la := { la2 with testNow := dev ++ la2.testNow.filter (fun i => !(dev.contains i)) } }

/-! ## Band samples (R91-R93) -/

/-- A row's capture that contributes to a line: row `row` at LINE number `n`, if it exists. -/
def Assembler.contribution (a : Assembler) (t : Trig) (row : Nat) (lag : Int) : Option (Capture × RowCapture) :=
  if lag < 0 ∨ (t.number : Int) < lag then none
  else
    let n := t.number - lag.toNat
    if n < t.firstValid then none
    else match a.capture n with
      | none => none
      | some c => (c.rows.find? (fun r => Nat.beq r.row row)).map (fun r => (c, r))

/-- The running sum of one column over the rows taken so far: sum of numerators, rows, saturated, dead. -/
structure ColSum where
  sum : Int
  sat : Bool
  dead : Bool
  deriving DecidableEq, Repr

/-- Whether `q` is 1.0 for want of a valid energy, and whether it is limited, in the window of a row's capture (R89). -/
def Capture.norm (c : Capture) (r : RowCapture) : Bool × Bool :=
  if r.short then (c.noneShort, c.rangeShort) else (c.noneLong, c.rangeLong)

/-- One row added to the column sums. -/
def addRow (acc : List ColSum) (r : RowCapture) : List ColSum :=
  List.zipWith (fun a c => match c.1 with
    | some v => { a with sum := a.sum + v, sat := a.sat || c.2 }
    | none => { a with dead := true }) acc r.cols

/-- The sums of a set of rows, column by column; the columns of the halls that the mask leaves out give no sample (R44). -/
def sumRows (halls : Nat) (rows : List RowCapture) : List ColSum :=
  rows.foldl addRow ((List.range 8192).map (fun k => ⟨0, false, !(bit halls (k / 1024))⟩))

/-- What forming a sample did: nothing special, limited at 65,534, saturated (R92). -/
inductive Limit where
  | none | clipped | saturated
  deriving DecidableEq, Repr

/-- A sample from a sum over `n` rows of denominator `den` (R92). -/
def formSample (c : ColSum) (n den : Nat) : Nat × Limit :=
  if c.dead then (0xFFFF, .none)
  else if c.sat then (65534, .saturated)
  else
    let m := divHalfEven c.sum (n * den)
    if m < 0 then (0, .none) else if 65534 < m then (65534, .clipped) else (m.toNat, .none)

/-- A band's samples with what is counted in forming them. -/
structure BandOut where
  samples : List Nat
  gap : Bool
  partial_ : Bool
  sat : Nat
  clipped : Nat
  hdr : Nat
  deriving DecidableEq, Repr

/-- The samples of a band in which no row exists (R92). -/
def gapBand : BandOut := ⟨List.replicate 8192 0xFFFF, true, true, 0, 0, 0⟩

/-- Samples from one set of rows, in the enabled halls. -/
def plainBand (halls : Nat) (rows : List RowCapture) (d : Nat) : BandOut :=
  let den := (rows.head?.map RowCapture.den).getD 1
  let out := (sumRows halls rows).map (fun c => formSample c rows.length den)
  ⟨out.map Prod.fst, false, Nat.blt rows.length d, (out.filter (fun x => x.2 = .saturated)).length,
    (out.filter (fun x => x.2 = .clipped)).length, 0⟩

/-- Samples of a band in dual exposure: from its long rows unless one is saturated or none exists, else from its short
rows (R93). -/
def dualBandOut (halls : Nat) (long short : List RowCapture) (d : Nat) : BandOut :=
  if long = [] then
    let o := plainBand halls short d
    { o with partial_ := true, hdr := (o.samples.filter (· ≠ 0xFFFF)).length }
  else if short = [] then { plainBand halls long d with partial_ := true }
  else
    let denL := (long.head?.map RowCapture.den).getD 1
    let denS := (short.head?.map RowCapture.den).getD 1
    let out := List.zipWith (fun (l c : ColSum) =>
      if l.sat && !l.dead then (formSample c short.length denS, true) else (formSample l long.length denL, false))
      (sumRows halls long) (sumRows halls short)
    ⟨out.map (fun x => x.1.1), false, Nat.blt (long.length + short.length) d,
      (out.filter (fun x => x.1.2 = .saturated)).length, (out.filter (fun x => x.1.2 = .clipped)).length,
      (out.filter (fun x => x.2)).length⟩

/-- The contributing captures of band `k` for a line (R91), with the captures they belong to. -/
def State.bandParts (s : State) (t : Trig) (k : Nat) : List (Capture × RowCapture) :=
  let z := refRow t.cal.used t.bank
  (bandRows t.bank k).filterMap (fun r =>
    s.la.contribution t r (z - (r : Int) - bandOffset t.cal.used k))

/-- Band `k` of a line (R92, R93). -/
def State.bandOut (s : State) (t : Trig) (k : Nat) : BandOut :=
  let rows := (s.bandParts t k).map Prod.snd
  let d := t.bank.num Obj.PX_TDI_DEPTH
  if rows = [] then gapBand
  else if dualBand t.bank k then
    let sh := shortRowsOf t.bank k
    dualBandOut (t.bank.num Obj.PX_HALL_ENABLE) (rows.filter (fun r => !(sh.contains r.row))) (rows.filter (fun r => sh.contains r.row)) d
  else plainBand (t.bank.num Obj.PX_HALL_ENABLE) rows d

/-- Column binning within strips: the mean of m samples, rounded half to even; invalid when one of them is (R45). -/
def binSamples (m : Nat) : Nat → List Nat → List Nat
  | 0, _ => []
  | n + 1, l =>
    let g := l.take m
    (if g.contains 0xFFFF then 0xFFFF else divHalfEvenNat (g.foldl (· + ·) 0) m) :: binSamples m n (l.drop m)

/-- The samples handed on: binned by PX_COL_BIN, and none from a disabled hall (R44, R45, R97). -/
def handOn (b : Bank) (l : List Nat) : List (BitVec 16) :=
  let m := b.num Obj.PX_COL_BIN
  let halls := b.num Obj.PX_HALL_ENABLE
  let masked := (l.zip (List.range 8192)).map (fun x => if bit halls (x.2 / 1024) then x.1 else 0xFFFF)
  ((if m ≤ 1 then masked else binSamples m (8192 / m) masked).map (BitVec.ofNat 16))

/-! ## The survey line (R96) -/

/-- The survey samples of a line and whether rows are missing: mosaic row m = LINE mod 4, each row r from trigger
n - (95 - r). -/
def State.surveyOut (s : State) (t : Trig) : BandOut :=
  let m := t.head.line.toNat % 4
  let parts := [80 + m, 84 + m, 88 + m, 92 + m].filterMap (fun r => s.la.contribution t r (95 - (r : Int)))
  if parts = [] then gapBand else plainBand (t.bank.num Obj.PX_HALL_ENABLE) (parts.map Prod.snd) 4

/-! ## Headers (R99, R100) -/

/-- The eight words of a line header (R99). -/
def LineHead.words (h : LineHead) : List Nat :=
  [h.kind * 2 ^ 28 + h.depth * 2 ^ 24 + h.bands * 2 ^ 16 + h.halls * 2 ^ 8 + h.bin * 2 ^ 6,
   h.line.toNat,
   h.position % 2 ^ 32,
   (h.position / 2 ^ 32 % 2 ^ 16) * 2 ^ 16 + h.folio % 2 ^ 16,
   (Nat.min h.repeatIndex 131071) * 2 ^ 15 + h.holdDelay % 2 ^ 15,
   h.time.toNat,
   h.gapBands * 2 ^ 24 + h.flags % 2 ^ 24,
   h.qLong * 2 ^ 16 + h.qShort]

/-- The 32 bytes of a header. -/
def LineHead.bytes (h : LineHead) : List Byte := h.words.flatMap (leBytes 4)

/-- BIN of R99 for a binning factor. -/
def binCode (m : Nat) : Nat := if m = 2 then 1 else if m = 4 then 2 else 0

/-- A mask of the list's positions that hold. -/
def maskOf (l : List Bool) : Nat := bitsToNat l

end Sys2Proof.Machine
end

