-- ==== Sys2Proof/Machine/Monitor.lean ====
section
/-! DEFINITION. The analogue monitor (14): channels, self-calibration, accumulators, trackers and detectors. -/

namespace Sys2Proof.Machine

/-- The channel of a code. -/
def chanOf (n : Nat) : Chan := if n = 0 then .a else .b

/-- A channel's state. -/
def Monitor.chan (m : Monitor) : Chan → MonChannel
  | .a => m.chA
  | .b => m.chB

/-- A channel's state replaced. -/
def Monitor.setChan (m : Monitor) (c : Chan) (v : MonChannel) : Monitor :=
  match c with
  | .a => { m with chA := v }
  | .b => { m with chB := v }

/-- Accumulator `i`. -/
def Monitor.acc (m : Monitor) (i : Nat) : Accumulator := storeGet (fun _ => idleAcc) m.accs i

/-- Accumulator `i` replaced. -/
def Monitor.setAcc (m : Monitor) (i : Nat) (v : Accumulator) : Monitor :=
  { m with accs := storePut (fun _ => idleAcc) m.accs i v }

/-- A tracker that has seen nothing. -/
def idleTracker : Tracker := {}

/-- Tracker `i`. -/
def Monitor.mm (m : Monitor) (i : Nat) : Tracker := storeGet (fun _ => idleTracker) m.mms i

/-- Tracker `i` replaced. -/
def Monitor.setMm (m : Monitor) (i : Nat) (v : Tracker) : Monitor :=
  { m with mms := storePut (fun _ => idleTracker) m.mms i v }

/-- A detector that has seen nothing. -/
def idleDetector : Detector := {}

/-- The detector of a channel. -/
def Monitor.gz (m : Monitor) (c : Chan) : Detector := storeGet (fun _ => idleDetector) m.gzs c.code

/-- The detector of a channel replaced. -/
def Monitor.setGz (m : Monitor) (c : Chan) (v : Detector) : Monitor :=
  { m with gzs := storePut (fun _ => idleDetector) m.gzs c.code v }

/-! ## Presets and latency (R402) -/

/-- Decimation D of a preset. -/
def presetD (p : Nat) : Nat :=
  match p with
  | 0 => 1 | 1 => 16 | 2 => 256 | 3 => 4096 | _ => 65536

/-- Settling count of a preset in outputs. -/
def presetSettle (p : Nat) (minPhase : Bool) : Nat :=
  match p with
  | 0 => 256 | 1 => 32 | 2 => 32 | _ => if minPhase then 40 else 32

/-- Latency of a preset at skew 0 in ns: 72 ns and the group delay. -/
def presetLatency (p : Nat) (minPhase : Bool) : Nat :=
  match p with
  | 0 => 72
  | 1 => 328
  | 2 => 4168
  | 3 => if minPhase then 16456 else 65608
  | _ => if minPhase then 262216 else 1048648

/-- A channel's preset. -/
def State.preset (s : State) (c : Chan) : Nat := s.reg (Obj.AM_CH_PRESET c.code)

/-- A channel's minimum-phase choice. -/
def State.minPhase (s : State) (c : Chan) : Bool := Nat.beq (s.reg (Obj.AM_CH_MINPHASE c.code)) 1

/-- AM_CHx_LATENCY in ps: a skew k changes the latency by -k (R400, R402). -/
def State.chanLatency (s : State) (c : Chan) : Nat :=
  (1000 * (presetLatency (s.preset c) (s.minPhase c) : Int)
    - divHalfEven (1000 * toSigned 16 (s.reg (Obj.AM_CH_SKEW c.code))) 256).toNat

/-- AM_CHx_SAMPLES: outputs since FIRST_VALID, 1 with that output (R403). -/
def State.chanSamples (s : State) (c : Chan) : Nat :=
  let ch := s.am.chan c
  match ch.settledAt with
  | some t => 1 + (s.now - t) / presetD (s.preset c)
  | none => ch.heldSamples

/-! ## Power, reference and resets (R397, R398, R403) -/

/-- The monitor is powered (R397). -/
def State.monitorPowered (s : State) : Bool :=
  match s.tile.state with
  | .calload | .linkup | .ready | .run | .fault => true
  | _ => false

/-- AM_REF_ON_TIME in us, saturating (R397). -/
def State.refOnTime (s : State) : Nat :=
  match s.am.refAt with
  | some t => if s.monitorPowered then satNat 32 ((s.now - t) / 1000) else 0
  | none => 0

/-- Has the reference been on for 5,000 us (R397)? -/
def State.refReady (s : State) : Bool := Nat.ble 5000 s.refOnTime

/-- Does a channel's clock run: enabled, in READY or RUN, with the reference buffer on and PLL-A in lock
(R397, R398, R472)? -/
def State.chanClock (s : State) (c : Chan) : Bool :=
  Nat.beq (s.reg (Obj.AM_CH_ENABLE c.code)) 1 && s.am.refAt.isSome && !(s.flag Obj.CLK_STATUS 1) &&
    (match s.tile.state with | .ready | .run => true | _ => false)

/-- AM_CHx_STATUS kept with a channel's state: CLOCK_RUN, REF_WAIT, SETTLED, CAL_RUNNING (R420). -/
def State.chanStatus (s : State) (c : Chan) : State :=
  let o := Obj.AM_CH_STATUS c.code
  let ch := s.am.chan c
  ((((s.setFlag o 0 ch.running).setFlag o 1 (ch.running && !s.refReady)).setFlag o 2 ch.settledAt.isSome).setFlag o 3
    ch.calUntil.isSome)

/-- A reset of a channel (R403): filter state cleared, the detector's block cancelled, SETTLED cleared, no output until
the settling count; the next valid result of its accumulators and trackers is a first one (R412). -/
def State.chanReset (s : State) (c : Chan) : State :=
  let ch := s.am.chan c
  let ch' := { ch with
    running := s.chanClock c, bgAt := (if ch.running then ch.bgAt else s.now), resetAt := s.now, resets := ch.resets + 1, settledAt := none
    heldSamples := s.chanSamples c }
  let m := (s.am.setChan c ch').setGz c { block := 0, freq := 100000, n := 4096, clip := false }
  let m1 := (List.range 8).foldl (fun m i =>
    if s.reg (Obj.AM_ACC_CHANNEL i) = c.code then m.setAcc i { m.acc i with firstDue := true } else m) m
  let m2 := (List.range 4).foldl (fun m i =>
    if s.reg (Obj.AM_MM_CHANNEL i) = c.code then
      m.setMm i { m.mm i with firstDue := true, min := 8388607, max := -8388608, samples := 0, clip := false }
    else m) m1
  State.chanStatus { s with am := m2 } c

/-- A channel stopped: no clock, no output (R397, R398). -/
def State.chanStop (s : State) (c : Chan) : State :=
  let ch := s.am.chan c
  let ch' := { ch with running := false, settledAt := none, heldSamples := s.chanSamples c, resets := ch.resets + 1 }
  State.chanStatus { s with am := s.am.setChan c ch' } c

/-- Both channels brought into line with the tile state and their enables: a clock that starts resets its channel. -/
def State.chanSync (s : State) : State :=
  let one := fun (s : State) (c : Chan) =>
    if s.chanClock c = (s.am.chan c).running then s.chanStatus c
    else if s.chanClock c then s.chanReset c else s.chanStop c
  one (one s .a) .b

/-- The instant at which a channel's settling count completes (R403, R404). -/
def State.settleAt (s : State) (c : Chan) : Nat :=
  (s.am.chan c).resetAt + presetSettle (s.preset c) (s.minPhase c) * presetD (s.preset c)

/-- A channel gives its FIRST_VALID output (R403), which starts its detector's first block (R416). -/
def State.chanSettled (s : State) (c : Chan) : State :=
  let ch := s.am.chan c
  if ch.running && s.refReady && Nat.ble ((s.am.refAt.getD 0) + 5000000) ch.resetAt && ch.calUntil.isNone && ch.settledAt.isNone && Nat.ble (s.settleAt c) s.now then
    let d : Detector := { block := 0, freq := s.reg (Obj.AM_GZ_FREQ c.code), n := s.reg (Obj.AM_GZ_N c.code) }
    State.chanStatus { s with am := (s.am.setChan c { ch with settledAt := some s.now }).setGz c d } c
  else s

/-! ## The conversion chain (R399) -/

/-- Stages 1 to 3 of one sample of channel `c` converted by slice `k` (R399), with the slice's skew left to the
interpolation: the input sample in mu, rounded half to even and limited. -/
def State.inputSample (s : State) (c : Chan) (k code : Nat) : Int :=
  let o := match c with | .a => Obj.AM_SLICE_FACTORS_A | .b => Obj.AM_SLICE_FACTORS_B
  let off := toSigned 16 (s.cat.work.le o (8 * k) 2)
  let gain := s.cat.work.le o (8 * k + 2) 2
  let cg := s.cat.work.le o (32 + 4 * s.reg (Obj.AM_CH_GAIN c.code)) 4
  let i := 4 * c.code + s.reg (Obj.AM_CH_INPUT c.code)
  let r : Int := (1024 * (code : Int) - 64 * off) * (gain : Int) * (cg : Int)
  let x := divHalfEven ((r - toSigned 32 (s.wrk (Obj.AM_IN_OFFSET i)) * 137438953472) * (s.wrk (Obj.AM_IN_GAIN i) : Int))
    576460752303423488
  clampInt (-8388608) 8388607 x

/-- Is the timing skew of every slice of a converter 0? -/
def State.noSliceSkew (s : State) (c : Chan) : Bool :=
  let o := match c with | .a => Obj.AM_SLICE_FACTORS_A | .b => Obj.AM_SLICE_FACTORS_B
  (List.range 4).all (fun k => Nat.beq (s.cat.work.le o (8 * k + 4) 2) 0)

/-- The output samples of a channel for the converted codes of a window, the first of them from slice `slice`. Under
PULSE, without slice skew and with a whole-nanosecond delay, they are the input samples; the spec gives no
coefficients for the interpolation, the fractional delay and the decimation filters, whose outputs are free values
(log entry 5). -/
def State.outputs (s : State) (c : Chan) (slice : Nat) (codes : List (BitVec 12)) : List Int :=
  let xs := (codes.zip (List.range codes.length)).map (fun p => s.inputSample c ((slice + p.2) % 4) p.1.toNat)
  if s.preset c = 0 ∧ s.noSliceSkew c ∧ s.reg (Obj.AM_CH_SKEW c.code) % 256 = 0 then xs
  else (Config.monitorFilter (s.preset c) (s.minPhase c) (toSigned 16 (s.reg (Obj.AM_CH_SKEW c.code))) xs).map
    (clampInt (-8388608) 8388607)

/-! ## Windows (R408-R412) -/

/-- The line a PIN or HOST window belongs to: the last line triggered, 0xFFFFFFFF if none (R409). -/
def State.lastLineNo (s : State) : Nat :=
  let n := s.reg Obj.LT_LINE_COUNT
  if n = 0 then 0xFFFFFFFF else (n - 1) % 2 ^ 32

/-- A window that opens now. -/
def State.newWindow (s : State) (c gate line : Nat) (closeAt : Option Nat) : Window :=
  let ch := s.am.chan (chanOf c)
  { openAt := s.now, closeAt := closeAt, line := line, time := s.itime, chan := c, gate := gate
    settledAtOpen := ch.settledAt.isSome && ch.calUntil.isNone, resets := ch.resets }

/-- Is there already a window of this gate and line? -/
def hasWindow (l : List Window) (gate line : Nat) : Bool := l.any (fun w => Nat.beq w.gate gate && Nat.beq w.line line)

/-- The open window of gate 7 closed by the next line's trigger (R409, R411). -/
def closeLineWindows (now : Nat) (l : List Window) : List Window :=
  l.map (fun w => if w.gate = 7 ∧ w.closeAt = none then { w with closeAt := some now } else w)

/-- Accumulator `i` opens its window of `gate` for a line, once. -/
def State.openAcc (s : State) (i gate line : Nat) (closeAt : Option Nat) : State :=
  let a := s.am.acc i
  if s.reg (Obj.AM_ACC_ENABLE i) = 1 ∧ s.reg (Obj.AM_ACC_GATE i) = gate ∧ !(hasWindow a.windows gate line) then
    let w := s.newWindow (s.reg (Obj.AM_ACC_CHANNEL i)) gate line closeAt
    { s with am := s.am.setAcc i { a with windows := a.windows ++ [w] } }
  else s

/-- Tracker `i` opens its window of `gate` for a line, once. -/
def State.openMm (s : State) (i gate line : Nat) (closeAt : Option Nat) : State :=
  let a := s.am.mm i
  if s.reg (Obj.AM_MM_ENABLE i) = 1 ∧ s.reg (Obj.AM_MM_GATE i) = gate ∧ !(hasWindow a.windows gate line) then
    let w := s.newWindow (s.reg (Obj.AM_MM_CHANNEL i)) gate line closeAt
    { s with am := s.am.setMm i { a with windows := a.windows ++ [w], min := 8388607, max := -8388608, samples := 0 } }
  else s

/-- Every accumulator and tracker of a gate opens its window for a line (R409, R415). -/
def State.openGate (s : State) (gate line : Nat) (closeAt : Option Nat) : State :=
  let s1 := (List.range 8).foldl (fun s i => s.openAcc i gate line closeAt) s
  (List.range 4).foldl (fun s i => s.openMm i gate line closeAt) s1

/-- Gate 7 at a line's firing: the open windows close, then the new ones open (R411). -/
def State.lineGate (s : State) (line : Nat) : State :=
  let m := (List.range 8).foldl (fun m i => m.setAcc i { m.acc i with windows := closeLineWindows s.now (m.acc i).windows }) s.am
  let m1 := (List.range 4).foldl (fun m i => m.setMm i { m.mm i with windows := closeLineWindows s.now (m.mm i).windows }) m
  State.openGate { s with am := m1 } 7 line none

/-- Is a PIN or HOST window of an accumulator open now (R411)? -/
def openNow (now : Nat) (l : List Window) : Bool :=
  l.any (fun w => match w.closeAt with | some c => Nat.blt now c | none => true)

/-- A PIN or HOST trigger of accumulator `i` (R409, R411): the window opens, or an overlap is counted. -/
def State.trigAcc (s : State) (i gate : Nat) : State :=
  match s.tile.state with
  | .ready | .run =>
    let a := s.am.acc i
    if s.reg (Obj.AM_ACC_ENABLE i) = 1 ∧ s.reg (Obj.AM_ACC_GATE i) = gate then
      if openNow s.now a.windows then (s.bump (Obj.AM_ACC_OVERLAPS i)).event 0x2701 0
      else
        let w := s.newWindow (s.reg (Obj.AM_ACC_CHANNEL i)) gate s.lastLineNo (some (s.now + s.reg (Obj.AM_ACC_WIDTH i)))
        { s with am := s.am.setAcc i { a with windows := a.windows ++ [w] } }
    else s
  | _ => s

/-- The accumulator limits (R408). -/
def accMax : Int := 140737488355327
def accMin : Int := -140737488355328

/-- Output samples added to a sum, each multiplied by D, the sum held at its limit from the first one that would pass
it (R408). -/
def addOutputs (d : Nat) : Int → Bool → List Int → Int × Bool
  | sum, ovf, [] => (sum, ovf)
  | sum, ovf, x :: r =>
    if ovf then (sum, true)
    else
      let n := sum + x * (d : Int)
      if accMax < n then (accMax, true)
      else if n < accMin then (accMin, true)
      else addOutputs d n false r

/-- A result's FLAGS (R412). -/
def resultFlags (first clip ovf valid : Bool) : Nat := 8 * b2n first + 4 * b2n clip + 2 * b2n ovf + b2n valid

/-- Does a list of codes hold a clip (R396)? -/
def hasClip (codes : List (BitVec 12)) : Bool := codes.any (fun c => decide (c.toNat = 0 ∨ c.toNat = 4095))

/-- From an instant of a window to the output sample that represents it, in ps: the latency at skew 0 and the skew (R410). -/
def State.windowLag (s : State) (c : Chan) : Int :=
  (presetLatency (s.preset c) (s.minPhase c) : Int) * 1000 + toSigned 16 (s.reg (Obj.AM_CH_SKEW c.code)) * 1000 / 256

/-- Is a window valid at its end (R412): its channel settled before the first sample, and neither reset nor calibrated since the opening? -/
def State.windowValid (s : State) (w : Window) : Bool :=
  let c := chanOf w.chan
  let ch := s.am.chan c
  (match ch.settledAt with
    | some t => decide ((t : Int) * 1000 ≤ (w.openAt : Int) * 1000 + s.windowLag c)
    | none => false) && Nat.beq w.resets ch.resets && ch.calUntil.isNone

/-- The outputs of a channel for the codes behind a window: none where it gave none. -/
def State.windowOutputs (s : State) (w : Window) (slice : Nat) (codes : List (BitVec 12)) : List Int :=
  let c := chanOf w.chan
  if (s.am.chan c).settledAt.isSome || w.settledAtOpen then s.outputs c slice codes else []

/-- The oldest window whose last sample has come, and the rest. -/
def State.takeClosed (s : State) : List Window → Option (Window × List Window)
  | [] => none
  | w :: r => match w.closeAt with
    | some c => if (c : Int) * 1000 + s.windowLag (chanOf w.chan) ≤ (s.now : Int) * 1000 then some (w, r) else none
    | none => none

/-- An accumulator's result latched (R410-R412). -/
def State.latchAcc (s : State) (i slice : Nat) (codes : List (BitVec 12)) : State :=
  let a := s.am.acc i
  match s.takeClosed a.windows with
  | none => s
  | some (w, rest) =>
    let c := chanOf w.chan
    let outs := s.windowOutputs w slice codes
    let (sum, ovf) := addOutputs (presetD (s.preset c)) w.sum w.ovf outs
    let s0 := if ovf && !w.ovf then s.event 0x2702 0 else s
    let valid := s.windowValid w
    let first := valid && a.firstDue
    let n := w.samples + outs.length
    let bytes := leBytes 8 (fromSigned 64 sum) ++ leBytes 4 w.line ++ leBytes 4 n ++ leBytes 8 w.time ++
      leBytes 2 (resultFlags first (w.clip || hasClip codes) ovf valid) ++ zeros 6
    let s1 := { s0 with am := s0.am.setAcc i { a with
      windows := rest, firstDue := a.firstDue && !valid, lastLine := some w.line, lastValue := sum, lastValid := valid } }
    (s1.setBlob (Obj.AM_ACC_RESULT i) bytes).bump (Obj.AM_ACC_WINDOWS i)

/-- The least and greatest of outputs. -/
def extremes (mn mx : Int) (l : List Int) : Int × Int :=
  l.foldl (fun p x => (Min.min p.1 x, Max.max p.2 x)) (mn, mx)

/-- The bytes of a tracker result (R415). -/
def trackerBytes (mn mx : Int) (line n flags : Nat) : List Byte :=
  leBytes 4 (fromSigned 32 mn) ++ leBytes 4 (fromSigned 32 mx) ++ leBytes 4 line ++ leBytes 4 n ++
    leBytes 2 flags ++ zeros 2

/-- A tracker's result latched for a window of gates 1-7; with gate 0 the outputs join the running extremes, which are
read live (R415). -/
def State.latchMm (s : State) (i slice : Nat) (codes : List (BitVec 12)) : State :=
  let a := s.am.mm i
  if s.reg (Obj.AM_MM_ENABLE i) ≠ 1 then s
  else if s.reg (Obj.AM_MM_GATE i) = 0 then
    let c := chanOf (s.reg (Obj.AM_MM_CHANNEL i))
    if (s.am.chan c).settledAt.isNone then s
    else
      let outs := s.outputs c slice codes
      let (mn, mx) := extremes a.min a.max outs
      let clip := a.clip || hasClip codes
      let s1 := { s with am := s.am.setMm i { a with
        min := mn, max := mx, samples := a.samples + outs.length, clip := clip, firstDue := false } }
      s1.setBlob (Obj.AM_MM_RESULT i)
        (trackerBytes mn mx 0xFFFFFFFF (a.samples + outs.length) (resultFlags a.firstDue clip false true))
  else
    match s.takeClosed a.windows with
    | none => s
    | some (w, rest) =>
      let c := chanOf w.chan
      let outs := s.windowOutputs w slice codes
      let (mn, mx) := extremes 8388607 (-8388608) outs
      let valid := s.windowValid w
      let s1 := { s with am := s.am.setMm i { a with windows := rest, firstDue := a.firstDue && !valid } }
      s1.setBlob (Obj.AM_MM_RESULT i) (trackerBytes mn mx w.line outs.length
        (resultFlags (valid && a.firstDue) (w.clip || hasClip codes) false valid))

/-- A tracker cleared (R415). -/
def State.clearMm (s : State) (i : Nat) : State :=
  let a := s.am.mm i
  let s1 := { s with am := s.am.setMm i { a with
    windows := [], min := 8388607, max := -8388608, samples := 0, clip := false } }
  s1.setBlob (Obj.AM_MM_RESULT i) (trackerBytes 8388607 (-8388608) 0xFFFFFFFF 0 0)

/-- A clip on a channel (R396): counted, recorded, and marked in every window, tracker and block that holds it. -/
def State.clipped (s : State) (c : Chan) : State :=
  if (s.am.chan c).running then
    let mark := fun (l : List Window) => l.map (fun w =>
      if Nat.beq w.chan c.code && (match w.closeAt with | some t => Nat.blt s.now t | none => true) then { w with clip := true } else w)
    let m := (List.range 8).foldl (fun m i => m.setAcc i { m.acc i with windows := mark (m.acc i).windows }) s.am
    let m1 := (List.range 4).foldl (fun m i => m.setMm i { m.mm i with
      windows := mark (m.mm i).windows
      clip := (m.mm i).clip || Nat.beq (s.reg (Obj.AM_MM_CHANNEL i)) c.code }) m
    let m2 := m1.setGz c { m1.gz c with clip := true }
    (State.bump { s with am := m2 } (Obj.AM_CH_CLIPS c.code)).event 0x2703 0
  else s

/-- An accumulator sum that would pass its limit within a window: the outputs up to then are added, the sum is held, OVF
is set and the event recorded (R408). -/
def State.overflowAcc (s : State) (i slice : Nat) (codes : List (BitVec 12)) : State :=
  let a := s.am.acc i
  match a.windows with
  | [] => s
  | w :: rest =>
    let c := chanOf w.chan
    let outs := s.windowOutputs w slice codes
    let (sum, ovf) := addOutputs (presetD (s.preset c)) w.sum w.ovf outs
    let w' := { w with sum := sum, ovf := ovf, samples := w.samples + outs.length }
    let s1 := { s with am := s.am.setAcc i { a with windows := w' :: rest } }
    if ovf && !w.ovf then s1.event 0x2702 0 else s1

/-- A detector block done (R416): AMPL and PHASE are free values within the accuracy the spec states (log entry 5),
MEAN lies within 2 mu of the exact mean. -/
def State.gzBlock (s : State) (c : Chan) (slice : Nat) (codes : List (BitVec 12)) : State :=
  let ch := s.am.chan c
  let g := s.am.gz c
  if s.reg (Obj.AM_GZ_ENABLE c.code) = 1 ∧ ch.settledAt.isSome ∧ ch.calUntil.isNone then
    let outs := s.outputs c slice codes
    let ampl := Config.gzAmplitude g.freq (presetD (s.preset c)) outs
    let phase := Config.gzPhase g.freq (presetD (s.preset c)) outs
    let mean := divHalfEven (outs.foldl (· + ·) 0) outs.length + clampInt (-2) 2 (Config.gzMeanError outs)
    let bytes := leBytes 4 ampl.toNat ++ leBytes 2 phase.toNat ++ zeros 2 ++ leBytes 4 (fromSigned 32 mean) ++
      leBytes 4 (g.block + 1) ++ leBytes 2 (resultFlags (Nat.beq g.block 0) (g.clip || hasClip codes) false true) ++ zeros 6
    let g' : Detector := { block := g.block + 1, freq := s.reg (Obj.AM_GZ_FREQ c.code), n := s.reg (Obj.AM_GZ_N c.code) }
    State.setBlob { s with am := s.am.setGz c g' } (Obj.AM_GZ_RESULT c.code) bytes
  else s

/-! ## Self-calibration (R405-R407) -/

/-- AM_CAL_STATUS with a field set. -/
def State.setCalField (s : State) (lo w v : Nat) : State :=
  let r := s.reg Obj.AM_CAL_STATUS
  s.setReg Obj.AM_CAL_STATUS (r - (r / 2 ^ lo % 2 ^ w) * 2 ^ lo + (v % 2 ^ w) * 2 ^ lo)

/-- A self-calibration of a converter begins: its channel gives no output (R406). -/
def State.calBegin (s : State) (c : Chan) : State :=
  let ch := s.am.chan c
  let s1 := { s with am := s.am.setChan c { ch with
    calUntil := some (s.now + 42000000), settledAt := none, heldSamples := s.chanSamples c, resets := ch.resets + 1 } }
  (s1.setFlag Obj.AM_CAL_STATUS c.code true).chanStatus c

/-- Self-calibrations in progress are lost with the monitor's supply. -/
def State.calDrop (s : State) : State :=
  let s1 := { s with am := (s.am.setChan .a { s.am.chA with calUntil := none }) }
  let s2 := { s1 with am := (s1.am.setChan .b { s1.am.chB with calUntil := none }) }
  ((s2.setFlag Obj.AM_CAL_STATUS 0 false).setFlag Obj.AM_CAL_STATUS 1 false)

/-- The reference becomes ready (R397, R403): a channel whose clock runs resets, once. -/
def State.refNowReady (s : State) : State :=
  let one := fun (s : State) (c : Chan) =>
    if (s.am.chan c).running && Nat.blt (s.am.chan c).resetAt ((s.am.refAt.getD 0) + 5000000) then s.chanReset c else s
  if s.refReady then one (one s .a) .b else s

/-- Where a spur estimate lies (R401): 0 below AM_CAL_MIN_SPUR, 2 at least 3.0 dB above it, 1 between. -/
def State.spurBand (s : State) (spur : Nat) : Nat :=
  let m := s.reg Obj.AM_CAL_MIN_SPUR
  if spur < m then 0 else if m + 30 ≤ spur then 2 else 1

/-- The background correction's update of a converter after 2^20 samples (R401): offset, gain and skew of the four slices, and the spur estimate. -/
def State.bgUpdate (s : State) (c : Chan) (m : MonCal) : State :=
  let ch := s.am.chan c
  if s.reg Obj.AM_BG_ENABLE = 1 ∧ ch.running ∧ s.refReady ∧ ch.calUntil = none ∧ ch.bgAt + 1048576 ≤ s.now then
    let o := match c with | .a => Obj.AM_SLICE_FACTORS_A | .b => Obj.AM_SLICE_FACTORS_B
    let slice := fun (k : Nat) => sliceBytes m.factors (8 * k) 6 ++ zeros 2
    let s1 := s.setWorkBlob o (slice 0 ++ slice 1 ++ slice 2 ++ slice 3 ++ s.cat.work.bytes o 32 16)
    let band := s.spurBand m.spur
    let ch' := { ch with bgAt := s.now, spurBand := band, spurFrom := (if ch.spurBand = band then ch.spurFrom else s.now) }
    State.setReg { s1 with am := s1.am.setChan c ch' } (Obj.AM_CH_SPUR c.code) m.spur
  else s

/-- The estimate has stayed below the limit, or at least 3.0 dB above it, for 1 s (R401). -/
def State.spurJudged (s : State) (c : Chan) : State :=
  let ch := s.am.chan c
  let o := Obj.AM_CH_STATUS c.code
  let band := s.spurBand (s.reg (Obj.AM_CH_SPUR c.code))
  if s.reg Obj.AM_BG_ENABLE = 1 ∧ ch.running ∧ ch.spurBand = band ∧ ch.spurFrom + 1000000000 ≤ s.now then
    if band = 0 ∧ s.flag o 4 = false then (s.setFlag o 4 true).event 0x2707 0
    else if band = 2 then s.setFlag o 4 false
    else s
  else s

/-- The verdict of a self-calibration (R406): new factors adopted or rejected, the input reconnected, the channel
reset. -/
def State.calVerdict (s : State) (c : Chan) (m : MonCal) : State :=
  let o := match c with | .a => Obj.AM_SLICE_FACTORS_A | .b => Obj.AM_SLICE_FACTORS_B
  let adopt := Nat.ble (s.reg Obj.AM_CAL_MIN_SPUR) m.spur
  let s1 := if adopt then (s.setWorkBlob o (sliceBytes m.factors 0 48)).event 0x2706 0
    else s.event 0x2705 (c.code * 2 ^ 24 + m.spur % 2 ^ 16)
  let s2 := (s1.setCalField (4 + 2 * c.code) 2 (if adopt then 1 else 2)).setFlag Obj.AM_CAL_STATUS c.code false
  let s3 := s2.patchBlob Obj.AM_CAL_SPUR (2 * c.code) (leBytes 2 m.spur)
  let s4 := { s3 with am := s3.am.setChan c { s3.am.chan c with calUntil := none } }
  s4.chanReset c

/-- 42 ms after its acceptance a self-calibration ends (R406). -/
def State.calEnds (s : State) (c : Chan) (m : MonCal) : State :=
  match (s.am.chan c).calUntil with
  | some u => if u ≤ s.now then s.calVerdict c m else s
  | none => s

end Sys2Proof.Machine
end

