-- ==== Sys2Proof/Machine/Calibration.lean ====
section
/-! DEFINITION. The calibration set, its MRAM pages, commits, loading and torn sets, dark and flat runs (19), and the
firmware records (21 R559-R562). -/

namespace Sys2Proof.Machine

/-! ## Pages (R521) -/

/-- The number of pages of region 1: 0x00 to 0x84. -/
def calPages : Nat := 133

/-- The page that holds a number of the calibration set: 0x00 global, 0x01 system (R521). -/
def numPage (o : Nat) : Nat :=
  if o = Obj.CAL_E_CAL ∨ o = Obj.CAL_DARK_LIMIT ∨ o / 256 = 0x2202 then 0 else 1

/-- The page that holds byte `i` of a byte string of the calibration set (R521). -/
def bytePage (o i : Nat) : Nat :=
  if o = Obj.CAL_PIXEL_TABLES then 5 + i / 34816
  else if o = Obj.CAL_ADC_TRIM then (if i / 16 < 2800 then 2 else if i / 16 < 5600 then 3 else 4)
  else if o = Obj.CAL_GAIN_RATIO ∨ o = Obj.CAL_COLOUR_MATRIX ∨ o = Obj.CAL_CLAMP_REF ∨ o = Obj.CAL_TEST_COL_REF ∨
      o = Obj.CAL_SPARE_MAP ∨ o = Obj.CAL_FLAT_RESIDUAL then 0
  else 1

/-- A bank with only what lies on the pages that `keep` accepts; the rest is back at the defaults, which are the values
R525 loads for an invalid page. -/
def Bank.onPages (b : Bank) (keep : Nat → Bool) : Bank :=
  { nums := b.nums.filter (fun p => keep (numPage p.1))
    blobs := (b.blobs.map (fun p =>
      let c := p.2.cells.filter (fun x => keep (bytePage p.1 x.1))
      let v : Blob := if c = [] && !(keep (bytePage p.1 0)) then { p.2 with len := Obj.defaultLen p.1, cells := [] }
        else { p.2 with cells := c }
      (p.1, v))) }

/-- Two banks on disjoint pages joined. -/
def Bank.join (a b : Bank) : Bank :=
  { nums := b.nums.foldl (fun m p => storeInsert p.1 p.2 m) a.nums
    blobs := b.blobs.foldl (fun m p =>
      match storeFind p.1 m with
      | none => storeInsert p.1 p.2 m
      | some v =>
        let v' : Blob := { v with cells := p.2.cells.foldl (fun c x => storeInsert x.1 x.2 c) v.cells }
        storeInsert p.1 v' m) a.blobs }

/-- The head of a page; the tile leaves the factory with generation 1 on every page (R511). -/
def Calibration.page (c : Calibration) (k : Nat) : PageHead := storeGet (fun _ => ⟨1, true⟩) c.pages k

/-- `a` is greater than `b` (R524). -/
def genGreater (a b : BitVec 32) : Bool := Nat.blt 0 (a - b).toNat && Nat.blt (a - b).toNat (2 ^ 31)

/-- The current generation G: the greatest of the valid pages (R524). -/
def Calibration.generation (c : Calibration) : Option (BitVec 32) :=
  (List.range calPages).foldl (fun g k =>
    let p := c.page k
    if p.valid then (match g with | none => some p.generation | some x => if genGreater p.generation x then some p.generation else some x)
    else g) none

/-- The torn pages: invalid, or of another generation (R524). -/
def Calibration.tornPages (c : Calibration) (g : BitVec 32) : List Nat :=
  (List.range calPages).filter (fun k => !(c.page k).valid || (c.page k).generation ≠ g)

/-! ## The values of R512 -/

/-- The numbers whose written values take effect at a commit. -/
def lineNums : List Nat := Obj.CAL_E_CAL :: (List.range 8).map Obj.LA_BAND_ROW_OFFSET

/-- The byte strings whose written values take effect at a commit. -/
def lineBlobs : List Nat := [Obj.CAL_PIXEL_TABLES, Obj.CAL_CLAMP_REF, Obj.CAL_GAIN_RATIO, Obj.CAL_TEST_COL_REF,
  Obj.CAL_FLAT_RESIDUAL, Obj.CAL_COLOUR_MATRIX, Obj.CAL_SPARE_MAP, Obj.CAL_ADC_TRIM]

/-- Do two banks hold the same bytes of object `o`? -/
def sameBlob (a b : Bank) (o : Nat) : Bool :=
  decide ((a.blob o).len = (b.blob o).len) && decide ((a.blob o).cells = (b.blob o).cells)

/-- CAL_STATUS.PENDING: a value of R512 differs from the one in use (R512, R529). -/
def State.calPending (s : State) : Bool :=
  lineNums.any (fun o => !(Nat.beq (s.wrk o) (s.cat.used.num o))) ||
    lineBlobs.any (fun o => !(sameBlob s.cat.work s.cat.used o))

/-- Does a change from one bank to another cause the registration restart of R95: dark or flat tables, gain ratios, band
row offsets or the calibration strobe energy? -/
def restartingChange (a b : Bank) : Bool :=
  lineNums.any (fun o => !(Nat.beq (a.num o) (b.num o))) ||
    !(sameBlob a b Obj.CAL_PIXEL_TABLES) || !(sameBlob a b Obj.CAL_GAIN_RATIO)

/-! ## Firmware records (R559-R562) -/

/-- EVT_LIFE value `k`. -/
def State.lifeVal (s : State) (k : Nat) : BitVec 32 := storeGet (fun _ => (0 : BitVec 32)) s.recs.life k

/-- Is the MRAM busy with a commit or a resume-Folio save (R560)? -/
def State.mramBusy (s : State) : Bool :=
  s.cal.commit.isSome || (match s.cat.long with
    | some l => decide (l.op = .saveResume)
    | none => false)

/-- The record page that a load takes (R559): the valid one, or of two the one of the greater GENERATION. -/
def State.recordPage (s : State) : Option Nat :=
  let h := fun k => storeGet (fun _ => (⟨0, false⟩ : PageHead)) s.cal.recordHeads k
  if (h 0).valid && (h 1).valid then (if genGreater (h 1).generation (h 0).generation then some 1 else some 0)
  else if (h 0).valid then some 0
  else if (h 1).valid then some 1
  else none

/-- The record page written (R560): the one that a load would not take, with GENERATION one greater than that of the records in use. -/
def State.recordsNow (s : State) : State :=
  let g := BitVec.ofNat 32 (s.reg Obj.EVT_RECORD_GEN)
  let k := if s.recordPage = some 0 then 1 else 0
  let s1 := { s with cal := { s.cal with
    recordPages := storePut (fun _ => ({} : Records)) s.cal.recordPages k s.recs
    recordHeads := storePut (fun _ => (⟨0, false⟩ : PageHead)) s.cal.recordHeads k ⟨g + 1, true⟩
    recordsPending := false } }
  s1.setReg Obj.EVT_RECORD_GEN ((g + 1).toNat)

/-- Does SHUTDOWN keep MRAM writes from starting (R494)? -/
def State.mramShut (s : State) : Bool := Nat.beq (s.reg Obj.PWR_PATH_STATE) 4

/-- The firmware records written, or left waiting while a commit or a save runs (R560). -/
def State.writeRecords (s : State) : State :=
  if s.mramShut then s
  else if s.mramBusy then { s with cal := { s.cal with recordsPending := true } }
  else s.recordsNow

/-- A record write that waited, once the MRAM is free (R560). -/
def State.recordsAfter (s : State) : State :=
  if s.cal.recordsPending && !s.mramBusy && !s.mramShut then s.recordsNow else s

/-- The records loaded in CALLOAD (R559): the page taken, or zeros with RECORD_LOST. -/
def State.loadRecords (s : State) : State :=
  match s.recordPage with
  | some k =>
    let h := storeGet (fun _ => (⟨0, false⟩ : PageHead)) s.cal.recordHeads k
    let s1 := ((s.touch Obj.EVT_LIFE).touch Obj.EVT_FAULT_HISTORY).setReg Obj.EVT_RECORD_GEN h.generation.toNat
    { s1 with recs := storeGet (fun _ => ({} : Records)) s.cal.recordPages k }
  | none => (State.setFlag { s with recs := {} } Obj.EVT_STATUS 0 true).event 0x1705 0

/-- The number of this boot put into the EVT_BOOT entry, in the log and in the mirror (R556). -/
def State.numberBoot (s : State) : State :=
  let e := s.log.slot 0
  if e.code = 0x1702 ∧ s.log.next.toNat ≤ 256 then
    let n := satNat 32 ((s.lifeVal 0).toNat + 1)
    let e1 := { e with param := BitVec.ofNat 32 (e.param.toNat / 2 ^ 24 * 2 ^ 24 + n % 2 ^ 24) }
    let s1 := s.nextVersion
    let s2 := { s1 with log := { s1.log with slots := storePut (fun _ => emptyEntry) s1.log.slots 0 e1, logVersion := s1.cat.version } }
    if s.log.mirror then s2.archWrite mirrorBase e1.bytes else s2
  else s

/-- The last 16 entries, with empty ones for sequences below 0 (R562). -/
def EventLog.last16 (l : EventLog) : List LogEntry :=
  (List.range 16).map (fun i =>
    let q := l.next.toNat + i
    if q < 16 then emptyEntry else l.slot ((q - 16) % 256))

/-- A fault record, newest first, at most eight (R562). -/
def State.addFaultRecord (s : State) (cause detail : Nat) (before : TileState) : State :=
  let r : FaultRecord :=
    { cause := cause, state := before.code, detail := BitVec.ofNat 32 detail, time := s.stamp
      boot := s.lifeVal 0, uptime := BitVec.ofNat 32 (satNat 32 ((s.now - s.tile.bootAt) / 1000000))
      logNext := s.log.next, entries := s.log.last16 }
  let s1 := s.touch Obj.EVT_FAULT_HISTORY
  { s1 with recs := { s1.recs with history := (r :: s1.recs.history).take 8 } }

/-- The 64 bytes of EVT_LIFE (R561). -/
def State.lifeBytes (s : State) : List Byte := (List.range 16).flatMap (fun k => leBytes 4 (s.lifeVal k).toNat)

/-- The 288 bytes of a fault record (R562). -/
def FaultRecord.bytes (r : FaultRecord) : List Byte :=
  leBytes 1 r.cause ++ leBytes 1 r.state ++ zeros 2 ++ leBytes 4 r.detail.toNat ++ leBytes 8 r.time.toNat ++
    leBytes 4 r.boot.toNat ++ leBytes 4 r.uptime.toNat ++ leBytes 4 r.logNext.toNat ++ zeros 4 ++
    r.entries.flatMap LogEntry.bytes

/-- The 2,304 bytes of EVT_FAULT_HISTORY. -/
def State.historyBytes (s : State) : List Byte := sliceBytes (s.recs.history.flatMap FaultRecord.bytes) 0 2304

/-! ## Commits (R522, R523) -/

/-- A commit begins: it takes the working copy as it stands (R523). -/
def State.commitBegin (s : State) : State :=
  let c : CommitRun := { started := s.now, snapshot := s.cat.work, generation := BitVec.ofNat 32 (s.reg Obj.CAL_GEN) + 1 }
  State.setFlag { s with cal := { s.cal with commit := some c } } Obj.CAL_STATUS 1 true

/-- The stored ring-length word written (R354): at once, or when a running commit ends; not in SHUTDOWN (R494). -/
def State.writeRingWord (s : State) (l : Nat) : State :=
  if s.mramShut then s
  else if s.cal.commit.isSome then { s with cal := { s.cal with ringPending := some l } }
  else { s with cal := { s.cal with ringWord := l, ringPending := none } }

/-- A commit completes (R523): every page carries the new generation, the values of R512 apply, TORN clears. -/
def State.commitDone (s : State) : State :=
  match s.cal.commit with
  | none => s
  | some c =>
    let torn := s.flag Obj.CAL_STATUS 0
    let restart := torn || restartingChange s.cat.used c.snapshot
    let heads := (List.range calPages).foldl
      (fun m k => storePut (fun _ => (⟨1, true⟩ : PageHead)) m k ⟨c.generation, true⟩) s.cal.pages
    let s1 := { s with
      cal := { s.cal with
        stored := c.snapshot, pages := heads, commit := none
        ringWord := if s.mramShut then s.cal.ringWord else s.cal.ringPending.getD s.cal.ringWord
        ringPending := none }
      cat := { s.cat with used := c.snapshot }
      la := { s.la with restartDue := s.la.restartDue || restart } }
    let s2 := (s1.setReg Obj.CAL_GEN c.generation.toNat).bump Obj.CAL_COMMITS
    let s3 := ((s2.setFlag Obj.CAL_STATUS 0 false).setFlag Obj.CAL_STATUS 1 false).setFlag Obj.CAL_STATUS 5 false
    let s4 := if torn then (s3.setBlob Obj.CAL_TORN_COLUMNS (zeros 1024)).setBlob Obj.CAL_TORN_PAGES (zeros 32) else s3
    ((s4.life 5).event 0x1501 0).recordsAfter

/-- A commit cut by the loss of power (R494, R524): the pages written so far carry the new generation, the page in hand
fails its check. How many pages are written is bounded by 0.3125 ms each and otherwise open (log entry 8). -/
def State.commitCut (s : State) : State :=
  match s.cal.commit with
  | none => s
  | some c =>
    let el := s.now - c.started
    let k := Nat.min 132 (Nat.max (el / 312500) (Config.pagesWritten el))
    let heads := (List.range (k + 1)).foldl (fun m i => storePut (fun _ => (⟨1, true⟩ : PageHead)) m i
      (if i < k then ⟨c.generation, true⟩ else ⟨c.generation, false⟩)) s.cal.pages
    let mixed := Bank.join (c.snapshot.onPages (fun p => Nat.blt p k)) (s.cal.stored.onPages (fun p => Nat.blt k p))
    { s with cal := { s.cal with stored := mixed, pages := heads, commit := none, ringPending := none } }

/-! ## Loading (R524, R525) -/

/-- A bit map of `n` bytes with the listed bits set. -/
def bitmapOf (n : Nat) (p : Nat → Bool) : List Byte := bitmapBytes n ((List.range (8 * n)).map p)

/-- Does a torn page mark active column `k` uncalibrated (R525)? -/
def marksColumn (torn : List Nat) (k : Nat) : Bool :=
  torn.contains 0 || torn.contains (5 + k / 64) ||
    torn.contains (if 16 + k < 2800 then 2 else if 16 + k < 5600 then 3 else 4)

/-- The values that a load gives, with torn pages handled (R525): a torn strip page gives the values of R101, another invalid page the values of
R525, a stale one its contents. -/
def Calibration.loaded (c : Calibration) (g : BitVec 32) : Bank :=
  let torn := c.tornPages g
  c.stored.onPages (fun p => !(torn.contains p) || (Nat.blt p 5 && (c.page p).valid))

/-- The calibration set loaded (R524, R525). -/
def State.loadCalibration (s : State) (g : BitVec 32) : State :=
  let torn := s.cal.tornPages g
  let b := s.cal.loaded g
  let s1 := { s with cat := { s.cat with work := b, used := b } }
  let s2 := s1.setReg Obj.CAL_GEN g.toNat
  if torn = [] then s2
  else
    let s3 := s2.setFlag Obj.CAL_STATUS 0 true
    let s4 := (s3.setBlob Obj.CAL_TORN_PAGES (bitmapOf 32 (fun k => torn.contains k))).setBlob Obj.CAL_TORN_COLUMNS
      (bitmapOf 1024 (fun k => marksColumn torn k))
    let s5 := s4.event 0x1503 (torn.headD 0)
    let s6 := s5.life 7
    if torn.contains 1 && !(s.cal.page 1).valid then (s6.setFlag Obj.CAL_STATUS 4 true).event 0x1509 0 else s6

/-! ## Calibration runs (R515-R520) -/

/-- CAL_RUN_STATUS (R528). -/
def State.setRunStatus (s : State) (check kind result : Nat) : State :=
  s.setReg Obj.CAL_RUN_STATUS (check * 2 ^ 16 + kind * 2 ^ 8 + result)

/-- A refused run (R515, R517, R519): event 0x1504 with the kind and the check. -/
def State.runRefused (s : State) (flat : Bool) (check : Nat) : State :=
  let kind := if flat then 2 else 1
  (s.event 0x1504 (256 * kind + check)).setRunStatus check kind 3

/-- A run or a commit or a resume-Folio save is in progress (R515, R522). -/
def State.calBusy (s : State) : Bool := s.cal.run.isSome || s.mramBusy

/-- The rows a run reads: 0-95, and 96-103 in a DARK run (R516). -/
def runRows (flat : Bool) : Nat := if flat then 96 else 104

/-- A calibration run requested (R515): the status of the first check that fails, or the run begins. -/
def State.runRequest (s : State) (flat : Bool) (hasActive : Bool) : Status × State :=
  let n := runRows flat
  if s.tile.state ≠ .ready ∨ !hasActive then (.state, s.runRefused flat 1)
  else if s.calBusy then (.busy, s.runRefused flat 2)
  else if 1000000000 < busyNs n (s.act Obj.PX_EXPOSURE) * s.reg Obj.CAL_RUN_RATE then (.range, s.runRefused flat 3)
  else if !flat && (Nat.blt 0 (s.act Obj.LT_STB_ENABLE) || Nat.blt 0 (s.reg Obj.PE_ENABLE)) then
    (.state, s.runRefused flat 4)
  else
    let total := if flat then s.reg Obj.CAL_LINES else 2 * s.reg Obj.CAL_LINES
    let r : CalRun := { flat := flat, started := s.now, total := total }
    let s1 := { s with cal := { s.cal with run := some r } }
    (.ok, (s1.setFlag Obj.CAL_STATUS 2 true).setRunStatus 0 (if flat then 2 else 1) 1)

/-- The code of active column `k` in a row's codes. -/
def State.activeCode (s : State) (codes : List Nat) (k : Nat) : Nat := codes.getD (s.calUse.chainOf k) 0

/-- The codes of one row of a run's line. -/
def CalLine.row (l : CalLine) (r : Nat) : List Nat := ((l.rows.find? (fun p => Nat.beq p.1 r)).map Prod.snd).getD []

/-- The mean of `f` over lines, times `k`, rounded half to even. -/
def meanOver {α : Type} (k : Nat) (l : List α) (f : α → Nat) : Nat :=
  divHalfEvenNat (k * (l.foldl (fun a x => a + f x) 0)) l.length

/-- The codes of the 16 dark columns of a row. -/
def darkOf (codes : List Nat) : List Nat := (codes.drop 8).take 8 ++ (codes.drop 8208).take 8

/-- CAL_CLAMP_REF of a DARK run: for each row and gain the mean dark-column code in 12.4 (R517). -/
def runClampRef (l1 l4 : List CalLine) : List Byte :=
  (List.range 96).flatMap (fun r => [l1, l4].flatMap (fun ls =>
    leBytes 2 (divHalfEvenNat (16 * (ls.foldl (fun a l => a + (darkOf (l.row r)).foldl (· + ·) 0) 0)) (16 * ls.length))))

/-- CAL_TEST_COL_REF of a DARK run: for each test column, row, gain and injection parity the mean code (R517). -/
def runTestRef (l1 l4 : List CalLine) : List Byte :=
  (List.range 16).flatMap (fun i => (List.range 96).flatMap (fun r => [l1, l4].flatMap (fun ls =>
    [0, 1].flatMap (fun par =>
      leBytes 2 (meanOver 1 (ls.filter (fun l => Nat.beq (l.number % 2) par))
        (fun l => (l.row r).getD (testColumns.getD i 0) 0))))))

/-- The sum of (code - dark) over a band's rows of the test columns at the 25 % injection, in 1/16 code, with the dark
taken from the rows' clamp references `ref` at gain `g` (R517). -/
def injectionSum (ls : List CalLine) (ref : List Byte) (g band : Nat) : Int :=
  (ls.filter (fun l => Nat.beq (l.number % 2) 0)).foldl (fun a l =>
    (List.range 10).foldl (fun a i =>
      let r := 10 * band + i
      testColumns.foldl (fun a c => a + (16 * ((l.row r).getD c 0 : Int) - (leAt ref (2 * (2 * r + g)) 2 : Int))) a) a) 0

/-- The gain ratio of a band in 4.12 (R517). -/
def runGainRatio (l1 l4 : List CalLine) (ref : List Byte) (band : Nat) : Int :=
  let n1 := (l1.filter (fun l => Nat.beq (l.number % 2) 0)).length
  let n4 := (l4.filter (fun l => Nat.beq (l.number % 2) 0)).length
  let a := injectionSum l1 ref 0 band
  if a ≤ 0 then 0 else divHalfEven (4096 * injectionSum l4 ref 1 band * n1) (a.toNat * n4)

/-- The result of a DARK run (R517, R520). -/
def State.darkResult (s : State) (r : CalRun) : State :=
  let lines := r.lines.reverse
  let l1 := lines.filter (fun l => !l.gain4)
  let l4 := lines.filter (fun l => l.gain4)
  let ref := runClampRef l1 l4
  let gs := (List.range 8).map (runGainRatio l1 l4 ref)
  let total := l1.foldl (fun a l => (List.range 96).foldl (fun a row =>
    (List.range 8192).foldl (fun a k => a + s.activeCode (l.row row) k) a) a) 0
  if (s.wrk Obj.CAL_DARK_LIMIT + 64) * (l1.length * 96 * 8192) < total then s.runRefused false 5
  else if gs.any (fun g => decide (g * 1000 < 3900 * 4096 ∨ 4100 * 4096 < g * 1000)) then s.runRefused false 6
  else
    let old := fun i => s.cat.work.byte Obj.CAL_PIXEL_TABLES i
    let table := (List.range 8192).flatMap (fun k =>
      (List.range 80).flatMap (fun row =>
        leBytes 2 (meanOver 16 l1 (fun l => s.activeCode (l.row row) k)) ++
        leBytes 2 (meanOver 16 l4 (fun l => s.activeCode (l.row row) k)) ++
        [old (544 * k + 6 * row + 4), old (544 * k + 6 * row + 5)]) ++
      (List.range 16).flatMap (fun i =>
        leBytes 2 (meanOver 16 l1 (fun l => s.activeCode (l.row (80 + i)) k)) ++
        [old (544 * k + 480 + 4 * i + 2), old (544 * k + 480 + 4 * i + 3)]))
    let s1 := ((s.setWorkBlob Obj.CAL_PIXEL_TABLES table).setWorkBlob Obj.CAL_CLAMP_REF ref).setWorkBlob
      Obj.CAL_TEST_COL_REF (runTestRef l1 l4)
    let s2 := s1.setWorkBlob Obj.CAL_GAIN_RATIO (gs.flatMap (fun g => leBytes 2 g.toNat))
    (s2.setRunStatus 0 1 2).event 0x1505 0

/-- The sum of rationals. -/
def sumRat (l : List Rat) : Rat := l.foldl (· + ·) 0

/-- A rational rounded half to even. -/
def roundRat (q : Rat) : Int := divHalfEven q.num q.den

/-- The square root of a rational rounded half to even. -/
def sqrtRat (q : Rat) : Nat :=
  let r := sqrtFloor (q.num.toNat / q.den)
  let h := (2 * r + 1) * (2 * r + 1) * q.den
  if h < 4 * q.num.toNat then r + 1
  else if h = 4 * q.num.toNat then (if r % 2 = 0 then r else r + 1)
  else r

/-- Insertion into an ascending list. -/
def insertRat (x : Rat) : List Rat → List Rat
  | [] => [x]
  | y :: r => if x ≤ y then x :: y :: r else y :: insertRat x r

/-- The median: the mean of the two middle values of an even number. -/
def medianRat (l : List Rat) : Rat :=
  let m := l.foldl (fun a x => insertRat x a) []
  let n := m.length
  if n % 2 = 1 then m.getD (n / 2) 0 else (m.getD (n / 2 - 1) 0 + m.getD (n / 2) 0) / 2

/-- The mean over lines of a pixel's dark-corrected value scaled to the mean energy, in codes (R518). -/
def State.flatMean (s : State) (clamps : Nat → Nat → Int) (ls : List (CalLine × Int)) (ebar : Rat) (row k : Nat) : Rat :=
  if ls = [] then 0
  else
    sumRat (ls.map (fun p =>
      let x : Int := 16 * (s.activeCode (p.1.row row) k : Int) - (s.calUse.darkValue row k false : Int) - clamps p.1.number row
      ((x : Rat) / 16) * (ebar / (p.2 : Rat)))) / (ls.length : Rat)

/-- The row clamp of a run's line (R86, R87, at x1). -/
def State.runClamp (s : State) (l : CalLine) (row : Nat) : Int :=
  (s.calUse.rowClamp { s.cat.active with nums := (s.cat.active.setNum Obj.PX_BAND_GAIN 0).nums } row
    ((l.row row).map (BitVec.ofNat 12))).1

/-- The result of a FLAT run (R518-R520). -/
def State.flatResult (s : State) (r : CalRun) : State :=
  let lines := r.lines.reverse
  let valid := lines.filterMap (fun l => match l.energy with | some e => if 0 < e then some (l, e) else none | none => none)
  if 2 * valid.length < s.reg Obj.CAL_LINES then s.runRefused true 5
  else
    let ebar : Rat := sumRat (valid.map (fun p => (p.2 : Rat))) / (valid.length : Rat)
    let first := (lines.head?.map CalLine.number).getD 0
    let ev := valid.filter (fun p => Nat.beq ((p.1.number - first) % 2) 0)
    let od := valid.filter (fun p => Nat.beq ((p.1.number - first) % 2) 1)
    let clamps := fun n row => match lines.find? (fun l => Nat.beq l.number n) with
      | some l => s.runClamp l row
      | none => 0
    let xe := fun row k => s.flatMean clamps ev ebar row k
    let xo := fun row k => s.flatMean clamps od ebar row k
    let all : Rat := sumRat ((List.range 80).flatMap (fun row => (List.range 8192).map (fun k => xe row k))) / (80 * 8192)
    let satN := valid.foldl (fun a p => (List.range 80).foldl (fun a row => (List.range 8192).foldl (fun a k =>
      if s.act Obj.LA_SAT_CODE_X1 ≤ s.activeCode (p.1.row row) k then a + 1 else a) a) a) 0
    let colMean := fun band k => sumRat ((List.range 10).map (fun i => xe (10 * band + i) k)) / 10
    let uneven := (List.range 8).any (fun band =>
      let ms := (List.range 8192).map (colMean band)
      let med := medianRat ms
      ms.any (fun m => decide (med * 115 / 100 < m ∨ m < med * 85 / 100)))
    if all < 800 then s.runRefused true 6
    else if valid.length * 80 * 8192 < 1000 * satN then s.runRefused true 7
    else if uneven then s.runRefused true 8
    else
      let gain := fun row k => let q := xe row k
        if q ≤ 0 then 65535 else Nat.min 65535 (roundRat (32768 * 1024 / q)).toNat
      let old := fun i => s.cat.work.byte Obj.CAL_PIXEL_TABLES i
      let table := (List.range 8192).flatMap (fun k =>
        (List.range 80).flatMap (fun row =>
          let b := 544 * k + 6 * row
          [old b, old (b + 1), old (b + 2), old (b + 3)] ++ leBytes 2 (gain row k)) ++
        (List.range 16).flatMap (fun i =>
          let b := 544 * k + 480 + 4 * i
          [old b, old (b + 1)] ++ leBytes 2 (gain (80 + i) k)))
      let residual := fun band =>
        let l := (List.range 10).flatMap (fun i => (List.range 8192).map (fun k =>
          let row := 10 * band + i
          let e : Rat := (xo row k * ((gain row k : Nat) : Rat) / 1024 - 32768) / 32768
          e * e))
        Nat.min 65534 (sqrtRat (sumRat l / (10 * 8192) * 100000000))
      let s1 := s.setWorkBlob Obj.CAL_PIXEL_TABLES table
      let s2 := s1.setWrk Obj.CAL_E_CAL (roundRat ebar).toNat
      let s3 := s2.setWorkBlob Obj.CAL_FLAT_RESIDUAL ((List.range 8).flatMap (fun b => leBytes 2 (residual b)))
      (s3.setRunStatus 0 2 2).event 0x1505 0

/-- The result of the run decided (R517-R520). -/
def State.runResult (s : State) : State :=
  match s.cal.run with
  | none => s
  | some r =>
    if r.lines.length < r.total then s
    else
      let s1 := State.setFlag { s with cal := { s.cal with run := none } } Obj.CAL_STATUS 2 false
      if r.flat then s1.flatResult r else s1.darkResult r

end Sys2Proof.Machine
end

