-- ==== Sys2Proof/Machine/LinkLanes.lean ====
section
/-! DEFINITION. The lanes of the Burgeuz link (11): port states, training sets, tap training, hop delay, eye quality,
PRBS and error injection, wakes. -/

namespace Sys2Proof.Machine

/-- Port state codes (R305). -/
def PortState.code : PortState → Nat
  | .down => 0 | .detect => 1 | .train => 2 | .align => 3 | .up => 4
  | .recovery => 5 | .test => 6 | .pass => 7 | .idleEnd => 8

/-- The state object of a port. -/
def portStateObj : Port → Nat
  | .a => Obj.LNK_PORT_STATE_A
  | .b => Obj.LNK_PORT_STATE_B

/-- Lane `i` of a port. -/
def LinkPort.lane (p : LinkPort) (i : Nat) : Lane := p.lanes.getD i {}

/-- Lane `i` of a port replaced. -/
def LinkPort.setLane (p : LinkPort) (i : Nat) (l : Lane) : LinkPort := { p with lanes := p.lanes.set i l }

/-- Lane `i` of port `p` changed. -/
def State.onLane (s : State) (p : Port) (i : Nat) (f : Lane → Lane) : State :=
  s.setPort p ((s.port p).setLane i (f ((s.port p).lane i)))

/-- Port `p` changed. -/
def State.onPort (s : State) (p : Port) (f : LinkPort → LinkPort) : State := s.setPort p (f (s.port p))

/-- A port enters a state (R305). -/
def State.portTo (s : State) (p : Port) (st : PortState) : State :=
  (s.onPort p (fun v => { v with state := st, since := s.now })).setReg (portStateObj p) st.code

/-- The number of a lane among A0 to B3 (R583). -/
def laneNo (p : Port) (i : Nat) : Nat := 4 * p.code + i

/-- Bit `k` of a lane's byte in LNK_LANE_STATUS (R322). -/
def State.setLaneBit (s : State) (p : Port) (i k : Nat) (b : Bool) : State :=
  let n := laneNo p i
  let v := (s.cat.vol.byte Obj.LNK_LANE_STATUS n).toNat
  let w := withBit v k b
  if w = v then s else s.patchBlob Obj.LNK_LANE_STATUS n (leBytes 1 w)

/-- A bit of LNK_LANE_STATUS on all four lanes of a port. -/
def State.setLaneBits (s : State) (p : Port) (k : Nat) (b : Bool) : State :=
  (List.range 4).foldl (fun s i => s.setLaneBit p i k b) s

/-- Are events of R300, R302 and R304 suppressed on a port (R325)? -/
def State.suppressed (s : State) (p : Port) : Bool := Nat.blt s.now (s.port p).passUntil

/-- An event of a port that R325 may suppress. -/
def State.laneEvent (s : State) (p : Port) (code param : Nat) : State :=
  if s.suppressed p then s else s.event code param

/-! ## Entering the states -/

/-- The frame in progress on a port is lost (R342) and ended with ABORT (R331). -/
def LinkPort.dropWire (v : LinkPort) : LinkPort :=
  { v with wire := none, token := none, aborts := v.aborts + b2n (v.wire.isSome || v.token.isSome) }

/-- The highest rate code a port offers, from LNK_RATE_MAX (R307). -/
def State.rateMax (s : State) : Nat := s.reg Obj.LNK_RATE_MAX

/-- RATES of R306 for a highest rate code: every rate up to it. -/
def ratesUpTo (n : Nat) : Nat := 2 ^ (n + 1) - 1

/-- Preset taps (R309). -/
def presetTaps (n : Nat) : Option Taps :=
  match n with
  | 0 => some ⟨0, 64, 0⟩
  | 1 => some ⟨0, 58, 6⟩
  | 2 => some ⟨0, 52, 12⟩
  | 3 => some ⟨0, 44, 20⟩
  | 4 => some ⟨4, 50, 10⟩
  | 5 => some ⟨6, 44, 14⟩
  | 6 => some ⟨8, 38, 18⟩
  | 7 => some ⟨0, 40, 0⟩
  | _ => none

/-- The four lanes of LNK_TAPS written from what the partner reports (R317). -/
def State.showTaps (s : State) (p : Port) (i : Nat) (t : Taps) : State :=
  let n := laneNo p i
  let b := leBytes 1 t.pre ++ leBytes 1 t.main ++ leBytes 1 t.post ++ [0]
  if s.cat.vol.bytes Obj.LNK_TAPS (4 * n) 4 = b then s else s.patchBlob Obj.LNK_TAPS (4 * n) b

/-- A port leaves UP: what it was sending is lost, and it remembers that it was UP, and since when it no longer is (R342, R349). -/
def LinkPort.leaveUp (v : LinkPort) (now : Nat) : LinkPort :=
  if v.state = .up then { v.dropWire with fromUp := true, leftAt := now } else v

/-- DETECT entered (R307): TS1 at rate code 0 with preset P4, nothing seen of the partner yet. -/
def State.enterDetect (s : State) (p : Port) (ceiling : Nat) (fallback : Bool) : State :=
  let s1 := s.onPort p (fun v => { v.leaveUp s.now with
    ceiling := ceiling, fallback := fallback, orderLogged := false, hop := none, hopDone := false
    lanes := [{}, {}, {}, {}] })
  let s2 := (s1.setLaneBits p 0 false).setLaneBits p 1 false
  s2.portTo p .detect

/-- DOWN entered: transmitter in electrical idle (R305). -/
def State.enterDown (s : State) (p : Port) : State :=
  let s1 := s.onPort p (fun v => { v.leaveUp s.now with hop := none, hopDone := false })
  let s2 := (s1.setLaneBits p 0 false).setLaneBits p 1 false
  s2.portTo p .down

/-- The rate of a port in use, shown in LNK_PORT_RATE. -/
def State.setRate (s : State) (p : Port) (r : Nat) : State :=
  (s.onPort p (fun v => { v with rate := r })).patchBlob Obj.LNK_PORT_RATE p.code (leBytes 1 r)

/-- A receiver asks for a preset or a step: REQ_SEQ advances by 1 modulo 16 (R310). -/
def Lane.ask (l : Lane) (now : Nat) (r : TapRequest) : Lane :=
  let q := (l.reqSeq + 1) % 16
  { l with reqSeq := q, outstanding := some { seq := q, req := r, sentAt := now }, refused := false }

/-- TRAIN entered at a rate (R307, R311): transmitter at P4, each receiver asks for P0. -/
def State.enterTrain (s : State) (p : Port) (rate : Nat) : State :=
  let s1 := s.onPort p (fun v => { v.leaveUp s.now with
    hop := none, hopDone := false, passSeen := false, fallback := false
    lanes := v.lanes.map (fun l =>
      Lane.ask { ({} : Lane) with
        rates := l.rates, partnerLane := l.partnerLane, reqSeq := l.reqSeq, phase := .presets } s.now (.preset 0)) })
  (s1.setRate p rate).portTo p .train

/-- ALIGN entered. -/
def State.enterAlign (s : State) (p : Port) : State :=
  (s.onPort p (fun v => { v with hop := none, hopDone := false })).portTo p .align

/-- RECOVERY entered (R305): rate and taps kept, the entry counted. -/
def State.enterRecovery (s : State) (p : Port) : State :=
  let s1 := s.onPort p (fun v => { v.leaveUp s.now with hop := none, hopDone := false })
  (s1.bumpEntry Obj.LNK_RECOVERIES p.code).portTo p .recovery

/-- Is a port in UP? -/
def State.isUp (s : State) (p : Port) : Bool := decide ((s.port p).state = .up)

/-- A lane loses symbol lock (R300): counted and recorded, and a port that carried columns enters RECOVERY. -/
def State.lockLost (s : State) (p : Port) (i errors : Nat) : State :=
  let n := laneNo p i
  let s1 := (List.range errors).foldl (fun s _ => s.bumpEntry Obj.LNK_CODE_ERRORS n) s
  let s2 := ((s1.bumpEntry Obj.LNK_LOCK_LOSSES n).setLaneBit p i 0 false).setLaneBits p 1 false
  (s2.laneEvent p 0x1201 n).enterRecovery p

/-- Does a port carry columns that can lose lock: ALIGN, UP or RECOVERY? -/
def LinkPort.carries (v : LinkPort) : Bool :=
  match v.state with
  | .align | .up | .recovery => true
  | _ => false

/-- An elastic buffer over- or underflows (R302). -/
def State.elasticError (s : State) (p : Port) (i : Nat) : State :=
  let s1 := s.bumpEntry Obj.LNK_ELASTIC_ERRORS (laneNo p i)
  (s1.laneEvent p 0x1203 0).enterRecovery p

/-- A deskew error (R304): the fourth within 1 ms is recorded and takes the port into RECOVERY. -/
def State.deskewError (s : State) (p : Port) : State :=
  let recent := s.now :: (s.port p).deskewTimes.filter (fun t => Nat.blt s.now (t + 1000000))
  let s1 := (s.bumpEntry Obj.LNK_DESKEW_ERRORS p.code).onPort p (fun v => { v with deskewTimes := recent.take 4 })
  if 4 ≤ recent.length then
    let s2 := s1.onPort p (fun v => { v with deskewTimes := [] })
    ((s2.setLaneBits p 1 false).laneEvent p 0x1202 0).enterRecovery p
  else s1

/-! ## Training sets (R306) -/

/-- Symbols 1 to 15 of a training set. -/
structure TrainSet where
  type : Nat
  lane : Nat
  rates : Nat
  rate : Nat
  request : Nat
  arg : Nat
  response : Nat
  respSeq : Nat
  b9 : Nat
  b10 : Nat
  b11 : Nat
  b12 : Nat
  b13 : Nat
  b14 : Nat
  deriving DecidableEq, Repr

/-- The fields of a set. -/
def TrainSet.read (l : List Byte) : TrainSet :=
  let f := fun i => leAt l (i - 1) 1
  ⟨f 1, f 2, f 3, f 4, f 5, f 6, f 7, f 8, f 9, f 10, f 11, f 12, f 13, f 14⟩

/-- The bytes of a set, with its CHECK. -/
def TrainSet.bytes (x : TrainSet) : List Byte :=
  let b := [x.type, x.lane, x.rates, x.rate, x.request, x.arg, x.response, x.respSeq, x.b9, x.b10, x.b11, x.b12,
    x.b13, x.b14].flatMap (leBytes 1)
  b ++ leBytes 1 (crcMsb 8 0x07 0 b)

/-- Are the reserved bits of a set 0 and its TYPE and rate code assigned (R297, R306)? -/
def TrainSet.legal (x : TrainSet) : Bool :=
  let ts := Nat.beq x.type 1 || Nat.beq x.type 2
  let loop := Nat.beq x.type 3
  let echo := Nat.beq x.type 4
  let pass := Nat.beq x.type 5
  (ts || loop || echo || pass) && Nat.blt x.lane 8 && Nat.blt x.rates 8 && Nat.blt x.rate 3 &&
    !(bit x.response 6) && Nat.beq (x.respSeq % 16) 0 &&
    (!ts || (Nat.blt x.b12 8 && Nat.beq x.b13 0)) &&
    (!(loop || pass) || (Nat.beq x.request 0 && Nat.beq x.arg 0 && Nat.beq x.response 0 && Nat.beq x.respSeq 0)) &&
    (!loop || (Nat.beq x.b10 0 && Nat.beq x.b11 0 && Nat.beq x.b12 0 && Nat.beq x.b13 0)) &&
    (if pass then Nat.blt x.b14 2 else Nat.beq x.b14 0)

/-- The set in the bytes received, unless its CRC, a reserved bit or its TYPE is wrong (R306). -/
def readSet (l : List Byte) : Option TrainSet :=
  let x := TrainSet.read l
  if l.length = 15 && Nat.beq (crcMsb 8 0x07 0 (l.take 14)) (leAt l 14 1) && x.legal then some x else none

/-- A set that is ignored (R306). -/
def State.setIgnored (s : State) : State := (s.bump Obj.LNK_TS_ERRORS).event 0x120B 0

/-- END of a TS1 or a PASS set (R306). -/
def TrainSet.isEnd (x : TrainSet) : Bool :=
  (Nat.beq x.type 1 && bit x.b12 2) || (Nat.beq x.type 5 && bit x.b14 0)

/-! ## Tap requests (R308, R309) -/

/-- The limits of R308. -/
def tapsLegal (t : Taps) : Bool :=
  Nat.ble (t.pre + t.main + t.post) 64 && Nat.ble (t.pre + t.post + 12) t.main

/-- One tap change: the new code within `lo`..`hi`, the check of R308 through `put`, and the status code. -/
def tapChange (code cur lo hi : Nat) (put : Nat → Taps) (t : Taps) : Taps × Nat :=
  match code with
  | 1 => if hi ≤ cur then (t, 2) else if tapsLegal (put (cur + 1)) then (put (cur + 1), 0) else (t, 3)
  | 2 => if cur ≤ lo then (t, 1) else if tapsLegal (put (cur - 1)) then (put (cur - 1), 0) else (t, 3)
  | _ => (t, 0)

/-- A new request applied by the transmitter (R309), in the order post, pre, main. -/
def Lane.applyRequest (l : Lane) (x : TrainSet) : Lane :=
  let q := x.arg / 16
  if bit x.request 6 then
    match presetTaps (x.arg % 16) with
    | some t => { l with taps := t, ackSeq := some q, ackPost := 0, ackPre := 0, ackMain := 0 }
    | none => { l with ackSeq := some q, ackPost := 3, ackPre := 3, ackMain := 3 }
  else
    let (t1, a) := tapChange (x.request % 4) l.taps.post 0 31 (fun n => { l.taps with post := n }) l.taps
    let (t2, b) := tapChange (x.request / 4 % 4) t1.pre 0 15 (fun n => { t1 with pre := n }) t1
    let (t3, c) := tapChange (x.request / 16 % 4) t2.main 24 64 (fun n => { t2 with main := n }) t2
    { l with taps := t3, ackSeq := some q, ackPost := a, ackPre := b, ackMain := c }

/-- A request of a received set acted on once for each REQ_SEQ (R309). -/
def Lane.heedRequest (l : Lane) (x : TrainSet) : Lane :=
  if bit x.request 7 && decide (l.ackSeq ≠ some (x.arg / 16)) then l.applyRequest x else l

/-! ## The receiver's training (R310-R312) -/

/-- The steps of a round (R311): post INC, post DEC, pre INC, pre DEC, main INC, main DEC; `undo` gives the opposite. -/
def roundStep (k : Nat) (undo : Bool) : TapRequest :=
  let code := if (k % 2 = 0) = (undo = false) then 1 else 2
  if k < 2 then .step code 0 0 else if k < 4 then .step 0 code 0 else .step 0 0 code

/-- The next measured step is asked for. -/
def Lane.askStep (l : Lane) (now : Nat) : Lane :=
  { l.ask now (roundStep l.order false) with taken := l.taken + 1, reversing := false }

/-- A response acknowledges the outstanding request (R310): after a request that is not measured, the next step
follows. -/
def Lane.heedResponse (l : Lane) (x : TrainSet) (now : Nat) : Lane :=
  match l.outstanding with
  | some o =>
    if bit x.response 7 && Nat.beq (x.respSeq / 16) o.seq then
      let bad := !(Nat.beq (x.response % 64) 0)
      let l1 := { l with outstanding := none, refused := bad }
      if l.reversing then
        (match l.phase with
          | .steps => l1.askStep now
          | _ => { l1 with reversing := false })
      else l1
    else l
  | none => l

/-- The eye of a lane meets R311. -/
def eyeAccepted (w h : Nat) : Bool := Nat.ble 20 w && Nat.ble 40 h

/-- The end of phase 2 (R311, R312). -/
def Lane.finish (l : Lane) : Lane :=
  { l with phase := if eyeAccepted l.width l.height then .accepted else .failed }

/-- Phase 1 has measured a preset (R311): the largest product is kept, the lower number winning a tie; after P7 the
best preset is loaded. -/
def Lane.presetDone (l : Lane) (w h now : Nat) : Lane :=
  let better := Nat.beq l.presetNo 0 || Nat.blt l.bestProduct (w * h)
  let l1 := if better then { l with best := l.presetNo, bestProduct := w * h, width := w, height := h } else l
  if l.presetNo < 7 then { l1.ask now (.preset (l.presetNo + 1)) with presetNo := l.presetNo + 1 }
  else { l1.ask now (.preset l1.best) with phase := .steps, order := 0, taken := 0, gained := false, reversing := true }

/-- Phase 2 has measured a step (R311): kept when the product grows by at least 2 %, otherwise reversed at no cost; the
end is a full round of six without gain, or 25 requests. -/
def Lane.stepDone (l : Lane) (w h now : Nat) : Lane :=
  let gain := Nat.ble (l.bestProduct * 102) (w * h * 100) && Nat.blt l.bestProduct (w * h) && !l.refused
  let l1 := if gain then { l with bestProduct := w * h, width := w, height := h, gained := true } else l
  let wrap := Nat.beq l.order 5
  let excess := (wrap && !l1.gained) || Nat.ble 25 l.taken
  let l2 := { l1 with order := if wrap then 0 else l.order + 1, gained := l1.gained && !wrap }
  if excess then
    if gain || l.refused then l2.finish
    else { (l2.finish).ask now (roundStep l.order true) with reversing := true }
  else if gain || l.refused then l2.askStep now
  else { l2.ask now (roundStep l.order true) with reversing := true }

/-- The rate to fall back to below `r` among the common rates, if there is one (R307, R312). -/
def lowerRate (r common : Nat) : Option Nat :=
  if 2 ≤ r && bit common 1 then some 1 else if 1 ≤ r && bit common 0 then some 0 else none

/-- The rates both sides offer. -/
def State.commonRates (s : State) (p : Port) : Nat :=
  (s.port p).lanes.foldl (fun m l => natAnd m l.rates) (ratesUpTo s.rateMax)

/-- Training failed or FALLBACK was received (R307, R312): DETECT at the next lower common rate, or DOWN with event
0x1205. -/
def State.fallBack (s : State) (p : Port) (own : Bool) : State :=
  match lowerRate (s.port p).rate (s.commonRates p) with
  | some r => s.enterDetect p r own
  | none => (s.enterDown p).event 0x1205 0

/-- A lane fails acceptance (R312). -/
def State.trainFail (s : State) (p : Port) (i : Nat) : State :=
  (s.event 0x1204 (256 * laneNo p i + (s.port p).rate)).fallBack p true

/-- Every local lane has set RX_DONE and every partner lane has reported it (R311). -/
def LinkPort.trained (v : LinkPort) : Bool :=
  v.lanes.all (fun l => decide (l.phase = .accepted) && l.partnerDone)

/-- A port in TRAIN whose lanes are all done enters ALIGN (R311). -/
def State.trainCheck (s : State) (p : Port) : State :=
  if (s.port p).state = .train ∧ (s.port p).trained then s.enterAlign p else s

/-- An eye measurement of a training step (R311). -/
def State.trainingStep (s : State) (p : Port) (i w h : Nat) : State :=
  let v := s.port p
  let l := v.lane i
  if v.state ≠ .train ∨ l.outstanding ≠ none ∨ l.reversing then s
  else
    let l1 := match l.phase with
      | .presets => l.presetDone w h s.now
      | .steps => l.stepDone w h s.now
      | _ => l
    let s1 := s.onLane p i (fun _ => l1)
    let n := laneNo p i
    let s2 := s1.patchBlob Obj.LNK_EYE (4 * n) (leBytes 1 w ++ [0] ++ leBytes 2 h)
    match l1.phase with
    | .failed => s2.trainFail p i
    | .accepted => s2.trainCheck p
    | _ => s2

/-! ## Received training sets (R307, R313, R324) -/

/-- The lane numbers a port has seen: in order, reversed, or a refused permutation (R294). -/
def LinkPort.laneOrder (v : LinkPort) : Option Bool :=
  let l := v.lanes.map (fun x => x.partnerLane % 4)
  if l = [0, 1, 2, 3] then some false else if l = [3, 2, 1, 0] then some true else none

/-- 8 valid TS1 in a row on every lane (R307). -/
def LinkPort.heardTs1 (v : LinkPort) : Bool := v.lanes.all (fun l => Nat.ble 8 l.ts1Run)

/-- 8 valid TS2 on every lane (R307). -/
def LinkPort.heardTs2 (v : LinkPort) : Bool := v.lanes.all (fun l => Nat.ble 8 l.ts2Run)

/-- The highest of the common rates at or below the ceiling. -/
def bestRate (common ceiling : Nat) : Nat :=
  if bit common 2 && Nat.ble 2 ceiling then 2 else if bit common 1 && Nat.ble 1 ceiling then 1 else 0

/-- The target rate of a port in DETECT (R307). -/
def State.targetRate (s : State) (p : Port) : Nat := bestRate (s.commonRates p) (s.port p).ceiling

/-- The lane order judged once all lanes have been heard: a refused one is recorded once per entry to DETECT. -/
def State.orderCheck (s : State) (p : Port) : State :=
  let v := s.port p
  if v.heardTs1 then
    match v.laneOrder with
    | some rev => s.setLaneBits p 4 rev
    | none => if v.orderLogged then s else (s.onPort p (fun v => { v with orderLogged := true })).event 0x1208 0
  else s

/-- A set's taps and RX_DONE taken down. -/
def Lane.noted (l : Lane) (x : TrainSet) : Lane :=
  { l with partner := ⟨x.b9, x.b10, x.b11⟩, partnerDone := bit x.b12 0, fallback := bit x.b12 1 }

/-- A port holds its transmitter in electrical idle and reports IDLE_END (R324). -/
def State.enterIdleEnd (s : State) (p : Port) : State :=
  let s1 := s.onPort p (fun v => { v.leaveUp s.now with hop := none, hopDone := false })
  ((s1.setLaneBits p 0 false).setLaneBits p 1 false).portTo p .idleEnd

/-- TS1 or TS2 in DETECT (R307). -/
def State.tsInDetect (s : State) (p : Port) (i : Nat) (x : TrainSet) : State :=
  let s1 := s.onLane p i (fun l =>
    let same := Nat.beq l.rates x.rates
    let l1 := { (l.noted x) with rates := x.rates, partnerLane := x.lane }
    if x.type = 1 then { l1 with ts1Run := if same then l.ts1Run + 1 else 1, ts2Run := 0 }
    else { l1 with ts2Run := l.ts2Run + 1, target := x.rate })
  let s2 := s1.onPort p (fun v => { v with passSeen := false })
  let s3 := s2.orderCheck p
  if Nat.beq x.type 1 && bit x.b12 1 then
    match lowerRate (s.port p).rate (s3.commonRates p) with
    | some r => s3.onPort p (fun v => { v with ceiling := Nat.min v.ceiling r })
    | none => s3
  else s3

/-- TS1 or TS2 in TRAIN: tap requests, responses, RX_DONE, FALLBACK (R309-R312). -/
def State.tsInTrain (s : State) (p : Port) (i : Nat) (x : TrainSet) : State :=
  if Nat.beq x.type 1 && bit x.b12 1 then s.fallBack p false
  else
    let s1 := s.onLane p i (fun l => ((l.noted x).heedRequest x).heedResponse x s.now)
    (s1.showTaps p i ⟨x.b9, x.b10, x.b11⟩).trainCheck p

/-- The unit interval of a rate in ps (R295). -/
def uiPs (rate : Nat) : Nat := match rate with | 0 => 320 | 1 => 160 | _ => 80

/-- The symbol time of a rate in ps (R295). -/
def symbolPs (rate : Nat) : Nat := 10 * uiPs rate

/-- The bits a checker has counted since it came into sync. -/
def State.bitsInSync (s : State) (p : Port) (i : Nat) : Nat :=
  match ((s.port p).lane i).syncAt with
  | some t => 1000 * (s.now - t) / uiPs (s.port p).rate
  | none => 0

/-- A saturating U64 lane counter advanced. -/
def State.bumpLane64 (s : State) (o k n : Nat) : State :=
  s.patchBlob o (8 * k) (leBytes 8 (satNat 64 (s.cat.vol.le o (8 * k) 8 + n)))

/-- A checker leaves sync: the bits counted so far are kept. -/
def State.leaveSync (s : State) (p : Port) (i : Nat) : State :=
  let n := s.bitsInSync p i
  let s1 := if n = 0 then s else s.bumpLane64 Obj.LNK_PRBS_BITS (laneNo p i) n
  (s1.onLane p i (fun l => { l with syncAt := none })).setLaneBit p i 2 false

/-- TS1 or TS2 on a port that had trained (R313): TRAIN at the rate the set names, if its lane order is unchanged; a checker in sync leaves it. -/
def State.tsRetrains (s : State) (p : Port) (i : Nat) (x : TrainSet) : State :=
  if Nat.beq (((s.port p).lane i).partnerLane) x.lane then
    ((List.range 4).foldl (fun s k => if ((s.port p).lane k).syncAt.isSome then s.leaveSync p k else s) s).enterTrain p x.rate
  else s

/-- A TS1 or TS2 received on a lane. -/
def State.tsReceived (s : State) (p : Port) (i : Nat) (x : TrainSet) : State :=
  match (s.port p).state with
  | .detect => if x.isEnd then s.enterIdleEnd p else s.tsInDetect p i x
  | .train => if x.isEnd then s.enterIdleEnd p else s.tsInTrain p i x
  | .up | .recovery => if x.isEnd then s.enterIdleEnd p else s.tsRetrains p i x
  | .test => s.tsRetrains p i x
  | .align | .down | .pass | .idleEnd => s

/-- A training set of one of the types `ok` received; anything else is ignored and, if ill-formed, counted. -/
def State.onSet (s : State) (l : List Byte) (ok : Nat → Bool) (f : TrainSet → State → State) : State :=
  match readSet l with
  | none => s.setIgnored
  | some x => if ok x.type then f x s else s

/-- The rate change ends (R307): after 8 TS2 on every lane the port enters TRAIN at the target. -/
def State.rateChanged (s : State) (p : Port) : State :=
  let v := s.port p
  if v.state = .detect ∧ v.heardTs1 ∧ v.heardTs2 ∧ v.laneOrder ≠ none then s.enterTrain p (s.targetRate p) else s

/-- A request not acknowledged within 20 us is sent again with the same REQ_SEQ (R310). -/
def State.resendRequest (s : State) (p : Port) (i : Nat) : State :=
  match ((s.port p).lane i).outstanding with
  | some o =>
    if o.sentAt + 20000 ≤ s.now then
      s.onLane p i (fun l => { l with outstanding := some { o with sentAt := s.now, resends := o.resends + 1 } })
    else s
  | none => s

/-! ## What a lane sends -/

/-- The request fields of a lane's sets (R310). -/
def Lane.requestOut (l : Lane) : Nat × Nat :=
  match l.outstanding with
  | none => (0, l.reqSeq * 16)
  | some o => match o.req with
    | .preset n => (128 + 64, o.seq * 16 + n)
    | .step post pre main => (128 + 16 * main + 4 * pre + post, o.seq * 16)

/-- The TS1 (1) or TS2 (2) that lane `i` of a port sends (R306, R309, R310). -/
def State.setOut (s : State) (p : Port) (i type : Nat) : TrainSet :=
  let v := s.port p
  let l := v.lane i
  let (req, arg) := l.requestOut
  let ack := match l.ackSeq with
    | some q => (128 + 16 * l.ackMain + 4 * l.ackPre + l.ackPost, 16 * q)
    | none => (0, 0)
  { type := type, lane := 4 * p.code + i, rates := ratesUpTo s.rateMax
    rate := if type = 2 then s.targetRate p else (if v.state = .detect then 0 else v.rate)
    request := req, arg := arg, response := ack.1, respSeq := ack.2
    b9 := l.taps.pre, b10 := l.taps.main, b11 := l.taps.post
    b12 := 2 * b2n v.fallback + b2n (decide (l.phase = .accepted)), b13 := 0, b14 := 0 }

/-! ## Hop delay (R314-R316) -/

/-- An exchange of `n` LOOP sets begins. -/
def State.hopStart (s : State) (p : Port) (n : Nat) : State :=
  s.onPort p (fun v => { v with
    hop := some { count := n, firstTag := v.loopTag }, loopTag := (v.loopTag + n) % 256, hopAt := s.now })

/-- The port's four lanes are locked and aligned (R303): the exchange of 64 begins. -/
def State.deskewed (s : State) (p : Port) : State :=
  match (s.port p).state with
  | .align | .recovery => ((s.setLaneBits p 0 true).setLaneBits p 1 true).hopStart p 64
  | _ => s

/-- An echo (R314): one of this exchange's tags, once, not later than 10 us. -/
def State.loopEcho (s : State) (p : Port) (x : TrainSet) (trip : Nat) : State :=
  match (s.port p).hop with
  | none => s
  | some h =>
    let k := (x.b9 + 256 - h.firstTag) % 256
    let ta := x.b10 + 256 * x.b11 + 65536 * x.b12 + 16777216 * x.b13
    if k < h.count ∧ !(h.tags.contains x.b9) ∧ trip ≤ 10000000 then
      s.onPort p (fun v => { v with
        hop := some { h with tags := x.b9 :: h.tags, trips := ((trip : Int) - (ta : Int)) :: h.trips } })
    else s

/-- A LOOP answered (R314): the LOOP_ECHO carries the tag and the turnaround. -/
def State.answerLoop (s : State) (p : Port) (x : TrainSet) (turnaround : Nat) : State :=
  match (s.port p).state with
  | .align | .recovery | .up =>
    let t := leBytes 4 turnaround
    let e : TrainSet := { type := 4, lane := 4 * p.code, rates := ratesUpTo s.rateMax, rate := (s.port p).rate
                          request := 0, arg := 0, response := 0, respSeq := 0, b9 := x.b9
                          b10 := leAt t 0 1, b11 := leAt t 1 1, b12 := leAt t 2 1, b13 := leAt t 3 1, b14 := 0 }
    s.onPort p (fun v => { v with echo := e.bytes })
  | _ => s

/-- The delay object of a port. -/
def hopDelayObj : Port → Nat
  | .a => Obj.LNK_HOP_DELAY_A
  | .b => Obj.LNK_HOP_DELAY_B

/-- The spread object of a port. -/
def hopSpreadObj : Port → Nat
  | .a => Obj.LNK_HOP_SPREAD_A
  | .b => Obj.LNK_HOP_SPREAD_B

/-- The mean one-way delay of an exchange in ps, rounded half to even (R314). -/
def HopRun.mean (h : HopRun) : Nat := (divHalfEven (h.trips.foldl (· + ·) 0) (2 * h.trips.length)).toNat

/-- The range of the one-way delays, in ps, rounded half to even. -/
def HopRun.spread (h : HopRun) : Nat :=
  match h.trips with
  | [] => 0
  | x :: r =>
    let hi := r.foldl (fun (a b : Int) => Max.max a b) x
    let lo := r.foldl (fun (a b : Int) => Min.min a b) x
    (divHalfEven (hi - lo) 2).toNat

/-- The exchange ends (R314, R316). -/
def State.hopDone (s : State) (p : Port) : State :=
  match (s.port p).hop with
  | none => s
  | some h =>
    let s1 := s.onPort p (fun v => { v with hop := none })
    match (s.port p).state with
    | .align | .recovery =>
      if h.trips.length < 32 then s1.enterRecovery p
      else
        ((s1.setReg (hopDelayObj p) h.mean).setReg (hopSpreadObj p) h.spread).onPort p (fun v => { v with hopDone := true })
    | .up =>
      if h.trips = [] then s1
      else
        let s2 := s1.setReg (hopSpreadObj p) h.spread
        let old := s.reg (hopDelayObj p)
        if 200 < h.spread then s2.bump Obj.LNK_HOP_REJECTED
        else if old + 100 < h.mean ∨ h.mean + 100 < old then
          ((s2.setReg (hopDelayObj p) h.mean).bump Obj.LNK_HOP_CHANGES).event 0x1207 (p.code * 2 ^ 31 + h.mean % 2 ^ 31)
        else s2
    | _ => s1

/-- LNK_HOP_PERIOD expires in UP (R316). -/
def State.hopPeriod (s : State) (p : Port) : State :=
  let v := s.port p
  let per := s.reg Obj.LNK_HOP_PERIOD
  if v.state = .up ∧ 0 < per ∧ v.hop = none ∧ v.hopAt + per * 1000000 ≤ s.now then s.hopStart p 16 else s

/-! ## Eye quality (R317, R318) -/

/-- An eye measurement of a lane. -/
def State.eyeMeasured (s : State) (p : Port) (i w h : Nat) : State :=
  let n := laneNo p i
  let s1 := s.patchBlob Obj.LNK_EYE (4 * n) (leBytes 1 w ++ [0] ++ leBytes 2 h)
  if (s.port p).state = .up then
    if w < 24 ∨ h < 50 then
      ((s1.setLaneBit p i 3 true).bump Obj.LNK_EYE_LOW_COUNT).event 0x1206 (n * 2 ^ 24 + (w % 256) * 2 ^ 16 + h % 2 ^ 16)
    else if 28 ≤ w ∧ 60 ≤ h then s1.setLaneBit p i 3 false
    else s1
  else s1

/-- LNK_EYE_PERIOD expires in UP: a measurement starts. -/
def State.eyePeriod (s : State) (p : Port) : State :=
  let per := s.reg Obj.LNK_EYE_PERIOD
  if (s.port p).state = .up ∧ 0 < per ∧ (s.port p).eyeAt + per * 1000000000 ≤ s.now then
    s.onPort p (fun v => { v with eyeAt := s.now })
  else s

/-- A measurement starts on every lane (R317). -/
def State.eyeAll (s : State) : State :=
  (s.onPort .a (fun v => { v with eyeAt := s.now })).onPort .b (fun v => { v with eyeAt := s.now })

/-! ## PRBS and injection (R319-R321) -/

/-- The test word of a lane. -/
def State.laneTest (s : State) (p : Port) (i : Nat) : Nat := s.reg (Obj.LNK_LANE_TEST (laneNo p i))

/-- Does a lane's test word hold the port in TEST: GEN_EN, CHK_EN or NEAR_LOOP (R319)? -/
def holdsTest (w : Nat) : Bool := bit w 15 || bit w 11 || bit w 7

/-- One transmitted bit inverted (R321), in TEST or UP; a lane looped to itself sees the error. -/
def State.inject (s : State) (p : Port) (i : Nat) : State :=
  match (s.port p).state with
  | .test | .up =>
    let s1 := s.onPort p (fun v => { v with injected := v.injected + 1 })
    if bit (s.laneTest p i) 7 && ((s.port p).lane i).syncAt.isSome then
      s1.bumpLane64 Obj.LNK_PRBS_ERRORS (laneNo p i) 1
    else s1
  | _ => s

/-- A lane test word written (R319-R321). -/
def State.writeLaneTest (s : State) (p : Port) (i w : Nat) : State :=
  let o := Obj.LNK_LANE_TEST (laneNo p i)
  let old := s.reg o
  let n := laneNo p i
  let s1 := s.setReg o w
  let s2 := if bit w 11 && !(bit old 11) then
      let x := (s1.patchBlob Obj.LNK_PRBS_BITS (8 * n) (zeros 8)).patchBlob Obj.LNK_PRBS_ERRORS (8 * n) (zeros 8)
      (x.onLane p i (fun l => { l with syncAt := none })).setLaneBit p i 2 false
    else if bit old 11 && !(bit w 11) then s1.leaveSync p i
    else s1
  let held := (List.range 4).any (fun k => holdsTest (s2.laneTest p k))
  let s3 :=
    if held then
      (if (s2.port p).state = .test then s2
      else (s2.onPort p (fun v => { v.leaveUp s.now with hop := none, hopDone := false })).portTo p .test)
    else if (s2.port p).state = .test then s2.enterDetect p (s2.port p).ceiling false
    else s2
  if w / 32 % 4 = 1 then (s3.inject p i).setReg o (w - 32) else s3

/-- Periodic injection (R321): one bit, on a lane whose INJ_MODE asks for it. -/
def State.injectPeriodic (s : State) (p : Port) (i : Nat) : State := if s.laneTest p i / 32 % 4 = 2 then s.inject p i else s

/-- A SKP ordered set sent after 4,096 columns (R301), by a port that sends columns. -/
def State.skipSent (s : State) (p : Port) : State :=
  let v := s.port p
  if v.carries && Nat.ble (1000 * v.skipAt + 4096 * symbolPs v.rate) (1000 * s.now) then s.onPort p (fun v => { v with skipAt := s.now }) else s

/-- 1,024 error-free bits (R320): the checker is in sync and counts. -/
def State.prbsSync (s : State) (p : Port) (i : Nat) : State :=
  if (s.port p).state = .test ∧ bit (s.laneTest p i) 11 ∧ ((s.port p).lane i).syncAt = none then
    (s.onLane p i (fun l => { l with syncAt := some s.now })).setLaneBit p i 2 true
  else s

/-- 256 errors within 1,024 bits (R320): the errors counted in sync, then out of sync. -/
def State.prbsResync (s : State) (p : Port) (i errors : Nat) : State :=
  if ((s.port p).lane i).syncAt.isSome then
    let s1 := (s.bumpLane64 Obj.LNK_PRBS_ERRORS (laneNo p i) errors).leaveSync p i
    (s1.bump Obj.LNK_PRBS_RESYNC).event 0x120A 0
  else s

/-! ## Retraining, wakes and PASS (R312, R324-R326) -/

/-- A port retrained from LNK_RATE_MAX (R312): a port in TEST or joined in REST is left alone. -/
def State.retrain (s : State) (p : Port) : State :=
  match (s.port p).state with
  | .test | .pass => s
  | _ => s.enterDetect p 2 false

/-- A port's transmitter holds electrical idle for 4 us (R326). -/
def State.wakePort (s : State) (p : Port) : State :=
  s.onPort p (fun v => { v with wakeUntil := some (s.now + 4000) })

/-- The wake idle ends (R326): the transmitter resumes with IDLE in UP and with TS1 where it had been silent. -/
def State.wakeIdleEnd (s : State) (p : Port) : State :=
  match (s.port p).wakeUntil with
  | some t =>
    if t ≤ s.now then
      let s1 := s.onPort p (fun v => { v with wakeUntil := none })
      match (s.port p).state with
      | .down => s1.enterDetect p 2 false
      | .idleEnd => s1.enterDetect p (s.port p).ceiling false
      | _ => s1
    else s
  | none => s

/-- FACING_PASS of a port (R351). -/
def State.facing (s : State) (p : Port) (b : Bool) : State := s.setFlag Obj.LNK_STATUS (2 + p.code) b

/-- PASS sets on a port in UP (R325, R351); elsewhere they are ignored (R313). -/
def State.passReceived (s : State) (p : Port) (x : TrainSet) : State :=
  match (s.port p).state with
  | .up =>
    if x.isEnd then (s.onPort p (fun v => { v with passSeen := true })).enterIdleEnd p |>.facing p true
    else
      let s1 := s.onPort p (fun v => { v with passSeen := true, passUntil := s.now + 1000000 })
      (s1.facing p true).enterRecovery p
  | .recovery =>
    if x.isEnd then (s.onPort p (fun v => { v with passSeen := true })).enterIdleEnd p |>.facing p true
    else s.onPort p (fun v => { v with passSeen := true, passUntil := s.now + 1000000 }) |>.facing p true
  | _ => s

end Sys2Proof.Machine
end

