-- ==== Sys2Proof/Machine/LinkTx.lean ====
section
/-! DEFINITION. Frames on the link (12 R329-R351): header and trailer, credits, transmit queues, routing, discards. -/

namespace Sys2Proof.Machine

/-! ## Header and trailer (R332, R333) -/

/-- LENGTH of a frame in words. -/
def Frame.words (f : Frame) : Nat := f.payload.length / 4

/-- Header bytes 0 to 11. -/
def Frame.head12 (f : Frame) : List Byte :=
  leBytes 4 (f.dest % 4096 * 2 ^ 20 + f.source % 4096 * 2 ^ 8 + f.vc % 4 * 64 + f.type % 64) ++
  leBytes 4 (f.tag % 1024 * 2 ^ 22 + f.reserved % 8 * 2 ^ 19 + b2n f.dual * 2 ^ 18 + b2n f.retx * 2 ^ 17 +
    b2n f.last * 2 ^ 16 + f.words % 65536) ++
  leBytes 4 f.offset

/-- The CRC-16 of R333. -/
def crc16 (l : List Byte) : Nat := crcMsb 16 0x1021 0xFFFF l

/-- The bytes of a frame from W0 to its trailer (R329, R332, R333). -/
def Frame.bytes (f : Frame) : List Byte :=
  let h := f.head12
  let w := leBytes 1 f.ttl ++ leBytes 1 f.hops
  h ++ leBytes 2 (crc16 (h ++ w)) ++ w ++ f.payload ++ leBytes 4 (crc32c (h ++ zeros 4 ++ f.payload))

/-- The frame that bytes spell; its payload is what lies between header and trailer. -/
def Frame.read (l : List Byte) : Frame :=
  let w0 := leAt l 0 4
  let w1 := leAt l 4 4
  { dest := field w0 31 20, source := field w0 19 8, vc := field w0 7 6, type := field w0 5 0
    tag := field w1 31 22, reserved := field w1 21 19, dual := bit w1 18, retx := bit w1 17, last := bit w1 16
    offset := leAt l 8 4, ttl := leAt l 14 1, hops := leAt l 15 1
    payload := (l.drop 16).take (l.length - 20) }

/-- LENGTH as the header states it. -/
def statedLength (l : List Byte) : Nat := leAt l 4 2

/-- Is HCRC correct (R333)? -/
def headerOk (l : List Byte) : Bool :=
  Nat.ble 20 l.length && Nat.beq (leAt l 12 2) (crc16 (l.take 12 ++ (l.drop 14).take 2))

/-- Is the trailer correct (R333)? -/
def trailerOk (l : List Byte) : Bool :=
  let n := l.length - 20
  Nat.beq (leAt l (16 + n) 4) (crc32c (l.take 12 ++ zeros 4 ++ (l.drop 16).take n))

/-! ## Types and limits (R12, R334, R335) -/

/-- Is this TYPE assigned on this channel (R334)? -/
def typeOnVc (type vc : Nat) : Bool :=
  match type with
  | 0x01 | 0x02 | 0x03 | 0x04 | 0x05 => Nat.beq vc 0
  | 0x06 | 0x3F => Nat.blt vc 2
  | 0x10 | 0x11 | 0x12 => Nat.beq vc 1
  | 0x20 | 0x21 | 0x22 => Nat.beq vc 2
  | 0x30 | 0x31 | 0x32 | 0x33 | 0x38 => Nat.beq vc 3
  | _ => false

/-- The largest payload of a channel in words (R335). -/
def maxWords (vc : Nat) : Nat := match vc with | 0 => 256 | 1 => 4096 | 2 => 2048 | _ => 16

/-- Is an address valid (R12)? -/
def addressValid (a : Nat) : Bool := !(Nat.beq (a / 64) 63) || Nat.beq (a % 64) 63

/-! ## Credits (R339-R342) -/

/-- The units of a frame of `n` words. -/
def frameUnits (n : Nat) : Nat := ceilDiv (20 + 4 * n) 64

/-- The reserved units of each channel. -/
def reservedUnits : List Nat := [256, 1024, 1024, 64]

/-- The shared units. -/
def sharedUnits : Nat := 1728

/-- Is there room for `k` units on a channel, given the units in use (R340)? -/
def creditFits (used : List Nat) (vc k : Nat) : Bool :=
  let u := used.set vc (used.getD vc 0 + k)
  Nat.ble (u.getD vc 0) (reservedUnits.getD vc 0) ||
    Nat.ble ((List.zipWith (fun a r => a - r) u reservedUnits).foldl (· + ·) 0) sharedUnits

/-- Units per channel of some frames. -/
def unitsOf (l : List Queued) : List Nat :=
  l.foldl (fun u q => u.set q.frame.vc (u.getD q.frame.vc 0 + frameUnits q.frame.words)) [0, 0, 0, 0]

/-- The frames a port has yet to send, those in transmission first. -/
def LinkPort.unsent (v : LinkPort) : List Queued := v.token.toList ++ v.wire.toList ++ v.queue

/-- The units a port's receiver holds: the frames that wait to leave by the other port. -/
def State.heldUnits (s : State) (p : Port) : List Nat :=
  unitsOf ((s.port p.other).unsent.filter (fun q => !q.own))

/-- The freed counts a port has to tell: units received since the INIT that it no longer holds, modulo 65,536. -/
def State.freedUnits (s : State) (p : Port) : List Nat :=
  List.zipWith (fun r h => (r - h) % 65536) (s.port p).credits.recvd (s.heldUnits p)

/-- The 12 bytes of a credit set (R341). -/
def creditBytes (kind : Nat) (cnt : List Nat) : List Byte :=
  let b := leBytes 1 kind ++ [0] ++ cnt.flatMap (leBytes 2)
  b ++ leBytes 2 (crc16 b)

/-- An INIT sent (R342). -/
def State.sendInit (s : State) (p : Port) : State :=
  s.onPort p (fun v => { v with credits := { v.credits with lastSent := s.now, sentInits := v.credits.sentInits + 1 } })

/-- Credit state at entry to UP (R342): freed counts 0, an INIT with the units held now. -/
def State.creditReset (s : State) (p : Port) : State :=
  let c := (s.port p).credits
  let fresh : Credits := { recvd := s.heldUnits p, sentInits := c.sentInits, sentUpdates := c.sentUpdates }
  (s.onPort p (fun v => { v with credits := fresh })).sendInit p

/-- Are there freed units the partner has not been told of? -/
def State.updateDue (s : State) (p : Port) : Bool := decide (s.freedUnits p ≠ (s.port p).credits.told)

/-! ## Transmit order (R337) -/

/-- May a frame start on a port (R340)? -/
def LinkPort.mayStart (v : LinkPort) (f : Frame) : Bool := creditFits v.credits.used f.vc (frameUnits f.words)

/-- The next frame of a channel: forwarded and originated frames alternate, each in their order, and a frame without
credit waits whole. -/
def LinkPort.pick (v : LinkPort) (vc : Nat) : Option Queued :=
  let c := v.queue.filter (fun q => Nat.beq q.frame.vc vc)
  let own := c.find? (fun q => q.own)
  let fwd := c.find? (fun q => !q.own)
  let l := if v.lastOwn.getD vc false then fwd.toList ++ own.toList else own.toList ++ fwd.toList
  l.find? (fun q => v.mayStart q.frame)

/-- Payload bytes, which the round robin counts. -/
def Queued.size (q : Queued) : Nat := q.frame.payload.length

/-- The deficit of VC1 or VC2. -/
def LinkPort.deficit (v : LinkPort) (two : Bool) : Nat := if two then v.deficit2 else v.deficit1

/-- The deficit of VC1 or VC2 set. -/
def LinkPort.setDeficit (v : LinkPort) (two : Bool) (n : Nat) : LinkPort :=
  if two then { v with deficit2 := n } else { v with deficit1 := n }

/-- Deficit round robin between VC1 and VC2 with a quantum of 16,384 bytes: `fuel` turns. -/
def LinkPort.drr (v : LinkPort) : Nat → LinkPort × Option Queued
  | 0 => (v, none)
  | fuel + 1 =>
    let c := v.turn2
    let vc := if c then 2 else 1
    let other := if c then 1 else 2
    let pass := fun (w : LinkPort) =>
      let w1 := { w with turn2 := !c }
      if (w1.pick other).isSome then w1.setDeficit (!c) (w1.deficit (!c) + 16384) else w1
    match v.pick vc with
    | some q => if q.size ≤ v.deficit c then (v.setDeficit c (v.deficit c - q.size), some q) else (pass v).drr fuel
    | none => (pass (v.setDeficit c 0)).drr fuel

/-- The next frame of VC0, VC1 or VC2 (R337). -/
def LinkPort.choose (v : LinkPort) : LinkPort × Option Queued :=
  match v.pick 0 with
  | some q => (v, some q)
  | none => v.drr 4

/-- A frame leaves the queue and its units are charged. -/
def LinkPort.take (v : LinkPort) (q : Queued) : LinkPort :=
  let vc := q.frame.vc
  let u := v.credits.used.set vc (v.credits.used.getD vc 0 + frameUnits q.frame.words)
  { v with queue := v.queue.erase q, credits := { v.credits with used := u }, lastOwn := v.lastOwn.set vc q.own }

/-- A port that may send starts what it can: a token at once, a frame when none is in transmission. -/
def LinkPort.pump (v : LinkPort) : LinkPort :=
  if v.state = .up ∧ v.credits.heard then
    let v1 := match v.token with
      | some _ => v
      | none => match v.pick 3 with
        | some q => { v.take q with token := some q }
        | none => v
    match v1.wire with
    | some _ => v1
    | none =>
      let (v2, c) := v1.choose
      match c with
      | some q => { v2.take q with wire := some q }
      | none => v2
  else v

/-- A port starts what it can. -/
def State.pump (s : State) (p : Port) : State := s.onPort p LinkPort.pump

/-- An output port finishes a frame, a token first, and chooses the next (R337). -/
def State.frameDone (s : State) (p : Port) : State :=
  let v := s.port p
  match v.token with
  | some _ => ((s.onPort p (fun v => { v with token := none })).bumpEntry64 Obj.LNK_FRAMES_TX p.code 1).pump p
  | none => match v.wire with
    | some _ => ((s.onPort p (fun v => { v with wire := none })).bumpEntry64 Obj.LNK_FRAMES_TX p.code 1).pump p
    | none => s

/-! ## Discards (R343) -/

/-- The discard object of a port. -/
def discardObj : Port → Nat
  | .a => Obj.LNK_DISCARDS_A
  | .b => Obj.LNK_DISCARDS_B

/-- A discard counted under its cause. -/
def State.countDiscard (s : State) (p : Port) (cause : Nat) : State :=
  (s.bumpEntry (discardObj p) 0).bumpEntry (discardObj p) cause

/-- A discard counted and recorded. -/
def State.discard (s : State) (p : Port) (cause : Nat) : State :=
  (s.countDiscard p cause).event 0x120C (256 * p.code + cause)

/-- The frames queued for a port discarded with cause 7 (R349). -/
def State.dropQueue (s : State) (p : Port) : State :=
  let n := (s.port p).queue.length
  let s1 := s.onPort p (fun v => { v with queue := [] })
  (List.range n).foldl (fun s _ => s.discard p 7) s1

/-! ## Routing (R346, R347) -/

/-- This tile's address, 0 without a position. -/
def State.address (s : State) : Nat := s.reg Obj.ID_ADDRESS

/-- Has the tile a position? -/
def State.positioned (s : State) : Bool := Nat.blt 0 (s.address % 64)

/-- Is a frame for this tile, and is it forwarded (R346)? A tile without a position consumes VC3 broadcasts and ENUM and
link-local frames. -/
def State.routeOf (s : State) (f : Frame) : Bool × Bool :=
  if f.dest = 0 ∧ f.ttl = 1 then (true, false)
  else if f.dest % 64 = 63 then
    if s.positioned then (Nat.beq f.dest 0xFFF || Nat.beq (f.dest / 64) (s.address / 64), true)
    else (Nat.beq f.vc 3, true)
  else if s.positioned then (if Nat.beq f.dest s.address then (true, false) else (false, true))
  else if f.vc = 3 ∧ f.type = 0x38 then (true, false)
  else (false, true)

/-- Does a port take frames: in UP, or in RECOVERY, where they wait (R349)? -/
def LinkPort.takes (v : LinkPort) : Bool :=
  match v.state with
  | .up | .recovery => true
  | _ => false

/-- A frame queued on a port. -/
def State.enqueue (s : State) (p : Port) (f : Frame) (own : Bool) : State :=
  (s.onPort p (fun v => { v with queue := v.queue ++ [{ frame := f, own := own, since := s.now }] })).pump p

/-- Is the tile silent on the link: in REST, off or starting up, or in FAULT with cause XTAL (R23, R552)? -/
def State.silent (s : State) : Bool :=
  match s.tile.state with
  | .off | .boot | .selftest | .calload | .rest => true
  | .fault => decide (s.tile.server = .alwaysOn)
  | _ => false

/-- A frame the tile originates: SOURCE its address, TTL LNK_TTL. -/
def State.newFrame (s : State) (dest vc type : Nat) (payload : List Byte) : Frame :=
  { dest := dest, source := if s.positioned then s.address else 0, vc := vc, type := type
    ttl := s.reg Obj.LNK_TTL, payload := payload }

/-- A frame originated out of one port: a RESPONSE, a NAK, a REPORT (R345, R347, R352). -/
def State.sendOn (s : State) (p : Port) (f : Frame) : State :=
  if s.silent then s
  else if (s.port p).takes then s.enqueue p f true else s.discard p 7

/-- A token originated out of both ports (R347); a port without a partner takes none. -/
def State.sendBoth (s : State) (f : Frame) : State :=
  if s.silent then s
  else
    let one := fun (s : State) (p : Port) => if (s.port p).takes then s.enqueue p f true else s
    one (one s .a) .b

/-- The port for c.0 (R347). -/
def State.homePort (s : State) : Port :=
  let st := s.reg Obj.LNK_STATUS
  let p := s.address % 64
  let l := s.reg Obj.LNK_RING_LENGTH
  if bit st 0 then (if p ≤ l + 1 - p then .a else .b)
  else if bit st 9 then .b else .a

/-- A frame for c.0 sent, or waiting up to 1 ms for a port in UP (R347). -/
def State.sendHome (s : State) (f : Frame) : State :=
  if s.silent then s
  else
    let p := s.homePort
    if s.isUp p then s.enqueue p f true
    else if s.isUp p.other then s.enqueue p.other f true
    else { s with rg := { s.rg with waiting := s.rg.waiting ++ [{ frame := f, own := true, since := s.now }] } }

/-- The frames that waited for a route sent, now that a port is in UP. -/
def State.sendWaiting (s : State) : State :=
  if s.isUp .a || s.isUp .b then
    let l := s.rg.waiting
    l.foldl (fun s q => s.sendHome q.frame) { s with rg := { s.rg with waiting := [] } }
  else s

/-- Frames that have waited 1 ms discarded with cause 7 (R347). -/
def State.routeTimeout (s : State) : State :=
  let (late, rest) := s.rg.waiting.partition (fun q => Nat.ble (q.since + 1000000) s.now)
  late.foldl (fun s _ => s.discard s.homePort 7) { s with rg := { s.rg with waiting := rest } }

/-- A NAK (R344, R345), never in answer to a NAK or a RESPONSE nor on VC2 or VC3. -/
def State.nak (s : State) (p : Port) (l : List Byte) (status : Nat) : State :=
  let f := Frame.read l
  if f.vc < 2 ∧ f.type ≠ 0x3F ∧ f.type ≠ 0x06 then
    let payload := leBytes 1 status ++ leBytes 1 f.type ++ zeros 2 ++ leBytes 4 (statedLength l)
    let n := { s.newFrame f.source f.vc 0x3F payload with tag := f.tag, offset := f.offset }
    (s.bump Obj.LNK_NAKS_SENT).sendOn p n
  else s

/-! ## Credit sets received (R341, R342) -/

/-- A credit set received: ignored when marked or with a wrong CHECK. -/
def State.creditSet (s : State) (p : Port) (l : List Byte) (marked : Bool) : State :=
  let v := s.port p
  if v.state = .up && !marked && Nat.beq l.length 12 && Nat.beq (leAt l 10 2) (crc16 (l.take 10)) then
    let cnt := [leAt l 2 2, leAt l 4 2, leAt l 6 2, leAt l 8 2]
    let kind := leAt l 0 1
    let c0 := { v.credits with acked := v.credits.acked || bit kind 1 }
    let c1 :=
      if bit kind 0 then
        if c0.heard then c0 else { c0 with heard := true, used := cnt, freedSeen := [0, 0, 0, 0] }
      else if c0.heard then
        let delta := List.zipWith (fun n o => (n + 65536 - o) % 65536) cnt c0.freedSeen
        { c0 with used := List.zipWith (fun u d => u - d) c0.used delta, freedSeen := cnt }
      else c0
    (s.onPort p (fun v => { v with credits := c1 })).pump p
  else s

/-- An INIT repeated every 10 us until it is acknowledged (R342). -/
def State.creditInitResend (s : State) (p : Port) : State :=
  let v := s.port p
  if v.state = .up ∧ !v.credits.acked ∧ v.credits.lastSent + 10000 ≤ s.now then s.sendInit p else s

/-- A credit update within 1 us of freeing units and at least every 20 us (R342); none during REST entry (R350). -/
def State.creditUpdateSend (s : State) (p : Port) : State :=
  let v := s.port p
  if v.state = .up ∧ s.tile.phase = .none ∧ (s.updateDue p ∨ v.credits.lastSent + 20000 ≤ s.now) then
    s.onPort p (fun v => { v with credits := { v.credits with
      told := s.freedUnits p, lastSent := s.now, sentUpdates := v.credits.sentUpdates + 1 } })
  else s

/-! ## Ring (R349, R351) -/

/-- The time port of LNK_STATUS set; a comparison of HOPS under way ends (R358). -/
def State.setTimePort (s : State) (p : Port) : State :=
  let s1 := s.setFlag Obj.LNK_STATUS 7 (Nat.beq p.code 1)
  (s1.onPort .a (fun v => { v with betterSince := none })).onPort .b (fun v => { v with betterSince := none })

/-- The time port chosen at entry to UP (R358): the smaller HOPS of the latest tokens, port A on a tie. -/
def State.chooseTimePort (s : State) : State :=
  match s.portA.latestHops, s.portB.latestHops with
  | some a, some b => s.setTimePort (if a ≤ b then .a else .b)
  | none, some _ => s.setTimePort .b
  | _, _ => s.setTimePort .a

/-- Entry to UP: the frames kept for a port that is back later than 1 ms after it left UP are discarded; credits, FACING_PASS, the time port, the waiting
frames, the first UP of R359 (R314, R342, R349, R351, R358). -/
def State.enterUp (s0 : State) (p : Port) : State :=
  let s := if (s0.port p).leftAt + 1000000 < s0.now then s0.dropQueue p else s0
  let seen := (s.port p).passSeen
  let trained := decide ((s.port p).state = .align)
  let s1 := s.onPort p (fun v => { v with everUp := true, fromUp := false, hopDone := false, eyeAt := s.now })
  let s2 := { (s1.portTo p .up) with rg := { s1.rg with firstUpAt := some (s1.rg.firstUpAt.getD s.now) } }
  let s3 := if trained && !seen then s2.facing p false else s2
  ((s3.creditReset p).chooseTimePort).sendWaiting

/-- PORT_UP (R305, R314): from ALIGN or RECOVERY with its hop delay measured. -/
def State.portUp (s : State) (p : Port) : State :=
  match (s.port p).state with
  | .align | .recovery => if (s.port p).hopDone then s.enterUp p else s
  | _ => s

/-- RECOVERY has not regained lock within 1 ms (R305, R349). -/
def State.recoveryTimeout (s : State) (p : Port) : State :=
  let v := s.port p
  if v.state = .recovery ∧ v.since + 1000000 ≤ s.now then (s.dropQueue p).enterTrain p v.rate else s

/-- A port leaves UP for DOWN (R349). -/
def State.ringBreak (s : State) (p : Port) : State :=
  let v := s.port p
  if v.fromUp ∨ v.state = .up then
    let s1 := if v.state = .down then s else s.enterDown p
    let s2 := s1.onPort p (fun v => { v with fromUp := false })
    ((s2.setFlag Obj.LNK_STATUS 1 true).event 0x120D p.code).dropQueue p
  else s

/-- Both ports are back in UP (R349). -/
def State.ringRestored (s : State) : State :=
  if s.flag Obj.LNK_STATUS 1 && s.isUp .a && s.isUp .b then (s.setFlag Obj.LNK_STATUS 1 false).event 0x120E 0 else s

end Sys2Proof.Machine
end

