-- ==== Sys2Proof/Machine/Engine.lean ====
section
/-! DEFINITION. A strip engine as an instruction sees it (05): registers, issue and busy cycles, loops and branches,
LDM, task values, ports and tags. -/

namespace Sys2Proof.Machine

/-! ## Engines and images -/

/-- An engine at BOOT. -/
def freshEngine : Engine := {}

/-- Engine `e`. -/
def State.engine (s : State) (e : Nat) : Engine := storeGet (fun _ => freshEngine) s.cu.engines e

/-- Engine `e` replaced. -/
def State.setEngine (s : State) (e : Nat) (g : Engine) : State :=
  { s with cu := { s.cu with engines := storePut (fun _ => freshEngine) s.cu.engines e g } }

/-- Engine `e` changed. -/
def State.onEngine (s : State) (e : Nat) (f : Engine → Engine) : State := s.setEngine e (f (s.engine e))

/-- A U32 field of a kernel BLOB's header (R138). -/
def Image.u32 (i : Image) (o : Nat) : Nat := leAt i.bytes o 4

/-- KERNEL_ID (R138, R147). -/
def Image.ident (i : Image) : Nat := match i.slot with | none => 1 | some _ => leAt i.bytes 0x0C 2

/-- STATEFUL (R141, R147). -/
def Image.stateful (i : Image) : Bool := match i.slot with | none => true | some _ => bit (i.u32 0x10) 0

/-- LDM_LIMIT; the built-in image's is not stated, and its tasks execute no instruction of the table. -/
def Image.ldmLimit (i : Image) : Nat := match i.slot with | none => 64512 | some _ => i.u32 0x34

/-- CODE_LEN in words. -/
def Image.codeWords (i : Image) : Nat := i.u32 0x18 / 4

/-- The code of an image (R138). -/
def Image.code (i : Image) : List Byte := sliceBytes i.bytes (i.u32 0x14) (i.u32 0x18)

/-- PREFETCH_MAX; the built-in functions that use the reference prefetch up to their REF_BYTES (R149). -/
def Image.prefetchMax (i : Image) (kernel : Nat) : Nat :=
  match i.slot with
  | none => if kernel = 1 ∨ kernel = 2 then 256 else 0
  | some _ => i.u32 0x3C

/-- REF_BYTES (R128, R138, R149). -/
def Image.refBytes (i : Image) (kernel : Nat) : Nat :=
  match i.slot with
  | none => if kernel = 1 ∨ kernel = 2 then 256 else 0
  | some _ => i.u32 0x40

/-- OUT_BYTES (R126, R138, R149). -/
def Image.outBytes (i : Image) (kernel : Nat) : Nat :=
  match i.slot with
  | none => (match kernel with | 1 => 32 | 2 => 1536 | 3 => 104 | 4 => 32 | _ => 2056)
  | some _ => i.u32 0x44

/-- WCET (R136, R138, R149). -/
def Image.wcet (i : Image) (kernel : Nat) : Nat :=
  match i.slot with
  | none => (match kernel with | 1 => 1600 | 2 => 2400 | 3 => 1200 | 4 => 900 | _ => 1100)
  | some _ => i.u32 0x48

/-! ## Region map (R143) -/

/-- A region entry. -/
structure Region where
  lineFirst : Nat
  lineLast : Nat
  colFirst : Nat
  colLast : Nat
  kernel : Nat
  flags : Nat
  paramLen : Nat
  paramOff : Nat
  deriving DecidableEq, Repr

/-- Region `g` of a Folio. -/
def region (b : Bank) (g : Nat) : Region :=
  let f := fun o n => b.le Obj.KN_REGION_MAP (32 * g + o) n
  ⟨f 0 4, f 4 4, f 8 2, f 10 2, f 12 1, f 13 1, f 14 2, f 16 4⟩

/-- The number of regions in a Folio's map. -/
def regionCount (b : Bank) : Nat := (b.blob Obj.KN_REGION_MAP).len / 32

/-- ENABLE, EVERY_LINE and RUN_NO_REF (R143). -/
def Region.enabled (r : Region) : Bool := bit r.flags 0
def Region.everyLine (r : Region) : Bool := bit r.flags 1
def Region.runNoRef (r : Region) : Bool := bit r.flags 2

/-- The parameter block of a region (R145). -/
def regionParams (b : Bank) (r : Region) : List Byte := b.bytes Obj.KN_PARAMS r.paramOff r.paramLen

/-- The image a region's KERNEL names in a Folio. -/
def imageOf (b : Bank) (kernel : Nat) : Image :=
  if kernel < 16 then ⟨none, []⟩ else ⟨some (kernel - 16), b.all (Obj.KN_KERNEL (kernel - 16))⟩

/-! ## Lines and tasks -/

/-- A line held by the Curator, in the window. -/
def State.lineRec (s : State) (n : Nat) : Option LineRec := s.cu.lines.find? (fun l => Nat.beq l.number n)

/-- A line of the window changed. -/
def State.onLine (s : State) (n : Nat) (f : LineRec → LineRec) : State :=
  { s with cu := { s.cu with lines := s.cu.lines.map (fun l => if l.number = n then f l else l) } }

/-- The KERNEL byte of a task's region. -/
def State.taskKernel (s : State) (t : Task) : Nat :=
  match s.lineRec t.number with
  | some l => (region l.bank t.region).kernel
  | none => 0

/-- The task that engine `e` may issue instructions of: running, not waiting, not ending. -/
def Engine.runs (g : Engine) : Bool := g.task.isSome && g.held.isNone && g.ending.isNone

/-- C_cut of a task: 1.25 times WCET, rounded half to even (R136). -/
def cutCycles (wcet : Nat) : Nat := divHalfEvenNat (5 * wcet) 4

/-! ## Registers (R109) -/

/-- Sixteen lanes of one halfword. -/
def splat (h : Half) : List Half := List.replicate 16 h

/-- s[x]: s0 reads 0. -/
def Engine.sreg (g : Engine) (x : Nat) : Word := if x = 0 then 0 else storeGet (fun _ => (0 : Word)) g.s x

/-- s[x] written; a write to s0 is discarded. -/
def Engine.setS (g : Engine) (x : Nat) (v : Word) : Engine :=
  if x = 0 then g else { g with s := storePut (fun _ => (0 : Word)) g.s x v }

/-- The sixteen lanes of a stored vector or accumulator. -/
def lanes16 {α : Type} (d : α) (l : List α) : List α := (List.range 16).map (fun i => l.getD i d)

/-- v[x]: 16 lanes. -/
def Engine.vreg (g : Engine) (x : Nat) : List Half := lanes16 0 (storeGet (fun _ => splat 0) g.v x)

/-- v[x] written. -/
def Engine.setV (g : Engine) (x : Nat) (v : List Half) : Engine := { g with v := storePut (fun _ => splat 0) g.v x v }

/-- Sixteen accumulator lanes of 0. -/
def zeroAcc : List Int := List.replicate 16 0

/-- a[x]: 16 lanes. -/
def Engine.areg (g : Engine) (x : Nat) : List Int := lanes16 0 (storeGet (fun _ => zeroAcc) g.a x)

/-- a[x] written. -/
def Engine.setA (g : Engine) (x : Nat) (v : List Int) : Engine := { g with a := storePut (fun _ => zeroAcc) g.a x v }

/-- p[x]: p0 reads 0xFFFF. -/
def Engine.preg (g : Engine) (x : Nat) : Half := if x = 0 then 0xFFFF else storeGet (fun _ => (0 : Half)) g.p x

/-- p[x] written; a write to p0 is discarded. -/
def Engine.setP (g : Engine) (x : Nat) (v : Half) : Engine :=
  if x = 0 then g else { g with p := storePut (fun _ => (0 : Half)) g.p x v }

/-- The lanes of a predicate. -/
def lanesOf (p : Half) : List Bool := (List.range 16).map (fun i => p.getLsbD i)

/-- Lanes merged under a predicate (R112). -/
def mergeLanes {α : Type} (p : Half) (new old : List α) : List α :=
  List.zipWith (fun (b : Bool) (x : α × α) => if b then x.1 else x.2) (lanesOf p) (new.zip old)

/-! ## Issue (R112, R135) -/

/-- Where the readiness of registers is kept. -/
def rS (x : Nat) : Nat := x
def rV (x : Nat) : Nat := 32 + x
def rA (x : Nat) : Nat := 64 + x
def rM (x : Nat) : Nat := 68 + x
def rP (x : Nat) : Nat := 72 + x

/-- The busy cycle in which an instruction with these sources issues. -/
def Engine.issueCycle (g : Engine) (srcs : List Nat) : Nat :=
  srcs.foldl (fun c k => Nat.max c (storeGet (fun _ => 0) g.ready k)) (g.cycles + 1)

/-- An instruction issued: its cycle, `extra` further cycles, and its results ready `L` cycles after issue; a write to s0 or p0 is discarded, so
nothing waits for it (R109). -/
def Engine.issued (g : Engine) (srcs : List Nat) (extra : Nat) (dsts : List (Nat × Nat)) : Engine :=
  let c := g.issueCycle srcs
  { g with cycles := c + extra, ready := (dsts.filter (fun p => !(Nat.beq p.1 (rS 0) || Nat.beq p.1 (rP 0)))).foldl (fun m p => storePut (fun _ => 0) m p.1 (c + p.2)) g.ready }

/-! ## Program counter and loops (R120) -/

/-- The program counter after the instruction at `x` when it does not branch, with the active loops. -/
def loopNext (x : Nat) : List LoopFrame → Nat × List LoopFrame
  | [] => (x + 1, [])
  | f :: r =>
    if x = f.last then
      if 1 < f.left then (f.first, { f with left := f.left - 1 } :: r)
      else loopNext x r
    else (x + 1, f :: r)

/-- The instruction done: the next one follows. -/
def Engine.next (g : Engine) : Engine :=
  let (pc, l) := loopNext g.pc g.loops
  { g with pc := pc, loops := l }

/-- A target outside an active loop's body ends that loop and every loop inside it. -/
def loopsAt (target : Nat) : List LoopFrame → List LoopFrame
  | [] => []
  | f :: r =>
    let rest := loopsAt target r
    if rest.length = r.length ∧ f.first ≤ target ∧ target ≤ f.last then f :: r else rest

/-- A branch taken. -/
def Engine.jump (g : Engine) (target : Nat) : Engine := { g with pc := target, loops := loopsAt target g.loops }

/-- PC + 1 + sext(imm16), which the loader keeps within the code (R140). -/
def relTarget (pc : Nat) (imm : BitVec 16) : Nat := ((pc : Int) + 1 + imm.toInt).toNat

/-! ## Instructions on registers -/

/-- An instruction of engine `e`: nothing where the engine runs no task, or past C_cut (R136). `f` is its effect, given the
registers as they stood. -/
def State.instr (s : State) (e : Nat) (srcs : List Nat) (extra : Nat) (dsts : List (Nat × Nat)) (f : Engine → Engine) :
    State :=
  let g := s.engine e
  match g.task with
  | none => s
  | some t =>
    if g.runs && Nat.ble (g.issueCycle srcs) (cutCycles (t.image.wcet (s.taskKernel t))) then
      s.setEngine e (f (g.issued srcs extra dsts))
    else s

/-- A scalar operation: s[rd] from two scalars, with latency `l`. -/
def State.salu (s : State) (e rd ra rb l : Nat) (f : Word → Word → Word) : State :=
  s.instr e [rS ra, rS rb] 0 [(rS rd, l)] (fun g => (g.setS rd (f (g.sreg ra) (g.sreg rb))).next)

/-- A scalar operation with an immediate. -/
def State.sImm (s : State) (e rd ra : Nat) (f : Word → Word) : State :=
  s.instr e [rS ra] 0 [(rS rd, 1)] (fun g => (g.setS rd (f (g.sreg ra))).next)

/-- A lane operation on two vectors under a predicate (R112, R115). -/
def State.valu (s : State) (e rd ra rb pg : Nat) (f : Half → Half → Half) : State :=
  s.instr e [rV ra, rV rb, rP pg] 0 [(rV rd, 2)] (fun g =>
    (g.setV rd (mergeLanes (g.preg pg) (List.zipWith f (g.vreg ra) (g.vreg rb)) (g.vreg rd))).next)

/-- A lane operation on one vector with an immediate. -/
def State.vImm (s : State) (e rd ra pg : Nat) (f : Half → Half) : State :=
  s.instr e [rV ra, rP pg] 0 [(rV rd, 2)] (fun g =>
    (g.setV rd (mergeLanes (g.preg pg) ((g.vreg ra).map f) (g.vreg rd))).next)

/-- A conditional branch on two scalars. -/
def State.branch (s : State) (e rd ra : Nat) (imm : BitVec 16) (c : Word → Word → Bool) : State :=
  let g := s.engine e
  let taken := c (g.sreg rd) (g.sreg ra)
  s.instr e [rS rd, rS ra] (b2n taken) [] (fun g => if taken then g.jump (relTarget g.pc imm) else g.next)

/-- A branch on a predicate. -/
def State.branchP (s : State) (e p : Nat) (imm : BitVec 16) (c : Half → Bool) : State :=
  let g := s.engine e
  let taken := c (g.preg p)
  s.instr e [rP p] (b2n taken) [] (fun g => if taken then g.jump (relTarget g.pc imm) else g.next)

/-- A reduction of the active lanes of a vector into a scalar (R116). -/
def State.vred (s : State) (e rd ra pg : Nat) (f : List Half → Int) : State :=
  s.instr e [rV ra, rP pg] 0 [(rS rd, 4)] (fun g =>
    let act := ((lanesOf (g.preg pg)).zip (g.vreg ra)).filterMap (fun x => if x.1 then some x.2 else none)
    (g.setS rd (BitVec.ofInt 32 (f act))).next)

/-- A predicate operation on two predicates. -/
def State.predOp (s : State) (e rd ra rb : Nat) (f : Half → Half → Half) : State :=
  s.instr e [rP ra, rP rb] 0 [(rP rd, 1)] (fun g => (g.setP rd (f (g.preg ra) (g.preg rb))).next)

/-- The limits of an accumulator lane (R117). -/
def acc40Max : Int := 549755813887
def acc40Min : Int := -549755813888

/-- Bit `k` of ESTAT set, which is sticky within a task (R123). -/
def Engine.stick (g : Engine) (k : Nat) (c : Bool) : Engine := if c then { g with estat := withBit g.estat k true } else g

/-- An accumulator operation (R117): each active lane's new value, limited, with ACC_SAT; 1 cycle into the same
accumulator, 4 to its readers. -/
def State.vmac (s : State) (e rd pg : Nat) (srcs : List Nat) (f : Engine → List Int) : State :=
  s.instr e (rP pg :: rM rd :: srcs) 0 [(rA rd, 4), (rM rd, 1)] (fun g =>
    let raw := f g
    let lim := raw.map (clampInt acc40Min acc40Max)
    let sat := ((lanesOf (g.preg pg)).zip raw).any (fun x => x.1 && (decide (acc40Max ≤ x.2) || decide (x.2 ≤ acc40Min)))
    ((g.setA rd (mergeLanes (g.preg pg) lim (g.areg rd))).stick 0 sat).next)

/-- The lanes of two vectors combined into an accumulator's. -/
def Engine.macLanes (g : Engine) (rd ra rb : Nat) (f : Int → Half → Half → Int) : List Int :=
  List.zipWith (fun x (p : Half × Half) => f x p.1 p.2) (g.areg rd) ((g.vreg ra).zip (g.vreg rb))

/-- An accumulator lane narrowed (R118). -/
def narrow (k : Nat) (signed : Bool) (x : Int) : Half :=
  let q := shrHalfEven x k
  BitVec.ofInt 16 (if signed then clampInt (-32768) 32767 q else clampInt 0 65535 q)

/-! ## LDM (R109, R110, R129) -/

/-- The low 16 bits of a computed address. -/
def ldmAddr (base : Word) (off : Int) : Nat := fromSigned 16 ((base.toNat : Int) + off)

/-- May a byte be loaded? -/
def loadable (limit a : Nat) : Bool := Nat.blt a limit || Nat.ble 0xFC00 a

/-- A byte of LDM: the parameter block from 0xFC00, 0 beyond it and in the reserved region. -/
def Engine.ldmByte (g : Engine) (a : Nat) : Byte :=
  if 0xFC00 ≤ a then (if a < 0xFF80 then g.param.getD (a - 0xFC00) 0 else 0)
  else memRead (fun _ => 0) g.ldm a

/-- `n` bytes of LDM as a value. -/
def Engine.ldmLe (g : Engine) (a n : Nat) : Nat := leNat ((List.range n).map (fun i => g.ldmByte ((a + i) % 65536)))

/-- Bytes written to LDM. -/
def Engine.ldmWrite (g : Engine) (a : Nat) (l : List Byte) : Engine :=
  { g with ldm := memWriteN (fun _ => 0) g.ldm a l }

/-- Tag `t` of a task's fetches. -/
def Engine.tag (g : Engine) (t : Nat) : Option Fetch := storeGet (fun _ => none) g.tags t

/-- Tag `t` set. -/
def Engine.setTag (g : Engine) (t : Nat) (f : Fetch) : Engine :=
  { g with tags := storePut (fun _ => none) g.tags t (some f) }

/-- The outstanding fetches of a task. -/
def Engine.outstanding (g : Engine) : List Fetch :=
  g.tags.filterMap (fun p => match p.2 with
    | some f => if f.done then none else some f
    | none => none)

/-- Does a range of LDM touch the landing area of an outstanding tag (R129)? -/
def Engine.touches (g : Engine) (a n : Nat) : Bool :=
  g.outstanding.any (fun f => Nat.blt a (f.landing + f.length) && Nat.blt f.landing (a + n))

/-- The 16 halfword addresses of a vector access. -/
def vecAddrs (base : Nat) : List Nat := (List.range 16).map (fun i => (base + 2 * i) % 65536)

/-! ## Task values (R122) -/

/-- The words of the header of the task's line, with PARTIAL 0. -/
def taskWord (l : LineRec) (k : Nat) : Nat := l.head.words.getD k 0

/-- UNCAL bits of a task (R122): bit j for each column that R101 makes uncalibrated. -/
def LineRec.taskUncal (l : LineRec) (t : Task) : Nat :=
  let m := Nat.max 1 (l.bank.num Obj.PX_COL_BIN)
  bitsToNat ((List.range t.ncol).map (fun j => (List.range m).any (fun i => l.cal.uncal ((t.col0 + j) * m + i))))

/-- ⌈TASK_NCOL / 16⌉. -/
def Task.nvec (t : Task) : Nat := ceilDiv t.ncol 16

/-- The value that SGET returns (R122). -/
def State.taskValue (s : State) (e : Nat) (g : Engine) (t : Task) (sel : Nat) : Nat :=
  match s.lineRec t.number with
  | none => 0
  | some l =>
    match sel with
    | 0x08 => t.col0
    | 0x09 => t.ncol
    | 0x0A => (enabledBands l.bank).length
    | 0x0B => t.nvec
    | 0x0C => t.region
    | 0x0D => l.ref.getD 0xFFFFFFFF
    | 0x0E => e
    | 0x0F => g.cycles
    | 0x10 => l.taskUncal t % 2 ^ 32
    | 0x11 => l.taskUncal t / 2 ^ 32
    | 0x12 => g.estat
    | 0x13 => g.fetched
    | 0x14 => g.outBytes
    | k => taskWord l k

/-! ## LINE and REF (R124, R125) -/

/-- The vectors a task's LINE port delivers. -/
def State.lineVectors (s : State) (t : Task) : Nat :=
  match s.lineRec t.number with
  | some l => l.samples.length * t.nvec
  | none => 0

/-- Vector `k` of a task's LINE port, band-major. -/
def State.lineVector (s : State) (t : Task) (k : Nat) : List Half :=
  match s.lineRec t.number with
  | some l =>
    let band := l.samples.getD (k / t.nvec) []
    let j := k % t.nvec * 16
    (List.range 16).map (fun i => if j + i < t.ncol then band.getD (t.col0 + j + i) 0xFFFF else 0xFFFF)
  | none => splat 0xFFFF

/-- 32 bytes of LDM as a vector. -/
def Engine.ldmVec (g : Engine) (a : Nat) : List Half :=
  (vecAddrs a).map (fun x => BitVec.ofNat 16 (g.ldmLe x 2))

/-- POP REF (R125). -/
def State.popRef (s : State) (e rd pg : Nat) : State :=
  s.instr e [rP pg] 0 [(rV rd, 2)] (fun g =>
    let under := Nat.blt g.refLen (g.refPos + 32)
    let new := if under then splat 0xFFFF else g.ldmVec (g.refAt + g.refPos)
    let g1 := { g with refPos := if under then g.refPos else g.refPos + 32 }
    ((g1.setV rd (mergeLanes (g.preg pg) new (g.vreg rd))).stick 2 under).next)

end Sys2Proof.Machine
end

