-- ==== Sys2Proof/Machine/Numeric.lean ====
section
/-! DEFINITION. Exact and fixed-point arithmetic of the built-in functions (06 R156, R159, R162): floats of 32 bits,
roots, CIELAB, CIEDE2000 and logarithms. Where a rule bounds an error, the value lies in the bound and is otherwise
left open; where it states a formula and a rounding, the formula is evaluated to 2^-90 before it is rounded (log entry
11). -/

namespace Sys2Proof.Machine

/-! ## Rational helpers -/

/-- A rational rounded half to even to an integer. -/
def ratRound (q : Rat) : Int := divHalfEven q.num q.den

/-- The value of a 32-bit float (IEEE 754 binary32); a value that is not finite is open. -/
def f32Value (w : Nat) : Rat :=
  let e := field w 30 23
  let m := field w 22 0
  let mag : Rat :=
    if e = 0 then mkRat m (2 ^ 149)
    else if e < 150 then mkRat ((2 ^ 23 + m : Nat) : Int) (2 ^ (150 - e))
    else (((2 ^ 23 + m) * 2 ^ (e - 150) : Nat) : Rat)
  if e = 255 then ((Config.notFinite (BitVec.ofNat 32 w) : Int) : Rat)
  else if bit w 31 then -mag else mag

/-- Is an integer an exact cube? Its root if it is. -/
def cubeRoot? (n : Nat) : Option Nat :=
  let r := rootBits 3 n (Nat.log2 n / 3 + 1) 0
  if r ^ 3 = n then some r else none

/-- The cube root of a positive rational: exact where it is rational, else rounded down to 2^-128. -/
def cbrt (q : Rat) : Rat :=
  match cubeRoot? q.num.toNat, cubeRoot? q.den with
  | some a, some b => mkRat a b
  | _, _ =>
    let n := q.num.toNat * 2 ^ 384 / q.den
    mkRat (rootBits 3 n (Nat.log2 n / 3 + 1) 0) (2 ^ 128)

/-- f of R156. -/
def labF (t : Rat) : Rat := if mkRat 216 24389 < t then cbrt t else t * mkRat 841 108 + mkRat 4 29

/-- A colour in 0.01: L*, a*, b*. -/
abbrev Lab := Int × Int × Int

/-- L*, a* and b* of X, Y and Z, each rounded half to even to 0.01 (R156). -/
def labOf (x y z : Rat) : Lab :=
  (ratRound (11600 * labF y - 1600), ratRound (50000 * (labF x - labF y)), ratRound (20000 * (labF y - labF z)))

/-- The colour of the band means (R156): `m` gives a row of the colour matrix, `mean` the mean of a band. -/
def labOfMeans (m : Nat → Nat → Rat) (bands : List Nat) (mean : Nat → Rat) : Lab :=
  let dot := fun r => bands.foldl (fun a b => a + m r b * (mean b / 32768)) (0 : Rat)
  labOf (dot 0) (dot 1) (dot 2)

/-- The square root of a rational in 0.01, rounded half to even. -/
def rootCents (q : Rat) : Nat :=
  let n := sqrtFloor (10000 * q.num.toNat / q.den)
  let h := (2 * n + 1) * (2 * n + 1) * q.den
  let x := 4 * 10000 * q.num.toNat
  if h < x then n + 1 else if x < h then n else if n % 2 = 0 then n else n + 1

/-- The Euclidean distance in CIELAB, in 0.01, of a colour in 0.01 and a reference entry (R162). -/
def deltaEab (c : Lab) (l a b : Rat) : Nat :=
  let d := fun (x : Int) (y : Rat) => ((x : Rat) / 100 - y) * ((x : Rat) / 100 - y)
  rootCents (d c.1 l + d c.2.1 a + d c.2.2 b)

/-! ## Fixed point with 96 fraction bits -/

/-- 1 in fixed point. -/
def fxOne : Int := 2 ^ 96

/-- A rational in fixed point. -/
def fxOf (q : Rat) : Int := (q.num * fxOne).fdiv q.den

def fxMul (a b : Int) : Int := (a * b).fdiv fxOne
def fxDiv (a b : Int) : Int := if b = 0 then 0 else (a * fxOne).fdiv b
def fxSqrt (a : Int) : Int := (sqrtFloor (a * fxOne).toNat : Nat)

/-- A power series by its terms: `n` terms of a recurrence. -/
def fxSeries (next : Nat → Int → Int) : Nat → Nat → Int → Int → Int
  | 0, _, _, acc => acc
  | n + 1, k, t, acc => fxSeries next n (k + 1) (next k t) (acc + t)

/-- The cosine of an angle in radians. -/
def fxCos (x : Int) : Int :=
  let x2 := fxMul x x
  fxSeries (fun k t => -((fxMul t x2) / ((2 * k + 1) * (2 * k + 2)))) 90 0 fxOne 0

/-- The sine of an angle in radians. -/
def fxSin (x : Int) : Int :=
  let x2 := fxMul x x
  fxSeries (fun k t => -((fxMul t x2) / ((2 * k + 2) * (2 * k + 3)))) 90 0 x 0

/-- The sum of x^(2k+1) * s^k / (2k+1), for s = -1 the arc tangent and for s = 1 its hyperbolic form. -/
def fxOdd (s : Int) (x : Int) : Int :=
  let x2 := s * fxMul x x
  (fxSeries (fun k (t : Int) => (fxMul t x2) * ((2 * k + 1 : Nat) : Int) / ((2 * k + 3 : Nat) : Int)) 70 0 x 0)

/-- pi, by Machin's formula. -/
def fxPi : Int := 16 * fxOdd (-1) (fxOne / 5) - 4 * fxOdd (-1) (fxOne / 239)

/-- The arc tangent of 0..1: the argument halved twice, then the series. -/
def fxAtan (x : Int) : Int :=
  let half := fun x => fxDiv x (fxOne + fxSqrt (fxOne + fxMul x x))
  4 * fxOdd (-1) (half (half x))

/-- The angle of (a, b) in radians, 0 to 2 pi. -/
def fxAngle (a b : Int) : Int :=
  let u := if a < 0 then -a else a
  let v := if b < 0 then -b else b
  if u = 0 ∧ v = 0 then 0
  else
    let q := if v ≤ u then fxAtan (fxDiv v u) else fxPi / 2 - fxAtan (fxDiv u v)
    if 0 ≤ a then (if 0 ≤ b then q else 2 * fxPi - q) else (if 0 ≤ b then fxPi - q else fxPi + q)

/-- `e` to the power `-y`, for y from 0 on. -/
def fxExpNeg (y : Int) : Int :=
  let z := y / 256
  let e := fxSeries (fun k t => -((fxMul t z) / ((k + 1 : Nat) : Int))) 40 0 fxOne 0
  let sq := fun x => fxMul x x
  sq (sq (sq (sq (sq (sq (sq (sq e)))))))

/-- The natural logarithm of a positive number of fixed point. -/
def fxLn (x : Int) : Int :=
  let n : Int := (Nat.log2 x.toNat : Int) - 96
  let m := if 0 ≤ n then x / 2 ^ n.toNat else x * 2 ^ (-n).toNat
  let ln := fun m => 2 * fxOdd 1 (fxDiv (m - fxOne) (m + fxOne))
  n * ln (2 * fxOne) + ln m

/-! ## CIEDE2000 (R156) -/

/-- Degrees in radians. -/
def fxDeg (d : Int) : Int := d * fxPi / 180

/-- x^7. -/
def fxPow7 (x : Int) : Int := let s := fxMul x x; fxMul (fxMul s (fxMul s s)) x

/-- The root of C^7 / (C^7 + 25^7). -/
def fxRootC7 (c : Int) : Int :=
  let p := fxPow7 c
  fxSqrt (fxDiv p (p + 6103515625 * fxOne))

/-- The CIEDE2000 difference of ISO/CIE 11664-6 in fixed point, kC = kH = 1 and kL = kl / 16. -/
def ciede2000 (p q : Lab) (kl : Nat) : Int :=
  let f := fun (x : Int) => x * fxOne / 100
  let l1 := f p.1; let a1 := f p.2.1; let b1 := f p.2.2
  let l2 := f q.1; let a2 := f q.2.1; let b2 := f q.2.2
  let len := fun a b => fxSqrt (fxMul a a + fxMul b b)
  let cm := (len a1 b1 + len a2 b2) / 2
  let g := (fxOne - fxRootC7 cm) / 2
  let a1' := fxMul (fxOne + g) a1
  let a2' := fxMul (fxOne + g) a2
  let c1 := len a1' b1
  let c2 := len a2' b2
  let h1 := fxAngle a1' b1
  let h2 := fxAngle a2' b2
  let grey := c1 = 0 ∨ c2 = 0
  let d := h2 - h1
  let dh := if grey then 0 else if fxPi < d then d - 2 * fxPi else if d < -fxPi then d + 2 * fxPi else d
  let far := fxPi < d ∨ d < -fxPi
  let hm := if grey then h1 + h2
    else if far then (if h1 + h2 < 2 * fxPi then (h1 + h2 + 2 * fxPi) / 2 else (h1 + h2 - 2 * fxPi) / 2)
    else (h1 + h2) / 2
  let dl := l2 - l1
  let dc := c2 - c1
  let dhh := 2 * fxMul (fxSqrt (fxMul c1 c2)) (fxSin (dh / 2))
  let lm := (l1 + l2) / 2 - 50 * fxOne
  let cmm := (c1 + c2) / 2
  let t := fxOne - 17 * fxCos (hm - fxDeg 30) / 100 + 24 * fxCos (2 * hm) / 100 + 32 * fxCos (3 * hm + fxDeg 6) / 100 -
    20 * fxCos (4 * hm - fxDeg 63) / 100
  let u := fxDiv (fxMul (hm - fxDeg 275) (180 * fxOne)) (25 * fxPi)
  let theta := fxMul (fxDeg 30) (fxExpNeg (fxMul u u))
  let rc := 2 * fxRootC7 cmm
  let lm2 := fxMul lm lm
  let sl := fxOne + 15 * fxDiv lm2 (fxSqrt (20 * fxOne + lm2)) / 1000
  let sc := fxOne + 45 * cmm / 1000
  let sh := fxOne + 15 * fxMul cmm t / 1000
  let rt := -(fxMul (fxSin (2 * theta)) rc)
  let x := fxDiv dl ((kl : Int) * sl / 16)
  let y := fxDiv dc sc
  let z := fxDiv dhh sh
  fxSqrt (fxMul x x + fxMul y y + fxMul z z + fxMul rt (fxMul y z))

/-- The integers at or above and at or below a fixed-point number. -/
def fxCeil (x : Int) : Int := -((-x).fdiv fxOne)
def fxFloor (x : Int) : Int := x.fdiv fxOne

/-- The Delta E00 in 0.01 that the tile gives: within 0.02 of the exact value (R156). -/
def deltaE00 (p q : Lab) (kl : Nat) : Nat :=
  let e := 100 * ciede2000 p q kl
  (clampInt (Max.max 0 (fxCeil (e - 2 * fxOne))) (fxFloor (e + 2 * fxOne)) (Config.de00 p q kl)).toNat

/-! ## Density (R159) -/

/-- The density of a ratio in 0.001: limited to -1.000 .. 4.000, within 0.002 of the exact logarithm where the ratio lies
from 0.0001 to 2.0, and 4.000 for a ratio of 0 or less. -/
def densityOf (r : Rat) : Int :=
  if r ≤ 0 then 4000
  else
    let d := -(1000 * fxDiv (fxLn (fxOf r)) (fxLn (10 * fxOne)))
    let v := if mkRat 1 10000 ≤ r ∧ r ≤ 2 then
        clampInt (fxCeil (d - 2 * fxOne)) (fxFloor (d + 2 * fxOne)) (Config.density r.num r.den)
      else divHalfEven d fxOne.toNat
    clampInt (-1000) 4000 v

end Sys2Proof.Machine
end

