-- ==== Sys2Proof/Machine/Builtin.lean ====
section
/-! DEFINITION. The five built-in functions (06 R150-R172): what a task of the built-in image does to its part's state and
what it pushes, raises and requests. Nothing here reads or writes the tile's state. -/

namespace Sys2Proof.Machine

/-- What a built-in task works on. `sample b j` is the sample of band `b` at output column `j` where it is valid and the column is
calibrated (R151); `ref j` the reference colour and tolerance class of a column that has one (R219, R220); `matrix` the colour matrix in
use; `free` numbers open values. -/
structure Job where
  kernel : Nat
  params : List Byte
  lineFirst : Nat
  lineLast : Nat
  region : Nat
  strip : Nat
  col0 : Nat
  ncol : Nat
  line : BitVec 32
  number : Nat
  index : Nat
  starts : Bool
  before : Nat
  pitch : Nat
  bands : List Nat
  stripFirst : Nat
  stripLast : Nat
  sample : Nat → Nat → Option Nat
  ref : Nat → Option (Rat × Rat × Rat × Nat)
  matrix : Nat → Nat → Rat
  free : Nat

/-- What a built-in task did: the new part, the pushes in order, the crops named in them by byte offset, the events as (line, payload), the crop
requests with their byte offsets, the crops whose blobs closed, the mark. -/
structure Verdict where
  part : Part
  out : List Byte := []
  crops : List (Nat × CropKey) := []
  events : List (Nat × Nat) := []
  requests : List (Nat × CropKey) := []
  closed : List CropKey := []
  mark : Option Nat := none
  deriving DecidableEq, Repr

/-- Bytes pushed. -/
def Verdict.push (v : Verdict) (l : List Byte) : Verdict := { v with out := v.out ++ l }

/-- An event, where the parameter names a line (R155 and the like: 0xFF raises none). -/
def Verdict.raise (v : Verdict) (line payload : Nat) : Verdict :=
  if line < 64 then { v with events := v.events ++ [(line, Nat.min payload 65535)] } else v

/-- A parameter of a job. -/
def Job.par (j : Job) (o n : Nat) : Nat := leAt j.params o n

/-- The columns of a job. -/
def Job.cols (j : Job) : List Nat := (List.range j.ncol).map (j.col0 + ·)

/-- The samples of some bands at a column, if every one is valid (R151). -/
def Job.pixel (j : Job) (bands : List Nat) (c : Nat) : Option (List Nat) := bands.mapM (fun b => j.sample b c)

/-- The bands with a non-zero column in the colour matrix in use (R151). -/
def Job.colourBands (j : Job) : List Nat :=
  (List.range 8).filter (fun b => decide (j.matrix 0 b ≠ 0) || decide (j.matrix 1 b ≠ 0) || decide (j.matrix 2 b ≠ 0))

/-- An S16 of a record limited to its range (R157). -/
def s16 (v : Int) : List Byte := leBytes 2 (fromSigned 16 (clampInt (-32768) 32767 v))

/-! ## COLOUR and DENSITY (R155-R160) -/

/-- The sums of a patch with one line's used pixels added. -/
def Part.accumulate (p : Part) (bands : List Nat) (px : List (List Nat × Rat × Rat × Rat)) (line : BitVec 32) : Part :=
  let base := if p.sums.length = bands.length then p.sums else bands.map (fun _ => 0)
  { p with
    sums := px.foldl (fun a x => List.zipWith (· + ·) a x.1) base
    refL := px.foldl (fun a x => a + x.2.1) p.refL
    refA := px.foldl (fun a x => a + x.2.2.1) p.refA
    refB := px.foldl (fun a x => a + x.2.2.2) p.refB
    pixels := p.pixels + px.length
    firstLine := if p.open_ then p.firstLine else line
    lines := p.lines + 1
    open_ := true }

/-- A patch or set closed: its sums are empty again. -/
def Part.emptied (p : Part) : Part :=
  { p with open_ := false, sums := [], refL := 0, refA := 0, refB := 0, pixels := 0, firstLine := 0, lines := 0, edges := [] }

/-- The measured and reference colours of a patch; `none` without a pixel (R156, R157). -/
def Job.patchLab (j : Job) (p : Part) : Option (Lab × Lab) :=
  if p.pixels = 0 then none
  else
    let bands := j.colourBands
    let mean := fun b => mkRat (p.sums.getD (bands.idxOf b) 0 : Nat) p.pixels
    let avg := fun (x : Rat) => ratRound (100 * x / (p.pixels : Nat))
    some (labOfMeans j.matrix bands mean, (avg p.refL, avg p.refA, avg p.refB))

/-- A COLOUR record of the pixels summed so far (R157). `extra` holds PATCH and, in a record without a verdict, ABANDONED or CUT. -/
def Job.colourRecord (j : Job) (v : Verdict) (extra : Nat) (judged : Bool) : Verdict :=
  let p := v.part
  let labs := j.patchLab p
  let few := p.pixels < j.par 6 2
  let de := match labs with
    | some (m, r) => deltaE00 m r (j.par 2 1)
    | none => 0
  let verdict := judged && !(decide few)
  let fail := verdict && Nat.blt (j.par 4 2) de
  let status := extra + (if judged && decide few then 2 else 0) + b2n fail
  let lab := fun (l : Lab) => s16 l.1 ++ s16 l.2.1 ++ s16 l.2.2
  let (m, r) := labs.getD ((0, 0, 0), (0, 0, 0))
  let rec32 := leBytes 1 1 ++ leBytes 1 status ++ leBytes 2 (if verdict then Nat.min de 65535 else 0) ++ leBytes 4 p.pixels ++
    lab m ++ lab r ++ leBytes 4 p.firstLine.toNat ++ leBytes 4 p.lines ++ zeros 4
  let v1 := v.push rec32
  if fail then v1.raise (j.par 0 1) de else v1

/-- The density channels in use. -/
def Job.channels (j : Job) : List Nat := List.range (j.par 1 1)

/-- WEIGHT of a channel and band (R158). -/
def Job.weight (j : Job) (c b : Nat) : Nat := j.par (8 + 24 * c + 2 * b) 2

/-- The bands DENSITY reads (R151). -/
def Job.densityBands (j : Job) : List Nat :=
  (List.range 8).filter (fun b => j.channels.any (fun c => Nat.blt 0 (j.weight c b)))

/-- The density of a channel over the pixels summed so far (R159). -/
def Job.channelDensity (j : Job) (p : Part) (c : Nat) : Int :=
  let bands := j.densityBands
  let num := bands.foldl (fun a b => a + j.weight c b * p.sums.getD (bands.idxOf b) 0) 0
  let den := bands.foldl (fun a b => a + j.weight c b) 0
  let w := if j.par 4 1 = 0 then 32768 else j.par (8 + 24 * c + 20) 2
  densityOf (mkRat num (den * p.pixels * w))

/-- A DENSITY record (R160); densities without a pixel read 0 as R157 gives for a record without a verdict. -/
def Job.densityRecord (j : Job) (v : Verdict) (extra : Nat) (judged : Bool) : Verdict :=
  let p := v.part
  let few := p.pixels < j.par 2 2
  let d := fun c => if p.pixels = 0 then (0 : Int) else j.channelDensity p c
  let off := fun c => (d c - (j.par (8 + 24 * c + 16) 2 : Int)).natAbs
  let tol := fun c => j.par (8 + 24 * c + 18) 2
  let verdict := judged && !(decide few)
  let bad := j.channels.filter (fun c => Nat.blt 0 (tol c) && Nat.blt (tol c) (off c))
  let fail := verdict && !bad.isEmpty
  let status := extra + (if judged && decide few then 2 else 0) + b2n fail
  let rec32 := leBytes 1 4 ++ leBytes 1 status ++ zeros 2 ++ leBytes 4 p.pixels ++ leBytes 4 p.firstLine.toNat ++ leBytes 4 p.lines ++
    (List.range 4).flatMap (fun c => s16 (if j.channels.contains c then d c else 0)) ++ zeros 8
  let v1 := v.push rec32
  let worst := bad.foldl (fun m c => match m with
    | none => some c
    | some x => if off x - tol x < off c - tol c then some c else some x) none
  match worst with
  | some c => if fail then v1.raise (j.par 0 1) (c * 16384 + Nat.min (off c) 16383) else v1
  | none => v1

/-- Has a repeat begun since the part last judged (R157, R168)? -/
def Job.newRepeat (j : Job) (p : Part) : Bool :=
  j.starts || (match p.lastIndex with | some i => Nat.ble j.index i | none => false)

/-- A patch function's task: the open patch closed CUT or ABANDONED where due, the line judged, the record at LINE_LAST (R150, R157, R160).
`rec` writes a record; `bit2` is PATCH of COLOUR. -/
def Job.patch (j : Job) (v : Verdict) (bands : List Nat) (needRef : Bool) (bit2 : Nat)
    (record : Verdict → Nat → Bool → Verdict) : Verdict :=
  let v1 := if v.part.open_ && v.part.cutDue then
      let w := record v (16 + bit2) false
      { w with part := w.part.emptied }
    else if v.part.open_ && j.newRepeat v.part then
      let w := record v (8 + bit2) false
      { w with part := w.part.emptied }
    else v
  let px := j.cols.filterMap (fun c => match j.pixel bands c with
    | none => none
    | some l => if needRef then
        (match j.ref c with
          | some (a, b, d, k) => if k < 15 then some (l, a, b, d) else none
          | none => none)
      else some (l, 0, 0, 0))
  let v2 := { v1 with part := v1.part.accumulate bands px j.line }
  if j.index = j.lineLast then
    let w := record v2 bit2 true
    { w with part := w.part.emptied }
  else v2

/-- A COLOUR task. In LINE mode the mean covers the task's columns (R156). -/
def Job.colour (j : Job) (v : Verdict) : Verdict :=
  let bands := j.colourBands
  if j.par 1 1 = 1 then j.patch v bands true 4 j.colourRecord
  else
    let px := j.cols.filterMap (fun c => match j.pixel bands c, j.ref c with
      | some l, some (a, b, d, k) => if k < 15 then some (l, a, b, d) else none
      | _, _ => none)
    let w := j.colourRecord { v with part := v.part.emptied.accumulate bands px j.line } 0 true
    { w with part := w.part.emptied }

/-! ## DEFECT (R161-R165) -/

/-- The defect pixels of the line, as (column, Delta E in 0.01), ascending (R162). -/
def Job.defects (j : Job) : List (Nat × Nat) :=
  let bands := j.colourBands
  j.cols.filterMap (fun c => match j.pixel bands c, j.ref c with
    | some l, some (rl, ra, rb, k) =>
      if k < 15 then
        let lab := labOfMeans j.matrix bands (fun b => ((l.getD (bands.idxOf b) 0 : Nat) : Rat))
        let de := deltaEab lab rl ra rb
        if 25 * j.par (8 + k) 1 < de then some (c, de) else none
      else none
    | _, _ => none)

/-- A run of adjacent defect pixels. -/
structure DefectRun where
  first : Nat
  last : Nat
  area : Nat
  maxDe : Nat
  sumDe : Nat
  deriving DecidableEq, Repr

/-- Runs of adjacent columns, ascending. -/
def runsOf : List (Nat × Nat) → List DefectRun
  | [] => []
  | (c, d) :: r => match runsOf r with
    | x :: t => if c + 1 = x.first then { x with first := c, area := x.area + 1, maxDe := Nat.max x.maxDe d, sumDe := x.sumDe + d } :: t
      else ⟨c, c, 1, d, d⟩ :: x :: t
    | [] => [⟨c, c, 1, d, d⟩]

/-- A blob of one run on this line. -/
def DefectRun.blob (r : DefectRun) (line : BitVec 32) : Blob8 :=
  { area := r.area, firstLine := line, lastLine := line, lines := 1, colMin := r.first, colMax := r.last, maxDe := r.maxDe
    sumDe := r.sumDe, runs := [(r.first, r.last)], hit := false, keys := [] }

/-- Two blobs as one. -/
def Blob8.merge (a b : Blob8) : Blob8 :=
  { area := a.area + b.area
    firstLine := if (b.firstLine - a.firstLine).getLsbD 31 then b.firstLine else a.firstLine
    lastLine := a.lastLine
    lines := Nat.max a.lines b.lines
    colMin := Nat.min a.colMin b.colMin, colMax := Nat.max a.colMax b.colMax
    maxDe := Nat.max a.maxDe b.maxDe, sumDe := a.sumDe + b.sumDe
    runs := a.runs ++ b.runs, hit := a.hit || b.hit, keys := a.keys ++ b.keys }

/-- Does a run touch a blob's runs of the previous judged line, at a column differing by at most 1? -/
def Blob8.touches (b : Blob8) (r : DefectRun) : Bool :=
  b.runs.any (fun x => Nat.ble x.1 (r.last + 1) && Nat.ble r.first (x.2 + 1))

/-- A blob extended to this line. -/
def Blob8.extended (old : Blob8) (new : Blob8) : Blob8 :=
  { (old.merge new) with lastLine := new.lastLine, lines := old.lines + 1 }

/-- The blobs grown by this line's runs: each pair is a blob as it stood (`none` for a new one) with what this line adds to it. A run that joins
several blobs merges them in the place of the oldest (R163; log entry 38). -/
def growBlobs (line : BitVec 32) (runs : List DefectRun) (old : List Blob8) : List (Option Blob8 × Option Blob8) × Bool :=
  runs.foldl (fun acc r =>
    let hit := fun (x : Option Blob8 × Option Blob8) => match x.1 with | some b => b.touches r | none => false
    let hits := acc.1.filter hit
    let older := acc.1.takeWhile (fun x => !(hit x))
    let rest := (acc.1.drop older.length).filter (fun x => !(hit x))
    if hits = [] then
      if acc.1.length < 32 then (acc.1 ++ [(none, some (r.blob line))], acc.2) else (acc.1, true)
    else
      let olds := hits.filterMap Prod.fst
      let news := hits.filterMap Prod.snd ++ [r.blob line]
      let m := fun (l : List Blob8) => match l with
        | [] => none
        | b :: t => some (t.foldl Blob8.merge b)
      (older ++ (m olds, m news) :: rest, acc.2)) (old.map (fun b => (some b, none)), false)

/-- The record of a closed blob (R164), CROP_ID still none; `extra` holds TRUNC. -/
def Job.blobRecord (j : Job) (v : Verdict) (b : Blob8) (extra : Nat) : Verdict :=
  if b.area < j.par 2 2 then { v with closed := v.closed ++ b.keys }
  else
    let status := 1 + extra + (if v.part.overflow then 16 else 0) + (if b.colMax = j.stripLast then 8 else 0) +
      (if b.colMin = j.stripFirst then 4 else 0)
    let r := leBytes 1 2 ++ leBytes 1 status ++ leBytes 2 (Nat.min b.maxDe 65535) ++ leBytes 4 b.area ++ leBytes 4 b.firstLine.toNat ++
      leBytes 4 b.lastLine.toNat ++ leBytes 2 b.colMin ++ leBytes 2 b.colMax ++ leBytes 4 0xFFFFFFFF ++
      leBytes 4 (Nat.min b.sumDe 0xFFFFFFFF) ++ zeros 4
    let at_ := v.out.length + 20
    let v1 := { v.push r with
      part := { v.part with overflow := false }
      closed := v.closed ++ b.keys
      crops := v.crops ++ (match b.keys with | k :: _ => [(at_, k)] | [] => []) }
    if j.par 1 1 = 0 then v1.raise (j.par 0 1) b.area else v1

/-- A blob whose AREA has reached MIN_AREA for the first time: its event with FIRE = 1 and its crop request (R164, R165). -/
def Job.reached (j : Job) (v : Verdict) (b : Blob8) : Verdict × Blob8 :=
  if b.hit ∨ b.area < j.par 2 2 then (v, b)
  else
    let v1 := if j.par 1 1 = 1 then v.raise (j.par 0 1) b.area else v
    let (v2, keys) := if j.par 6 1 = 1 then
        let centre := divHalfEvenNat (b.colMin + b.colMax) 2
        let k : CropKey := ⟨j.region, j.strip, centre, j.line⟩
        let q := leBytes 1 0x82 ++ zeros 1 ++ leBytes 2 centre ++ leBytes 4 j.line.toNat ++ zeros 8
        ({ v1.push q with requests := v1.requests ++ [(v1.out.length, k)] }, b.keys ++ [k])
      else (v1, b.keys)
    (v2, { b with hit := true, keys := keys })

/-- One blob after its line: closed where no run joined it or it is MAX_LINES long, else kept (R163). -/
def Job.settleBlob (j : Job) (acc : Verdict × List Blob8) (x : Option Blob8 × Option Blob8) : Verdict × List Blob8 :=
  match x with
  | (some b, none) => (j.blobRecord acc.1 b 0, acc.2)
  | (old, some n) =>
    let b := match old with | some o => o.extended n | none => n
    let (v1, b1) := j.reached acc.1 b
    if j.par 4 2 ≤ b1.lines then (j.blobRecord v1 b1 2, acc.2) else (v1, acc.2 ++ [{ b1 with runs := n.runs }])
  | (none, none) => acc

/-- A DEFECT task: after a cut the open blobs close with TRUNC (R150), then the line is judged. -/
def Job.defect (j : Job) (v : Verdict) : Verdict :=
  let v1 := if v.part.cutDue then
      let w := v.part.blobs.foldl (fun w b => j.blobRecord w b 2) v
      { w with part := { w.part with blobs := [] } }
    else v
  let (grown, excess) := growBlobs j.line (runsOf j.defects) v1.part.blobs
  let v2 := if excess then { v1 with part := { v1.part with overflow := true } } else v1
  let (v3, kept) := grown.foldl j.settleBlob (v2, [])
  { v3 with part := { v3.part with blobs := kept } }

/-! ## REGISTER (R166-R169) -/

/-- A field of unit `u`. -/
def Job.unit (j : Job) (u o n : Nat) : Nat := j.par (8 + 8 * u + o) n

/-- The used columns of a unit's band, with their samples (R151, R167). -/
def Job.unitCols (j : Job) (u : Nat) : List (Nat × Nat) :=
  j.cols.filterMap (fun c => (j.sample (j.unit u 0 1) c).map (fun s => (c, s)))

/-- Is a value past THRESH in the unit's polarity? -/
def Job.past (j : Job) (u : Nat) (a : Rat) : Bool :=
  if j.unit u 1 1 = 0 then decide (a < (j.unit u 2 2 : Nat)) else decide (((j.unit u 2 2 : Nat) : Rat) < a)

/-- The mean of a unit's band on this line. -/
def Job.unitMean (j : Job) (u : Nat) : Option Rat :=
  let l := j.unitCols u
  if l = [] then none else some (mkRat (l.foldl (fun a x => a + x.2) 0 : Nat) l.length)

/-- The edge of a unit on this line, if there is one: phi in 1/256 line, the across position in 1/256 column, GAP (R167). -/
def Job.edge (j : Job) (p : Part) (u : Nat) : Option (Int × Nat × Bool) :=
  match j.unitMean u, storeFind u p.means with
  | some a, some a0 =>
    if j.past u a && !(j.past u a0) then
      let gap := decide (p.lastNumber ≠ some (j.number - 1))
      let th : Rat := ((j.unit u 2 2 : Nat) : Rat)
      let phi := if gap then 0 else ratRound (256 * ((th - a0) / (a - a0)))
      let w := (j.unitCols u).filterMap (fun x =>
        if j.past u ((x.2 : Nat) : Rat) then
          some (x.1, if j.unit u 2 2 ≤ x.2 then x.2 - j.unit u 2 2 else j.unit u 2 2 - x.2) else none)
      let sw := w.foldl (fun s x => s + x.2) 0
      let sc := w.foldl (fun s x => s + x.1 * x.2) 0
      some (phi, (divHalfEvenNat (256 * sc) sw), gap)
    else none
  | _, _ => none

/-- An S16 of a register record: open where the value does not fit (log entry 12). -/
def s16Open (v : Int) : List Byte :=
  if -32768 ≤ v ∧ v ≤ 32767 then leBytes 2 (fromSigned 16 v) else leBytes 2 (Config.s16Beyond v).toNat

/-- The errors of unit `u` against the reference unit (R168): 0 for that unit and for units without an edge. -/
def Job.unitError (j : Job) (p : Part) (u : Nat) : Int × Int :=
  let r := j.par 2 1
  match storeFind u p.edges, storeFind r p.edges with
  | some e, some f =>
    if u = r then (0, 0)
    else (e.along - f.along - toSigned 16 (j.unit u 4 2), (e.across : Int) - f.across - toSigned 16 (j.unit u 6 2))
  | some _, none => if u = r then (0, 0) else (Config.noReference j.free (2 * u), Config.noReference j.free (2 * u + 1))
  | none, _ => (0, 0)

/-- The record of a register set (R168); with `cut` it closes with status CUT and no verdict. -/
def Job.setRecord (j : Job) (v : Verdict) (cut : Bool) : Verdict :=
  let p := v.part
  let units := List.range (j.par 1 1)
  let gap := fun u => match storeFind u p.edges with | some e => e.gap | none => false
  let err := fun u => j.unitError p u
  let judged := units.filter (fun u => (storeFind u p.edges).isSome && !(gap u))
  let bad := judged.any (fun u => Nat.blt (j.par 4 2) (err u).1.natAbs || Nat.blt (j.par 6 2) (err u).2.natAbs)
  let fail := bad && !cut
  let worst := judged.foldl (fun m u => if (err m).1.natAbs < (err u).1.natAbs then u else m) (judged.headD 0)
  let entry := fun u => match storeFind u p.edges with
    | some e => leBytes 4 (fromSigned 32 e.along) ++ leBytes 4 e.across ++
        (if e.gap then leBytes 2 0x7FFF else s16Open (err u).1) ++ s16Open (err u).2
    | none => zeros 12
  let found := bitsToNat ((List.range 8).map (fun u => (storeFind u p.edges).isSome))
  let r := leBytes 1 3 ++ leBytes 1 (b2n fail + (if cut then 4 else 0)) ++ leBytes 1 found ++ zeros 1 ++ leBytes 4 p.firstLine.toNat ++
    (List.range 8).flatMap entry
  let v1 := v.push r
  let v2 := { v1 with part := { v1.part.emptied with closed := true } }
  if fail then v2.raise (j.par 0 1) (worst * 8192 + Nat.min (err worst).1.natAbs 8191) else v2

/-- The REGISTER role of a task (R168). -/
def Job.registerSet (j : Job) (v : Verdict) : Verdict :=
  let v1 := if v.part.open_ && v.part.cutDue then j.setRecord v true
    else if v.part.open_ && j.newRepeat v.part then j.setRecord v false
    else v
  let fresh := j.newRepeat v.part || v.part.lastIndex.isNone
  let v2 := if fresh ∨ (v1.part.open_ = false ∧ v1.part.closed = false) then
      { v1 with part := { v1.part.emptied with open_ := true, closed := false, firstLine := j.line } }
    else v1
  if v2.part.open_ then
    let lineOff : Int := ((j.line - v2.part.firstLine).toNat : Int)
    let p := (List.range (j.par 1 1)).foldl (fun p u =>
      if (storeFind u p.edges).isSome then p
      else match j.edge v2.part u with
        | some (phi, across, gap) => { p with edges := storeInsert u ⟨256 * (lineOff - 1) + phi, across, gap⟩ p.edges }
        | none => p) { v2.part with lines := v2.part.lines + 1 }
    let v3 := { v2 with part := p }
    if p.edges.length = j.par 1 1 ∨ j.index = j.lineLast then j.setRecord v3 false else v3
  else v2

/-- The MARK role of a task (R169): the mark and its record, whose content beyond FUNCTION and STATUS is a reading (log entry 13). -/
def Job.markRole (j : Job) (v : Verdict) : Verdict :=
  let u := j.par 2 1
  let p := v.part
  match j.unitMean u with
  | none => v
  | some a =>
    if j.past u a then
      match (if 4 ≤ p.clear then j.edge p u else none) with
      | some (phi, across, gap) =>
        let m := (divHalfEven (256 * (j.before : Int) + phi * (j.pitch : Int)) 65536) % 281474976710656
        let entry := leBytes 4 phi.toNat ++ leBytes 4 across ++ leBytes 2 (if gap then 0x7FFF else 0) ++ zeros 2
        let r := leBytes 1 3 ++ leBytes 1 2 ++ leBytes 1 (2 ^ u) ++ zeros 1 ++ leBytes 4 (j.line - 1).toNat ++
          (List.range 8).flatMap (fun k => if k = u then entry else zeros 12)
        { v.push r with mark := some m.toNat, part := { p with clear := 0 } }
      | none => { v with part := { p with clear := if 4 ≤ p.clear then p.clear else 0 } }
    else { v with part := { p with clear := Nat.min 4 (p.clear + 1) } }

/-- A REGISTER task: both roles report independently; then the means of this line are kept. -/
def Job.register (j : Job) (v : Verdict) : Verdict :=
  let role := j.par 3 1
  let v1 := if bit role 1 then j.markRole v else v
  let v2 := if bit role 0 then j.registerSet v1 else v1
  let means := (List.range 8).filterMap (fun u => (j.unitMean u).map (fun a => (u, a)))
  { v2 with part := { v2.part with means := means } }

/-! ## STREAK (R170-R172) -/

/-- The watched bands that are enabled, ascending. -/
def Job.watched (j : Job) : List Nat := j.bands.filter (fun b => bit (j.par 1 1) b)

/-- Does column `c` deviate beyond THRESH in the set polarity? `none` without an observation (R171). -/
def Job.deviates (j : Job) (b c : Nat) : Option Bool :=
  match j.sample b c with
  | none => none
  | some s =>
    let near := ((if 2 ≤ c then [c - 2] else []) ++ (if 1 ≤ c then [c - 1] else []) ++ [c + 1, c + 2]).filter
      (fun k => Nat.ble j.col0 k && Nat.blt k (j.col0 + j.ncol))
    let vals := near.filterMap (j.sample b)
    if vals.length < 2 then none
    else
      let n := vals.length
      let d : Int := (s * n : Nat) - ((vals.foldl (· + ·) 0 : Nat) : Int)
      let lim : Int := (j.par 4 2 * n : Nat)
      some (match j.par 2 1 with
        | 0 => decide (lim < d)
        | 1 => decide (lim < -d)
        | _ => decide (lim < d) || decide (lim < -d))

/-- One column of one band: its counter and state after the line, with an entry where the state changed. -/
def Job.streakColumn (j : Job) (acc : Verdict × List Nat) (bc : Nat × Nat) : Verdict × List Nat :=
  let (b, c) := bc
  match j.deviates b c with
  | none => acc
  | some dev =>
    let v := acc.1
    let key := 8192 * b + c
    let n0 := storeGet (fun _ => 0) v.part.counters key
    let n := if dev then Nat.min (j.par 10 2) (n0 + 1) else n0 - 1
    let on0 := storeGet (fun _ => false) v.part.on key
    let goOn := !on0 && Nat.beq n (j.par 6 2)
    let goOff := on0 && Nat.beq n (j.par 8 2)
    let on1 := if goOn then true else if goOff then false else on0
    let p := { v.part with
      counters := storePut (fun _ => 0) v.part.counters key n
      on := storePut (fun _ => false) v.part.on key on1 }
    let v1 := { v with part := p }
    if goOn then (v1.raise (j.par 0 1) (b * 8192 + c), acc.2 ++ [2 ^ 31 + b * 2 ^ 28 + c])
    else if goOff then (v1, acc.2 ++ [b * 2 ^ 28 + c])
    else (v1, acc.2)

/-- A STREAK task (R172). -/
def Job.streak (j : Job) (v : Verdict) : Verdict :=
  let keys := j.watched.flatMap (fun b => j.cols.map (fun c => (b, c)))
  let (v1, entries) := keys.foldl j.streakColumn (v, [])
  if entries = [] then v1
  else
    let kept := entries.take 512
    v1.push (leBytes 1 5 ++ leBytes 1 (b2n (Nat.blt 512 entries.length)) ++ leBytes 2 kept.length ++ zeros 4 ++ kept.flatMap (leBytes 4))

/-! ## A task of the built-in image -/

/-- The function of a job carried out on its part, which is then no longer in progress (R150). -/
def Job.run (j : Job) (p : Part) : Verdict :=
  let v : Verdict := { part := p }
  let w := match j.kernel with
    | 1 => j.colour v
    | 2 => j.defect v
    | 3 => j.register v
    | 4 => j.patch v j.densityBands false 0 j.densityRecord
    | _ => j.streak v
  { w with part := { w.part with inProgress := false, cutDue := false, lastIndex := some j.index, lastNumber := some j.number } }

end Sys2Proof.Machine
end

