-- ==== Sys2Proof/Machine/Regions.lean ====
section
/-! DEFINITION. The region map of a Folio: coverage of a line, the plan, and the seal checks of the kernels, the Curator and the Vault (06 R143-R149;
07 R178-R180, R198; 08 R211-R213, R218). -/

namespace Sys2Proof.Machine

/-! ## Coverage (R144) -/

/-- Output columns of a strip (R45). -/
def stripWidth (b : Bank) : Nat := 64 / Nat.max 1 (b.num Obj.PX_COL_BIN)

/-- The enabled regions with their numbers, ascending. -/
def enabledRegions (b : Bank) : List (Nat × Region) :=
  (List.range (regionCount b)).filterMap (fun g => let r := region b g; if r.enabled then some (g, r) else none)

/-- A region's part in one strip: first column and columns. -/
def stripPart (b : Bank) (r : Region) (s : Nat) : Option (Nat × Nat) :=
  let w := stripWidth b
  let lo := Nat.max r.colFirst (s * w)
  let hi := Nat.min r.colLast (s * w + w - 1)
  if lo ≤ hi then some (lo, hi + 1 - lo) else none

/-- The parts of a region: (strip, first column, columns). -/
def regionParts (b : Bank) (r : Region) : List (Nat × Nat × Nat) :=
  (List.range 128).filterMap (fun s => (stripPart b r s).map (fun p => (s, p.1, p.2)))

/-- Is the hall of a strip enabled (R44)? -/
def hallOn (halls s : Nat) : Bool := bit halls (s / 16)

/-- Does a region cover a line of REPEAT_INDEX `i` (R144)? -/
def Region.covers (r : Region) (i : Nat) (noRef : Bool) : Bool :=
  (r.everyLine || (Nat.ble r.lineFirst i && Nat.ble i r.lineLast)) && (!noRef || r.runNoRef)

/-- The parts that cover a line: (region, strip, first column, columns), by region and then strip (R144, R176). -/
def lineParts (b : Bank) (i : Nat) (noRef : Bool) (halls : Nat) : List (Nat × Nat × Nat × Nat) :=
  (enabledRegions b).flatMap (fun gr =>
    if gr.2.covers i noRef then
      (regionParts b gr.2).filterMap (fun p => if hallOn halls p.1 then some (gr.1, p) else none)
    else [])

/-! ## Images on strips (R141, R147, R178) -/

/-- The pinned image that a Folio's map places on a strip of an enabled hall. -/
def pinnedImage (b : Bank) (s : Nat) : Option Image :=
  if hallOn (b.num Obj.PX_HALL_ENABLE) s then
    ((enabledRegions b).find? (fun gr => (stripPart b gr.2 s).isSome && (imageOf b gr.2.kernel).stateful)).map
      (fun gr => imageOf b gr.2.kernel)
  else none

/-- The engines of enabled halls without a pinned image: the pool (R44, R178). -/
def poolEngines (b : Bank) : List Nat :=
  (List.range 128).filter (fun s => hallOn (b.num Obj.PX_HALL_ENABLE) s && (pinnedImage b s).isNone)

/-! ## The plan (R180, R198) -/

/-- The largest sum of weights over intervals (first, last, weight), and the lowest position that reaches it. -/
def peak (l : List (Nat × Nat × Nat)) : Nat × Nat :=
  let at_ := fun x => (l.filter (fun i => Nat.ble i.1 x && Nat.ble x i.2.1)).foldl (fun a i => a + i.2.2) 0
  l.foldl (fun m i => let v := at_ i.1; if m.1 < v ∨ (m.1 = v ∧ i.1 < m.2) then (v, i.1) else m) (0, 0)

/-- The line indices a region covers: every one with EVERY_LINE. -/
def Region.span (b : Bank) (r : Region) : Nat × Nat :=
  if r.everyLine then (0, b.num Obj.LT_REPEAT_LINES - 1) else (r.lineFirst, r.lineLast)

/-- The region parts on strips of enabled halls as intervals: (strip, stateful, first, last, WCET). -/
def planItems (b : Bank) : List (Nat × Bool × Nat × Nat × Nat) :=
  (enabledRegions b).flatMap (fun gr =>
    let img := imageOf b gr.2.kernel
    let (lo, hi) := gr.2.span b
    (regionParts b gr.2).filterMap (fun p =>
      if hallOn (b.num Obj.PX_HALL_ENABLE) p.1 then some (p.1, img.stateful, lo, hi, img.wcet gr.2.kernel) else none))

/-- Planned cycles of a home engine (R180). -/
def homePlan (b : Bank) (s : Nat) : Nat :=
  (peak ((planItems b).filterMap (fun x => if x.1 = s ∧ x.2.1 then some x.2.2 else none))).1

/-- The largest sum of WCET of non-stateful tasks on any line index, and that index. -/
def poolPeak (b : Bank) : Nat × Nat := peak ((planItems b).filterMap (fun x => if x.2.1 then none else some x.2.2))

/-- The pool's planned cycles (R180). -/
def poolPlan (b : Bank) : Nat :=
  let n := (poolEngines b).length
  if n = 0 then 0 else ceilDiv (poolPeak b).1 n

/-- The home engine with the largest planned cycles, the lowest on a tie. -/
def worstHome (b : Bank) : Nat × Nat :=
  (List.range 128).foldl (fun m s => let v := homePlan b s; if m.2 < v then (s, v) else m) (0, 0)

/-- CU_PLAN_CYCLES (R180). -/
def planCycles (b : Bank) : Nat := Nat.max (worstHome b).2 (poolPlan b)

/-- The most tasks on any line index, and that index (R180). -/
def tasksPeak (b : Bank) : Nat × Nat := peak ((planItems b).map (fun x => (x.2.2.1, x.2.2.2.1, 1)))

/-- CU_REQ_CYCLES (R198). -/
def reqCycles (b : Bank) : Nat := ceilDiv (planCycles b * 100) (b.num Obj.CU_TARGET_UTIL)

/-- The plan check that a Folio fails: the PARAM of event 0x2303 (R179, R583). -/
def planRefusal (b : Bank) : Option Nat :=
  let (tasks, line) := tasksPeak b
  if 2048 < tasks then some (2 ^ 24 + line)
  else if b.num Obj.CU_PLAN_LIMIT * 1000000000 < planCycles b * 100 * b.num Obj.LT_MAX_LINE_RATE then
    some (2 * 2 ^ 24 + (if (worstHome b).2 < poolPlan b then 0x800000 + (poolPeak b).2 else (worstHome b).1))
  else if (planItems b).any (fun x => !x.2.1) && (poolEngines b).isEmpty then some (3 * 2 ^ 24)
  else none

/-! ## Region checks (R146) -/

/-- EV_LINE of a parameter block. -/
def evLineOk (l : List Byte) : Bool := Nat.blt (leAt l 0 1) 64 || Nat.beq (leAt l 0 1) 255

/-- Is a value within bounds? -/
def within (v lo hi : Nat) : Bool := Nat.ble lo v && Nat.ble v hi

/-- A built-in parameter block within the ranges of its function (R155, R158, R161, R166, R170). -/
def paramOk (kernel : Nat) (l : List Byte) : Bool :=
  let f := fun o n => leAt l o n
  match kernel with
  | 1 => Nat.ble 8 l.length && evLineOk l && within (f 1 1) 0 1 && within (f 2 1) 8 64 && Nat.beq (f 3 1) 0 &&
      within (f 4 2) 1 10000 && within (f 6 2) 1 65535
  | 2 => Nat.ble 32 l.length && evLineOk l && within (f 1 1) 0 1 && within (f 2 2) 1 65535 && within (f 4 2) 1 4096 &&
      within (f 6 1) 0 1 && Nat.beq (f 7 1) 0 && (List.range 15).all (fun i => within (f (8 + i) 1) 1 255) && Nat.beq (f 0x17 1) 0 &&
      within (f 0x18 2) 16 1024 && Nat.beq (f 0x18 2 % 16) 0 && within (f 0x1A 2) 0 16 && within (f 0x1C 2) 0 256 &&
      within (f 0x1E 2) 1 4096
  | 3 => Nat.ble 72 l.length && evLineOk l && within (f 1 1) 1 8 && Nat.blt (f 2 1) (f 1 1) && within (f 3 1) 1 3 &&
      within (f 4 2) 1 32767 && within (f 6 2) 1 32767 && (List.range (f 1 1)).all (fun u =>
        within (f (8 + 8 * u) 1) 0 7 && within (f (9 + 8 * u) 1) 0 1 && within (f (10 + 8 * u) 2) 1 65534)
  | 4 => Nat.ble 104 l.length && evLineOk l && within (f 1 1) 1 4 && within (f 2 2) 1 65535 && within (f 4 1) 0 1 && Nat.beq (f 5 3) 0 &&
      (List.range (f 1 1)).all (fun c => (List.range 8).any (fun b => Nat.blt 0 (f (8 + 24 * c + 2 * b) 2)) &&
        within (f (8 + 24 * c + 20) 2) 1 65534 && Nat.beq (f (8 + 24 * c + 22) 2) 0)
  | _ => Nat.ble 12 l.length && evLineOk l && within (f 1 1) 1 255 && within (f 2 1) 0 2 && Nat.beq (f 3 1) 0 && within (f 4 2) 1 32767 &&
      within (f 6 2) 1 4095 && Nat.blt (f 8 2) (f 6 2) && within (f 10 2) (f 6 2) 4095

/-- Is a KERNEL byte a built-in function? -/
def builtinKernel (k : Nat) : Bool := within k 1 5

/-- ROLE of a REGISTER region, 0 for another. -/
def regionRole (b : Bank) (r : Region) : Nat := if r.kernel = 3 then leAt (regionParams b r) 3 1 else 0

/-- One region against one of checks 1 to 6; `marks` counts the regions before it with the MARK role. -/
def regionFails (b : Bank) (r : Region) (marks : Nat) (check : Nat) : Bool :=
  match check with
  | 1 => !(builtinKernel r.kernel || (within r.kernel 0x10 0x1F && Nat.blt 0 (b.blob (Obj.KN_KERNEL (r.kernel - 16))).len))
  | 2 => if r.everyLine then !(Nat.beq r.lineFirst 0 && Nat.beq r.lineLast 0)
      else Nat.blt r.lineLast r.lineFirst || Nat.ble (b.num Obj.LT_REPEAT_LINES) r.lineLast
  | 3 => Nat.blt r.colLast r.colFirst || Nat.ble (128 * stripWidth b) r.colLast
  | 4 => !(Nat.beq (r.paramOff % 32) 0) || Nat.blt 896 r.paramLen || Nat.blt (b.blob Obj.KN_PARAMS).len (r.paramOff + r.paramLen)
  | 5 => builtinKernel r.kernel && !(paramOk r.kernel (regionParams b r))
  | _ =>
    let role := regionRole b r
    let w := stripWidth b
    (r.everyLine && (Nat.beq r.kernel 4 || (Nat.beq r.kernel 1 && Nat.beq (leAt (regionParams b r) 1 1) 1) ||
      (Nat.beq r.kernel 3 && !(Nat.beq role 2)))) ||
    (r.runNoRef && (Nat.beq r.kernel 1 || Nat.beq r.kernel 2)) ||
    (bit role 1 && (!(Nat.beq (r.colFirst / w) (r.colLast / w)) || Nat.blt 0 marks))

/-- The first region that fails a check of 1 to 6. -/
def firstFailing (b : Bank) (check : Nat) : List (Nat × Region) → Nat → Option Nat
  | [], _ => none
  | (g, r) :: t, marks =>
    if regionFails b r marks check then some g
    else firstFailing b check t (marks + b2n (bit (regionRole b r) 1))

/-- The lowest of a list. -/
def lowest : List Nat → Option Nat
  | [] => none
  | x :: r => some (r.foldl Nat.min x)

/-- Check 7: more than 8 enabled regions on one output column of one line index; the lowest region involved. -/
def overCovered (b : Bank) : Option Nat :=
  let rs := enabledRegions b
  let rows := 0 :: (rs.map (fun gr => (gr.2.span b).1))
  lowest (rows.flatMap (fun i => (rs.map (fun gr => gr.2.colFirst)).flatMap (fun c =>
    let on := rs.filter (fun gr => gr.2.covers i false && Nat.ble gr.2.colFirst c && Nat.ble c gr.2.colLast)
    if 8 < on.length then on.map Prod.fst else [])))

/-- The state bytes of a built-in part (R149). -/
def stateBytes (kernel : Nat) : Nat := match kernel with | 1 => 96 | 2 => 1344 | 3 => 256 | 4 => 96 | _ => 1040

/-- The enabled regions covering a strip. -/
def onStrip (b : Bank) (s : Nat) : List (Nat × Region) :=
  (enabledRegions b).filter (fun gr => (stripPart b gr.2 s).isSome)

/-- Check 8: the built-in state of a strip above 40,960 bytes. -/
def stateOver (b : Bank) : Option Nat :=
  lowest ((List.range 128).flatMap (fun s =>
    let l := (onStrip b s).filter (fun gr => builtinKernel gr.2.kernel)
    if 40960 < l.foldl (fun a gr => a + stateBytes gr.2.kernel) 0 then l.map Prod.fst else []))

/-- Check 9: more than one STATEFUL image on a strip. -/
def imagesClash (b : Bank) : Option Nat :=
  lowest ((List.range 128).flatMap (fun s =>
    let l := (onStrip b s).filter (fun gr => (imageOf b gr.2.kernel).stateful)
    let slot := fun (gr : Nat × Region) => (imageOf b gr.2.kernel).slot
    if l.any (fun x => l.any (fun y => decide (slot x ≠ slot y))) then l.map Prod.fst else []))

/-- Check 10: two user slots with one KERNEL_ID; the region named, or 0xFFFF. -/
def idsClash (b : Bank) : Option Nat :=
  let ident := fun u => let v := b.blob (Obj.KN_KERNEL u); if v.len = 0 then none else some (b.le (Obj.KN_KERNEL u) 0x0C 2)
  let same := fun u => (List.range 16).any (fun w => !(Nat.beq u w) && (ident u).isSome && decide (ident u = ident w))
  let slots := (List.range 16).filter same
  if slots = [] then none
  else some ((lowest ((enabledRegions b).filterMap (fun gr => if slots.contains (gr.2.kernel - 16) ∧ 16 ≤ gr.2.kernel then some gr.1 else none))).getD
    0xFFFF)

/-- Entry (row, band) of the colour matrix in a bank. -/
def colourMatrix (used : Bank) (row band : Nat) : Rat := f32Value (used.le Obj.CAL_COLOUR_MATRIX (4 * (8 * row + band)) 4)

/-- Check 11: a COLOUR or DEFECT region while a band of the colour matrix in use is disabled. -/
def bandMissing (used b : Bank) : Option Nat :=
  let bad := (List.range 8).any (fun k => (List.range 3).any (fun r => decide (colourMatrix used r k ≠ 0)) &&
    !(bit (b.num Obj.PX_BAND_ENABLE) k))
  if bad then ((enabledRegions b).find? (fun gr => Nat.beq gr.2.kernel 1 || Nat.beq gr.2.kernel 2)).map Prod.fst else none

/-- The first region check that a Folio fails: the PARAM of event 0x2401 (R146, R583). -/
def regionRefusal (used b : Bank) : Option Nat :=
  let at_ := fun (c : Nat) (g : Option Nat) => g.map (fun g => g * 65536 + c)
  ((([1, 2, 3, 4, 5, 6].findSome? (fun c => at_ c (firstFailing b c (enabledRegions b) 0))).orElse (fun _ =>
    at_ 7 (overCovered b))).orElse (fun _ => at_ 8 (stateOver b))).orElse (fun _ =>
      ((at_ 9 (imagesClash b)).orElse (fun _ => at_ 10 (idsClash b))).orElse (fun _ => at_ 11 (bandMissing used b)))

/-! ## Vault reservations (R211-R213) -/

/-- Blocks of one ring slot (R211). -/
def slotBlocks (b : Bank) : Nat :=
  ceilDiv (1024 / Nat.max 1 (b.num Obj.PX_COL_BIN) * 2 * (enabledBands b).length) 4096

/-- The enabled halls of a mask. -/
def hallCount (halls : Nat) : Nat := ((List.range 8).filter (bit halls)).length

/-- The line rings' reservation of a Folio (R211). -/
def ringReserve (b : Bank) : Nat := b.num Obj.VA_RING_LINES * slotBlocks b

/-- The reservations beside the line rings: staging, Gallery, link receive, link transmit, Catalogue. -/
def otherReserves (vol : Bank) : List Nat :=
  [vol.num Obj.VA_RES_STAGING, vol.num Obj.VA_RES_GALLERY, 128, vol.num Obj.VA_RES_LINK_TX, vol.num Obj.VA_RES_CATALOGUE]

/-- The total reservation (R212). -/
def totalReserve (vol b : Bank) : Nat :=
  hallCount (b.num Obj.PX_HALL_ENABLE) * ringReserve b + (otherReserves vol).foldl (· + ·) 0

/-! ## Reference lines (R218, R220, R221) -/

/-- Entries of a reference line. -/
def refEntries (b : Bank) : Nat := 8192 / (Nat.max 1 (b.num Obj.PX_COL_BIN) * (1 + b.num Obj.VA_REF_RES))

/-- W, the bytes of a reference line. -/
def refLineBytes (b : Bank) : Nat := 4 * refEntries b

/-- The used extent of a slot. -/
def refExtent (b : Bank) : Nat := b.num Obj.LT_REPEAT_LINES * refLineBytes b

/-- The byte range of a reference line that a prefetch reads for some columns: (from, to) within the line (R221). -/
def prefetchRange (b : Bank) (c0 c1 : Nat) : Nat × Nat :=
  let k := 1 + b.num Obj.VA_REF_RES
  let e0 := c0 / k
  let e1 := Nat.min (refEntries b - 1) (c1 / k + b.num Obj.VA_REF_RES)
  (4 * e0 / 32 * 32, ceilDiv (4 * (e1 + 1)) 32 * 32)

/-- Entry `e` of prefetched bytes that start at byte `from_` of the line: L*, a*, b* and tolerance class (R219). -/
def refEntry (data : List Byte) (from_ e : Nat) : Option (Rat × Rat × Rat × Nat) :=
  if 4 * e < from_ ∨ from_ + data.length < 4 * e + 4 then none
  else
    let o := 4 * e - from_
    some (mkRat ((leAt data o 1 * 100 : Nat) : Int) 255, (toSigned 8 (leAt data (o + 1) 1) : Int), (toSigned 8 (leAt data (o + 2) 1) : Int),
      leAt data (o + 3) 1 % 16)

/-- The reference of output column `j` (R220). -/
def refColumn (b : Bank) (data : List Byte) (from_ j : Nat) : Option (Rat × Rat × Rat × Nat) :=
  if b.num Obj.VA_REF_RES = 0 then refEntry data from_ j
  else if j % 2 = 0 then refEntry data from_ (j / 2)
  else
    match refEntry data from_ (j / 2) with
    | none => none
    | some x =>
      if refEntries b ≤ (j + 1) / 2 then some x
      else match refEntry data from_ ((j + 1) / 2) with
        | none => none
        | some y => if y.2.2.2 = 15 then some (x.1, x.2.1, x.2.2.1, 15)
          else some ((x.1 + y.1) / 2, (x.2.1 + y.2.1) / 2, (x.2.2.1 + y.2.2.1) / 2, x.2.2.2)

end Sys2Proof.Machine
end

