-- ==== Sys2Proof/Machine/View.lean ====
section
/-! DEFINITION. The Gallery's picture arithmetic (13 R369, R382-R388): samples, demosaicing, colour, tone, scaling and the bytes of a view item. No
state is read. -/

namespace Sys2Proof.Machine

/-! ## Samples on the wire (R369; the bit places are those of CSI-2, log entry 15) -/

/-- Bytes in groups of `n`; a last group that is not whole is left out. -/
def groupsOf (n : Nat) : Nat → List Nat → List (List Nat)
  | 0, _ => []
  | f + 1, l => if l.length < n then [] else l.take n :: groupsOf n f (l.drop n)

/-- The samples of a long packet, in the bits of its data type; for YUV422 its bytes. -/
def unpackLine (dt : Nat) (payload : List Byte) : List Nat :=
  let l := payload.map BitVec.toNat
  match dt with
  | 0x2B => (groupsOf 5 l.length l).flatMap (fun g => (List.range 4).map (fun i => g.getD i 0 * 4 + g.getD 4 0 / 4 ^ i % 4))
  | 0x2C => (groupsOf 3 l.length l).flatMap (fun g => [g.getD 0 0 * 16 + g.getD 2 0 % 16, g.getD 1 0 * 16 + g.getD 2 0 / 16])
  | 0x2D => (groupsOf 7 l.length l).flatMap (fun g =>
      let low := g.getD 4 0 + 256 * g.getD 5 0 + 65536 * g.getD 6 0
      (List.range 4).map (fun i => g.getD i 0 * 64 + low / 64 ^ i % 64))
  | _ => l

/-- Bits of a RAW sample. -/
def rawBits (dt : Nat) : Nat := match dt with | 0x2B => 10 | 0x2C => 12 | 0x2D => 14 | _ => 8

/-- Stored entries of a pixel: two bytes for YUV422, one sample otherwise. -/
def perPixel (dt : Nat) : Nat := if dt = 0x1E then 2 else 1

/-- Bytes stored for a pixel (R369). -/
def storedBytes (s : GaSet) : Nat :=
  if s.source = 3 then 2 else match s.dt with | 0x1E => 2 | 0x2A => 1 | _ => 2

/-- The width of a context's frames: 8,192 for the survey (R377). -/
def GaSet.cols (s : GaSet) : Nat := if s.source = 3 then 8192 else s.width

/-- A packet's samples cut or completed to the line buffer (R376). -/
def fitLine (s : GaSet) (l : List Nat) : List Nat :=
  let n := s.cols * perPixel s.dt
  l.take n ++ List.replicate (n - l.length) 0

/-- Is the context's input YUV422? -/
def GaSet.yuv (s : GaSet) : Bool := !(Nat.beq s.source 3) && Nat.beq s.dt 0x1E

/-! ## Patterns (R382) -/

/-- The period of a pattern. -/
def patPeriod (p : Nat) : Nat := match p with | 0 => 1 | 1 => 2 | 2 => 2 | _ => 4

/-- The rows of a pattern, most upstream first, as channel codes R 0, G 1, B 2, C 3, I 4. -/
def patRows (p : Nat) : List (List Nat) :=
  match p with
  | 0 => [[3]]
  | 1 => [[0, 1], [1, 2]]
  | 2 => [[0, 1], [3, 2]]
  | 3 => [[2, 1, 0, 1], [1, 4, 1, 4], [0, 1, 2, 1], [1, 4, 1, 4]]
  | _ => [[1, 3, 1, 4], [2, 1, 0, 1], [1, 4, 1, 3], [0, 1, 2, 1]]

/-- The channels a set's input carries: Y alone for YUV422 (R383). -/
def GaSet.channels (s : GaSet) : List Nat :=
  if s.yuv then [5] else match s.pattern with | 0 => [3] | 1 => [0, 1, 2] | 2 => [0, 1, 2, 3] | 3 => [0, 1, 2, 4] | _ => [0, 1, 2, 3, 4]

/-- The channel of input pixel (x, y). -/
def GaSet.channelAt (s : GaSet) (x y : Nat) : Nat :=
  let q := patPeriod s.pattern
  let ph := if s.pattern = 4 then 0 else s.phase
  let row := (patRows s.pattern).getD ((y + q - ph / q % q) % q) []
  row.getD ((x + q - ph % q) % q) 0

/-! ## Pixels (R382-R384) -/

/-- What a frame is rendered from. -/
structure Render where
  set : GaSet
  rows : Array (Array Nat)
  free : Nat

/-- The stored entry `k` of row `y`. -/
def Render.raw (r : Render) (k y : Nat) : Nat := (r.rows.getD y #[]).getD k 0

/-- The 16-bit value of a pixel after black (R382). -/
def Render.v (r : Render) (x y : Nat) : Nat :=
  let x16 := if r.set.source = 3 then r.raw x y else r.raw x y * 2 ^ (16 - rawBits r.set.dt)
  x16 - r.set.black

/-- The mean of a channel within a neighbourhood of `d` to each side, if a pixel of it carries the channel. -/
def Render.nearMean (r : Render) (c x y d : Nat) : Option Nat :=
  let ys := (List.range (2 * d + 1)).filterMap (fun i => if d ≤ y + i ∧ y + i - d < r.rows.size then some (y + i - d) else none)
  let xs := (List.range (2 * d + 1)).filterMap (fun i => if d ≤ x + i ∧ x + i - d < r.set.cols then some (x + i - d) else none)
  let vals := ys.flatMap (fun y => xs.filterMap (fun x => if r.set.channelAt x y = c then some (r.v x y) else none))
  if vals = [] then none else some (divHalfEvenNat (vals.foldl (· + ·) 0) vals.length)

/-- A channel's value at a pixel (R383). -/
def Render.channel (r : Render) (c x y : Nat) : Nat :=
  if r.set.yuv then r.raw (2 * x + 1) y * 256
  else if !(r.set.channels.contains c) then 0
  else if r.set.channelAt x y = c then r.v x y
  else match ((r.nearMean c x y 1).orElse (fun _ => r.nearMean c x y 2)).orElse (fun _ => r.nearMean c x y 3) with
    | some v => v
    | none => (Config.absentChannel r.free c).toNat

/-- The linear colour of a pixel (R384). -/
def Render.linear (r : Render) (x y : Nat) : List Nat :=
  if r.set.pattern = 0 then List.replicate 3 (r.channel 3 x y)
  else
    let cs := (List.range 5).map (fun c => r.channel c x y)
    (List.range 3).map (fun i =>
      let sum := (List.range 5).foldl (fun a k => a + r.set.matrix.getD (5 * i + k) 0 * ((cs.getD k 0 : Nat) : Int)) (0 : Int)
      (clampInt 0 65535 (divHalfEven sum 4096)).toNat)

/-- The tone curve on a value over white, in fixed point (R384). -/
def toneCurve (tone value white : Nat) : Int :=
  let t := if white ≤ value then fxOne else (value : Int) * fxOne / white
  let pow := fun (num den : Int) => if t ≤ 0 then 0 else fxExpNeg (-(fxLn t * num / den))
  match tone with
  | 0 => t
  | 1 => if t * 1000 < 18 * fxOne then t * 45 / 10 else pow 45 100 * 1099 / 1000 - 99 * fxOne / 1000
  | _ => if t * 10000000 ≤ 31308 * fxOne then t * 1292 / 100 else pow 10 24 * 1055 / 1000 - 55 * fxOne / 1000

/-- Y, Cb and Cr of a pixel in 8-bit codes, fixed point, before rounding (R384). -/
def Render.ycc (r : Render) (x y : Nat) : Int × Int × Int :=
  if r.set.yuv then
    let f := fun k => ((r.raw k y : Nat) : Int) * fxOne
    let b := 4 * (x / 2)
    (f (2 * x + 1), f b, f (b + 2))
  else
    let l := (r.linear x y).map (fun v => toneCurve r.set.tone v r.set.white)
    let cr := l.getD 0 0; let cg := l.getD 1 0; let cb := l.getD 2 0
    let yy := (2126 * cr + 7152 * cg + 722 * cb) / 10000
    (16 * fxOne + 219 * yy, 128 * fxOne + 224 * (cb - yy) * 10000 / 18556, 128 * fxOne + 224 * (cr - yy) * 10000 / 15748)

/-! ## Windows and scaling (R385) -/

/-- The window: X0, Y0, W, H. -/
def GaSet.win (s : GaSet) : Nat × Nat × Nat × Nat :=
  if s.window.getD 2 0 = 0 then (0, 0, s.cols, s.height)
  else (s.window.getD 0 0, s.window.getD 1 0, s.window.getD 2 0, s.window.getD 3 0)

/-- The input positions that output position `i` of `o` takes from `w` at `x0`, with their coverage in 1/o. -/
def coverage (x0 w o i : Nat) : List (Nat × Nat) :=
  let lo := i * w
  let hi := (i + 1) * w
  ((List.range (hi / o + 1 - lo / o)).map (lo / o + ·)).filterMap (fun x =>
    let a := Nat.max lo (x * o)
    let b := Nat.min hi ((x + 1) * o)
    if a < b then some (x0 + x, b - a) else none)

/-- The rows of an output of `oh` rows that lie within the rows received. -/
def Render.rowsOut (r : Render) (oh : Nat) : Nat :=
  let (_, y0, _, h) := r.set.win
  ((List.range oh).filter (fun j => Nat.ble (y0 * oh + (j + 1) * h) (r.rows.size * oh))).length

/-- Y, Cb and Cr of output pixel (i, j), fixed point. -/
def Render.scaled (r : Render) (ow oh i j : Nat) : Int × Int × Int :=
  let (x0, y0, w, h) := r.set.win
  let cx := coverage x0 w ow i
  let cy := coverage y0 h oh j
  let t : Int × Int × Int := cy.foldl (fun a y => cx.foldl (fun a x =>
    let p := r.ycc x.1 y.1
    let k : Int := ((x.2 * y.2 : Nat) : Int)
    (a.1 + k * p.1, a.2.1 + k * p.2.1, a.2.2 + k * p.2.2)) a) (0, 0, 0)
  let n : Int := ((w * h : Nat) : Int)
  (t.1 / n, t.2.1 / n, t.2.2 / n)

/-- An output code: within 1 of the exact value (R384), `k` naming the sample. -/
def Render.code (r : Render) (scale top : Nat) (v : Int) (k : Nat) : Nat :=
  let e := (scale : Int) * v
  (clampInt 0 top (clampInt (fxCeil (e - fxOne)) (fxFloor (e + fxOne)) (Config.viewCode r.free k))).toNat

/-! ## Items (R386-R388) -/

/-- Rows padded to a stride that is a multiple of 32. -/
def padRow (l : List Byte) : List Byte := l ++ zeros ((32 - l.length % 32) % 32)

/-- One plane: its rows. -/
abbrev Plane := List (List Byte)

/-- A VIEW-D or VIEW-C item's planes (R386). -/
def Render.viewPlanes (r : Render) (kind ow oh : Nat) : List Plane :=
  let n := r.rowsOut oh
  let px := fun i j => r.scaled ow oh i j
  let avg := fun (l : List Int) => l.foldl (· + ·) 0 / (l.length : Int)
  let two := fun (v : Nat) => leBytes 2 (v * 64)
  match kind with
  | 1 => [(List.range n).map (fun j => (List.range (ow / 2)).flatMap (fun i =>
      let a := px (2 * i) j
      let b := px (2 * i + 1) j
      let at_ := 4 * (j * (ow / 2) + i)
      [r.code 1 255 a.1 at_, r.code 1 255 (avg [a.2.1, b.2.1]) (at_ + 1), r.code 1 255 b.1 (at_ + 2),
        r.code 1 255 (avg [a.2.2, b.2.2]) (at_ + 3)].map (BitVec.ofNat 8)))]
  | k =>
    let (sc, top) := if k = 2 then (1, 255) else (4, 1023)
    let put := fun v => if k = 2 then [BitVec.ofNat 8 v] else two v
    let n2 := n / 2
    [(List.range n).map (fun j => (List.range ow).flatMap (fun i => put (r.code sc top (px i j).1 (j * ow + i)))),
     (List.range n2).map (fun j => (List.range (ow / 2)).flatMap (fun i =>
      let q := [px (2 * i) (2 * j), px (2 * i + 1) (2 * j), px (2 * i) (2 * j + 1), px (2 * i + 1) (2 * j + 1)]
      let at_ := n * ow + j * ow + 2 * i
      put (r.code sc top (avg (q.map (fun p => p.2.1))) at_) ++ put (r.code sc top (avg (q.map (fun p => p.2.2))) (at_ + 1))))]

/-- VIEW-M: the exact value of a plane at a pixel, as a numerator over 4,096. -/
def Render.linearPlane (r : Render) (plane : Option Nat) (x y : Nat) : Nat :=
  match plane with
  | some c => 4096 * r.channel c x y
  | none => Nat.min (65535 * 4096) ((List.range 5).foldl (fun a c => a + r.set.mWeights.getD c 0 * r.channel c x y) 0)

/-- The planes of a VIEW-M item: mono, or the channels named. -/
def GaSet.mChannels (s : GaSet) : List (Option Nat) :=
  if s.mMode = 0 then [none] else (s.mPlanes.filter (· ≠ 255)).map some

/-- A VIEW-M item's planes (R386). -/
def Render.linearPlanes (r : Render) : List Plane :=
  let (x0, y0, w, h) := r.set.win
  let m := Nat.max 1 r.set.mBin
  let rows := Nat.min (h / m) ((r.rows.size - y0) / m)
  r.set.mChannels.map (fun c => (List.range rows).map (fun j => (List.range (w / m)).flatMap (fun i =>
    let sum := (List.range m).foldl (fun a dy => (List.range m).foldl (fun a dx =>
      a + r.linearPlane c (x0 + m * i + dx) (y0 + m * j + dy)) a) 0
    leBytes 2 (divHalfEvenNat sum (4096 * m * m)))))

/-- The rows of the window that were received. -/
def Render.winRows (r : Render) : List Nat :=
  let (_, y0, _, h) := r.set.win
  (List.range h).filterMap (fun j => if y0 + j < r.rows.size then some (y0 + j) else none)

/-- STATS: the histogram of a channel (R387). -/
def Render.histogram (r : Render) (c : Nat) : List Nat :=
  let (x0, _, w, _) := r.set.win
  let a := r.winRows.foldl (fun a y => (List.range w).foldl (fun (a : Array Nat) x =>
    let b := r.channel c (x0 + x) y / 256
    a.setIfInBounds b (satNat 32 (a.getD b 0 + 1))) a) (Array.replicate 256 0)
  a.toList

/-- STATS: the mean of zone (i, j) of a channel; 0 with no row. -/
def Render.zone (r : Render) (c i j : Nat) : Nat :=
  let (x0, y0, w, h) := r.set.win
  let ys := (List.range ((j + 1) * h / 24 - j * h / 24)).filterMap (fun k =>
    let y := y0 + j * h / 24 + k
    if y < r.rows.size then some y else none)
  let xs := (List.range ((i + 1) * w / 32 - i * w / 32)).map (fun k => x0 + i * w / 32 + k)
  if ys = [] ∨ xs = [] then 0
  else divHalfEvenNat (ys.foldl (fun a y => xs.foldl (fun a x => a + r.channel c x y) a) 0) (ys.length * xs.length)

/-- A STATS item's planes (R387). -/
def Render.statsPlanes (r : Render) : List Plane :=
  let ch := (List.range 4).map (fun k => r.set.statCh.getD k 255)
  [ch.map (fun c => if c = 255 then zeros 1024 else (r.histogram c).flatMap (leBytes 4)),
   (List.range 24).map (fun j => (List.range 32).flatMap (fun i => ch.flatMap (fun c => leBytes 2 (if c = 255 then 0 else r.zone c i j))))]

/-- The format codes that a set's outputs give, in the order of R386. -/
def GaSet.kinds (s : GaSet) : List Nat :=
  (if bit s.outputs 0 then [1] else []) ++ (if bit s.outputs 1 then [if s.cDepth = 10 then 3 else 2] else []) ++
    (if bit s.outputs 2 then [4] else []) ++ (if bit s.outputs 3 then [5] else [])

/-- The planes of an item. -/
def Render.planes (r : Render) (kind : Nat) : List Plane :=
  match kind with
  | 1 => r.viewPlanes 1 (r.set.dSize.getD 0 0) (r.set.dSize.getD 1 0)
  | 4 => r.linearPlanes
  | 5 => r.statsPlanes
  | k => r.viewPlanes k (r.set.cSize.getD 0 0) (r.set.cSize.getD 1 0)

/-- The row bytes and rows of each plane of an item over `rows` input rows. -/
def GaSet.planeShape (s : GaSet) (kind rows : Nat) : List (Nat × Nat) :=
  let (_, y0, w, h) := s.win
  let n := fun oh => ((List.range oh).filter (fun j => Nat.ble (y0 * oh + (j + 1) * h) (rows * oh))).length
  let d := fun k => s.dSize.getD k 0
  let c := fun k => s.cSize.getD k 0
  match kind with
  | 1 => [(2 * d 0, n (d 1))]
  | 2 => [(c 0, n (c 1)), (c 0, n (c 1) / 2)]
  | 3 => [(2 * c 0, n (c 1)), (2 * c 0, n (c 1) / 2)]
  | 4 =>
    let m := Nat.max 1 s.mBin
    s.mChannels.map (fun _ => (2 * (w / m), Nat.min (h / m) ((rows - y0) / m)))
  | _ => [(1024, 4), (256, 24)]

/-- A length rounded up to a multiple of 32. -/
def up32 (n : Nat) : Nat := ceilDiv n 32 * 32

/-- The offsets of the planes from the header. -/
def planeOffsets : Nat → List (Nat × Nat) → List Nat
  | _, [] => []
  | o, (b, n) :: r => o :: planeOffsets (o + up32 b * n) r

/-- The length of an item, header included. -/
def itemLength (shape : List (Nat × Nat)) : Nat := shape.foldl (fun a p => a + up32 p.1 * p.2) 64

/-- WIDTH and HEIGHT of an item. -/
def GaSet.itemSize (s : GaSet) (kind rows : Nat) : Nat × Nat :=
  let (_, _, w, _) := s.win
  match kind, s.planeShape kind rows with
  | 5, _ => ((Config.statsSize 0).toNat, (Config.statsSize 1).toNat)
  | 1, (_, n) :: _ => (s.dSize.getD 0 0, n)
  | 4, (_, n) :: _ => (w / Nat.max 1 s.mBin, n)
  | _, (_, n) :: _ => (s.cSize.getD 0 0, n)
  | _, [] => (0, 0)

/-- CHANNELS of an item. -/
def GaSet.itemChannels (s : GaSet) (kind : Nat) : List Nat :=
  let l := match kind with
    | 4 => s.mChannels.map (fun c => c.getD 255)
    | 5 => s.statCh
    | _ => []
  (l ++ [255, 255, 255, 255]).take 4

/-- The 64-byte header of an item (R388). -/
def viewHeader (f : GaFrame) (i : ViewItem) (flags rows length : Nat) : List Byte :=
  let shape := f.set.planeShape i.kind rows
  let (w, h) := f.set.itemSize i.kind rows
  let offs := planeOffsets 64 shape
  leBytes 4 i.id ++ leBytes 4 length ++ leBytes 1 i.kind ++ leBytes 1 i.ctx ++ leBytes 2 flags ++ leBytes 4 f.seq ++ leBytes 8 f.time ++
    leBytes 4 f.first ++ leBytes 4 rows ++ leBytes 2 w ++ leBytes 2 h ++ leBytes 1 shape.length ++ zeros 1 ++
    leBytes 2 (up32 ((shape.headD (0, 0)).1)) ++ (f.set.itemChannels i.kind).flatMap (leBytes 1) ++ leBytes 2 f.folio ++ zeros 2 ++
    (List.range 4).flatMap (fun k => leBytes 4 (offs.getD k 0))

/-- The bytes of an item after its header. -/
def Render.body (r : Render) (kind : Nat) : List Byte := (r.planes kind).flatMap (fun p => p.flatMap padRow)

end Sys2Proof.Machine
end

