-- ==== Sys2Proof/Machine/Vault.lean ====
section
/-! DEFINITION. View items and dropped frames of the Gallery (13 R378, R381, R388-R390), and the Vault: blocks held, lent, reclaimed (08
R205-R213). -/

namespace Sys2Proof.Machine

/-- The entries of a list without repeats. -/
def distinct (l : List Nat) : List Nat := l.foldl (fun a x => if a.contains x then a else a ++ [x]) []

/-! ## Gallery contexts and items (R388-R390) -/

/-- A context at BOOT. -/
def freshCtx : GaCtx := {}

/-- Context `c`. -/
def State.gaCtx (s : State) (c : Nat) : GaCtx := storeGet (fun _ => freshCtx) s.ga.ctxs c

/-- Context `c` replaced. -/
def State.setGaCtx (s : State) (c : Nat) (x : GaCtx) : State :=
  { s with ga := { s.ga with ctxs := storePut (fun _ => freshCtx) s.ga.ctxs c x } }

/-- A bit of GA_CTX_STATUS (R393). -/
def State.gaStatus (s : State) (c k : Nat) (b : Bool) : State := s.setFlag (Obj.GA_CTX_STATUS c) k b

/-- The status bits that follow from a context's frames (R393). -/
def State.gaShow (s : State) (c : Nat) : State :=
  let x := s.gaCtx c
  let s1 := s.gaStatus c 0 x.applied.enable
  let s2 := s1.gaStatus c 1 (x.frames.any (fun f => f.receiving))
  let s3 := s2.gaStatus c 2 x.pending.isSome
  let s4 := s3.gaStatus c 3 (x.frames.any (fun f => f.selected && f.items.isEmpty && !f.toBegin.isEmpty))
  s4.gaStatus c 4 x.discarding

/-- An item in the list of items replaced by its new form. -/
def State.setItem (s : State) (i : ViewItem) : State :=
  { (s.touch Obj.GA_VIEW_DIR) with ga := { s.ga with items := s.ga.items.map (fun x => if x.id = i.id ∧ x.offset = i.offset then i else x) } }

/-- GA_VIEW_OLDEST_ID: the oldest item held whole (R389). -/
def State.showOldestView (s : State) : State :=
  match (s.ga.items.filter (fun i => Nat.beq i.state 1)).getLast? with
  | some i => s.setReg Obj.GA_VIEW_OLDEST_ID i.id
  | none => s

/-- The bytes of the view buffers: 1 GiB. -/
def viewRing : Nat := 1073741824

/-- Bytes written into the view buffers; items they touch are overwritten (R389). -/
def State.writeView (s : State) (own off : Nat) (l : List Byte) : State :=
  let hit := fun (i : ViewItem) => !(Nat.beq i.id own) && Nat.blt i.offset (off + l.length) && Nat.blt off (i.offset + i.length) &&
    !(Nat.beq i.state 3)
  let s1 := s.archWrite (viewBase + off) l
  ({ s1 with ga := { s1.ga with items := s1.ga.items.map (fun i => if hit i then { i with state := 2 } else i) } }).showOldestView

/-- An item begun for a frame of a context: its identity, its place and its header with OPEN (R388, R389). -/
def State.beginItem (s : State) (c : Nat) (f : GaFrame) (kind : Nat) : State × ViewItem :=
  let id := s.reg Obj.GA_VIEW_NEXT_ID
  let len := itemLength (f.set.planeShape kind f.set.height)
  let off := if viewRing < s.ga.at_ + len then 0 else s.ga.at_
  let i : ViewItem := ⟨id, c, f.seq, kind, off, len, 0⟩
  let s1 := s.bump Obj.GA_VIEW_NEXT_ID
  let s2 := { (s1.touch Obj.GA_VIEW_DIR) with ga := { s1.ga with at_ := up32 (off + len), items := i :: s1.ga.items } }
  (s2.writeView id off (viewHeader f i (f.flags + 64) f.rows.length len), i)

/-- Bytes of an item in one VIEW frame's payload (R390). -/
def viewPayload (i : ViewItem) (l : List Byte) : List Byte := leBytes 4 i.id ++ leBytes 1 i.ctx ++ leBytes 1 i.kind ++ zeros 2 ++ pad4 l

/-- Bytes in pieces of 8,184 with their offsets (R364, R365, R390). -/
def pieces : Nat → Nat → List Byte → List (Nat × List Byte)
  | 0, _, _ => []
  | n + 1, o, l => if l = [] then [] else (o, l.take 8184) :: pieces n (o + 8184) (l.drop 8184)

/-- The VIEW frames of an item and the last one with its final header (R390). -/
def State.sendItem (s : State) (i : ViewItem) (l header : List Byte) : State :=
  let one := fun (s : State) (off : Nat) (last : Bool) (d : List Byte) =>
    s.sendHome { s.newFrame (s.address / 64 * 64) 2 0x21 (viewPayload i d) with offset := off, last := last }
  let s1 := (pieces (l.length / 8184 + 1) 0 l).foldl (fun s p => one s p.1 false p.2) s
  one s1 0 true header

/-- What a frame's items are rendered from. -/
def GaFrame.render (f : GaFrame) (free : Nat) : Render := ⟨f.set, (f.rows.map List.toArray).toArray, free⟩

/-- An item ended complete (R389, R390). -/
def State.endItem (s : State) (f : GaFrame) (i : ViewItem) : State :=
  let body := (f.render s.free).body i.kind
  let header := viewHeader f i f.flags f.rows.length (64 + body.length)
  let done := { i with state := 1, length := 64 + body.length }
  let s1 := ((s.drawn.writeView i.id i.offset (header ++ body)).setItem done).showOldestView
  if f.set.send then s1.sendItem i (header ++ body) header else s1

/-- An item ended with DROPPED (R381). -/
def State.dropItem (s : State) (f : GaFrame) (i : ViewItem) : State :=
  let header := viewHeader f i (f.flags + 256) f.rows.length i.length
  let s1 := ((s.writeView i.id i.offset header).setItem { i with state := 3 }).showOldestView
  if f.set.send then s1.sendItem i [] header else s1

/-- A frame of a context dropped whole (R381): its blocks go, what was begun ends, and a frame still receiving is ignored to its end. -/
def State.dropFrame (s : State) (c order : Nat) : State :=
  let x := s.gaCtx c
  match x.frames.find? (fun f => Nat.beq f.order order) with
  | none => s
  | some f =>
    let s1 := f.items.foldl (fun s i => s.dropItem f i) s
    let s2 := s1.setGaCtx c { (s1.gaCtx c) with
      frames := x.frames.filter (fun g => !(Nat.beq g.order order)), discarding := x.discarding || f.receiving }
    ((s2.bump (Obj.GA_CTX_FRAMES_DROPPED c)).event 0x2601 0).gaShow c

/-! ## Blocks held (R205, R206, R378) -/

/-- The blocks a frame holds: the bytes stored and not yet taken by the pipeline. -/
def GaFrame.blocks (f : GaFrame) : Nat :=
  if f.selected then
    let b := storedBytes f.set
    ceilDiv ((f.rows.length * f.set.cols - f.taken) * b) 4096
  else 0

/-- The blocks a context holds. -/
def GaCtx.blocks (x : GaCtx) : Nat := x.frames.foldl (fun a f => a + f.blocks) 0

/-- Blocks a context has borrowed: those beyond its own reservation (R378). -/
def GaCtx.borrowed (x : GaCtx) : Nat := x.blocks - x.applied.resBlocks

/-- The contexts with something in them. -/
def State.ctxList (s : State) : List GaCtx := s.ga.ctxs.map Prod.snd

/-- Blocks the line ring of hall `h` holds. -/
def State.ringHeld (s : State) (h : Nat) : Nat :=
  s.cu.lines.foldl (fun a l => if l.halls.contains h then a + slotBlocks l.bank else a) 0

/-- The frames of this tile that wait for the link on some channels and types. -/
def State.waitingOwn (s : State) (p : Frame → Bool) : List Frame :=
  ((s.portA.unsent ++ s.portB.unsent ++ s.rg.waiting).filter (fun q => q.own && p q.frame)).map Queued.frame

/-- Payload bytes of frames. -/
def frameBytes (l : List Frame) : Nat := l.foldl (fun a f => a + f.payload.length) 0

/-- Bytes in result and crop staging: results of lines not yet retired, and RESULT and CROP frames that the link has not accepted (R193). -/
def State.stagedBytes (s : State) : Nat :=
  s.cu.lines.foldl (fun a l => l.results.foldl (fun a r => a + r.bytes.length) a) 0 +
    frameBytes (s.waitingOwn (fun f => Nat.beq f.type 0x20 || Nat.beq f.type 0x22))

/-- Blocks the link receive pools hold: forwarded frames not yet sent on. -/
def State.rxHeld (s : State) : Nat :=
  ceilDiv (64 * ((s.heldUnits .a).foldl (· + ·) 0)) 4096 + ceilDiv (64 * ((s.heldUnits .b).foldl (· + ·) 0)) 4096

/-- Blocks the link transmit pools hold: this tile's own frames that wait, staged ones apart. -/
def State.txHeld (s : State) : Nat :=
  ceilDiv (frameBytes (s.waitingOwn (fun f => !(Nat.beq f.type 0x20 || Nat.beq f.type 0x22)))) 4096

/-- Blocks the Catalogue and Folio buffers hold: queued requests and open transfers. -/
def State.catHeld (s : State) : Nat :=
  ceilDiv (1024 * s.cat.queue.length + s.cat.transfers.foldl (fun a t => a + t.data.length) 0) 4096

/-- Blocks held by each user, in the order of R232. -/
def State.held (s : State) : List Nat :=
  (List.range 8).map s.ringHeld ++
    [ceilDiv s.stagedBytes 4096, s.ctxList.foldl (fun a x => a + x.blocks) 0, s.rxHeld, s.txHeld, s.catHeld]

/-- Are lines of an earlier Folio not yet retired (R197)? -/
def State.oldLines (s : State) : Bool :=
  s.cu.lines.any (fun l => !(Nat.beq l.era s.cu.era)) || s.la.flights.any (fun f => !(Nat.beq f.trig.era s.cu.era)) ||
    s.lt.held.any (fun g => !(Nat.beq g.era s.cu.era))

/-- The Folio whose ring reservation applies: the old one until its last line has retired (R213). -/
def State.ringBank (s : State) : Bank := if s.oldLines then s.cat.staged else s.cat.active

/-- Reservations of each user, in the order of R232. -/
def State.reserves (s : State) : List Nat :=
  (List.range 8).map (fun h => if bit (s.ringBank.num Obj.PX_HALL_ENABLE) h then ringReserve s.ringBank else 0) ++
    otherReserves s.cat.vol

/-- Blocks borrowed by each user. -/
def State.borrowed (s : State) : List Nat :=
  (List.zipWith (fun h r => h - r) s.held s.reserves).set 9 (s.ctxList.foldl (fun a x => a + x.borrowed) 0)

/-- VA_LENDABLE (R206). -/
def State.lendable (s : State) : Nat := 6144 - s.reserves.foldl (· + ·) 0

/-- VA_FREE: lendable blocks now free. -/
def State.vaFree (s : State) : Nat := s.lendable - s.borrowed.foldl (· + ·) 0

/-! ## Requests (R207-R209) -/

/-- The frame that holds the block lent longest ago: its context and order, and what it would free. -/
def State.oldestLent (s : State) : Option (Nat × Nat) :=
  let l := s.ga.ctxs.flatMap (fun p => if 0 < p.2.borrowed then
      p.2.frames.filterMap (fun f => if 0 < f.blocks then some (f.lentAt.getD f.order, p.1, f.order) else none) else [])
  (l.foldl (fun m x => match m with
    | none => some x
    | some y => if x.1 < y.1 then some x else some y) none).map (fun x => x.2)

/-- The Gallery's frames dropped, the one with the block lent longest ago first, until `n` lendable blocks are free (R208). -/
def reclaim (n : Nat) : Nat → State → State
  | 0, s => s
  | k + 1, s =>
    if n ≤ s.vaFree then s
    else match s.oldestLent with
      | none => s
      | some (c, o) => reclaim n k (((s.dropFrame c o).bump Obj.VA_RECLAIMS).event 0x2502 0)

/-- A request of user `u` for `n` blocks more, served whole or refused (R207, R209, R211): the new state where it is granted. Line rings and staging
may reclaim. -/
def State.vaRequest (s : State) (u n : Nat) : Option State :=
  let have_ := s.held.getD u 0
  let own := Nat.min n (s.reserves.getD u 0 - have_)
  let lend := n - own
  let b := s.borrowed.getD u 0
  if lend = 0 then some s
  else if s.reg Obj.VA_BORROW_LIMIT < b + lend then none
  else if lend ≤ s.vaFree then some s
  else if u ≤ 8 ∧ lend ≤ s.vaFree + s.borrowed.getD 9 0 then some (reclaim lend 64 s)
  else none

/-- A refusal counted and recorded (R209). -/
def State.vaFail (s : State) (u : Nat) : State := (s.bump Obj.VA_BORROW_FAILS).event 0x2503 u

/-- The Gallery's request for a context that comes to hold `n` blocks: within its own reservation, or lent (R378). -/
def State.gaRequest (s : State) (c n : Nat) : Bool :=
  let x := s.gaCtx c
  let lend := n - x.applied.resBlocks
  let more := lend - x.borrowed
  Nat.beq more 0 || (Nat.ble (s.borrowed.getD 9 0 + more) (s.reg Obj.VA_BORROW_LIMIT) && Nat.ble more s.vaFree)

/-- The 26 bytes of a per-user BLOB. -/
def userBytes (l : List Nat) : List Byte := l.flatMap (leBytes 2)

end Sys2Proof.Machine
end

