-- ==== Sys2Proof/Machine/Crops.lean ====
section
/-! DEFINITION. Crops (06 R165; 08 R224-R226; 12 R365): started, joined, grown and ended as lines retire. -/

namespace Sys2Proof.Machine

/-- The bytes of the crop ring: 1 GiB. -/
def cropRing : Nat := 1073741824

/-- The stride of a crop line (R225). -/
def cropStride (ncol nband : Nat) : Nat := ceilDiv (16 + 2 * ncol * nband) 32 * 32

/-- LENGTH of a crop. -/
def Crop.length (c : Crop) : Nat := 32 + c.lines * cropStride c.ncol c.nband

/-- The header of a crop (R224). -/
def Crop.header (c : Crop) (isOpen : Bool) : List Byte :=
  leBytes 4 c.id ++ leBytes 4 c.length ++ leBytes 4 c.firstLine.toNat ++ leBytes 4 c.lines ++ leBytes 2 c.region ++ leBytes 2 c.col0 ++
    leBytes 2 c.ncol ++ leBytes 1 c.bands ++ leBytes 1 c.bin ++ leBytes 2 c.folio ++ leBytes 2 (c.flags + (if isOpen then 16 else 0)) ++ zeros 4

/-- Do `n` bytes of the ring at `a` and `m` bytes at `b` meet, both modulo its size? -/
def ringMeets (a n b m : Nat) : Bool :=
  Nat.blt ((b + cropRing - a) % cropRing) n || Nat.blt ((a + cropRing - b) % cropRing) m

/-- An entry of the crop directory written (R226); reads of it that run become stale (R230). -/
def State.dirEntry (s : State) (id off len state : Nat) : State :=
  let k := 16 * (id % 65536)
  let s1 := s.archWrite (cropDirBase + k) (leBytes 4 id ++ leBytes 4 off ++ leBytes 4 len ++ leBytes 4 state)
  { s1 with cu := { s1.cu with reads := s1.cu.reads.map (fun (r : BulkRead) =>
      if Nat.beq r.space 4 && Nat.blt r.first (k + 16) && Nat.blt k (r.first + r.total) then { r with stale := true } else r) } }

/-- VA_CROP_OLDEST_ID: the oldest crop held whole (R224). -/
def State.showOldestCrop (s : State) : State :=
  match (s.cu.cropsHeld.filter (fun h => !(s.cu.crops.any (fun c => Nat.beq c.id h.1)))).getLast? with
  | some h => s.setReg Obj.VA_CROP_OLDEST_ID h.1
  | none => s

/-- Bytes written into the crop ring for crop `own`, wrapping; older crops they touch are overwritten (R224, R226), reads of them that run
become stale (R230). -/
def State.writeCrop (s : State) (own off : Nat) (l : List Byte) : State :=
  let o := off % cropRing
  let first := l.take (cropRing - o)
  let s1 := (s.archWrite (cropRingBase + o) first).archWrite cropRingBase (l.drop first.length)
  let hit := fun (h : Nat × Nat × Nat) => !(Nat.beq h.1 own) && ringMeets o l.length h.2.1 h.2.2
  let lost := s1.cu.cropsHeld.filter hit
  let s2 := { s1 with cu := { s1.cu with
    cropsHeld := s1.cu.cropsHeld.filter (fun h => !(hit h))
    reads := s1.cu.reads.map (fun (r : BulkRead) =>
      if Nat.beq r.space 3 && ringMeets o l.length (r.first % cropRing) r.total then { r with stale := true } else r) } }
  (lost.foldl (fun (s : State) h => s.dirEntry h.1 h.2.1 h.2.2 2) s2).showOldestCrop

/-- Bytes of the crop ring, wrapping. -/
def State.readCrop (s : State) (off n : Nat) : List Byte :=
  let o := off % cropRing
  let first := Nat.min n (cropRing - o)
  s.archRead (cropRingBase + o) first ++ s.archRead cropRingBase (n - first)

/-- The crop replaced by its new form. -/
def State.setCrop (s : State) (c : Crop) : State :=
  { s with cu := { s.cu with crops := s.cu.crops.map (fun x => if x.id = c.id then c else x) } }

/-- A CROP frame (R365). -/
def State.cropFrame (s : State) (c : Crop) (off : Nat) (last : Bool) (l : List Byte) : State :=
  s.sendHome { s.newFrame (s.address / 64 * 64) 2 0x22 (leBytes 4 c.id ++ zeros 4 ++ l) with offset := off, last := last }

/-- The CROP frames that a crop's bytes fill by now; with `all` also the rest (R365). -/
def State.sendCrop (s : State) (c : Crop) (all : Bool) : State :=
  if c.send then
    let whole := (c.length - c.sent) / 8184
    let upTo := if all then c.length else c.sent + whole * 8184
    let l := s.readCrop (c.offset + c.sent) (upTo - c.sent)
    let s1 := (pieces (l.length / 8184 + 1) c.sent l).foldl (fun s p => s.cropFrame c p.1 false p.2) s
    s1.setCrop { c with sent := upTo }
  else s

/-- One crop line (R225): `none` for a line of KIND 2, and columns that the line no longer has as the free value of log entry 18. -/
def cropLine (c : Crop) (l : LineRec) : List Byte :=
  let w := l.head.words
  let bands := if l.samples = [] then List.replicate c.nband [] else l.samples
  let px := bands.flatMap (fun b => (List.range c.ncol).flatMap (fun j => leBytes 2 (b.getD (c.col0 + j) 0xFFFF).toNat))
  let bytes := leBytes 4 (w.getD 1 0) ++ leBytes 4 l.head.repeatIndex ++ leBytes 4 (w.getD 6 0) ++ zeros 4 ++ px
  bytes ++ zeros (cropStride c.ncol c.nband - bytes.length)

/-- A crop ended (R165, R224, R226, R365): its header and directory entry rewritten, its last bytes and the final header sent. -/
def State.endCrop (s : State) (c : Crop) : State :=
  let s1 := s.writeCrop c.id c.offset (c.header false)
  let s2 := s1.dirEntry c.id c.offset c.length 1
  let s3 := s2.sendCrop c true
  let s4 := if c.send then s3.cropFrame c 0 true (c.header false) else s3
  let at_ := if s4.cu.cropAt = c.room then up32 (c.offset + c.length) % cropRing else s4.cu.cropAt
  State.showOldestCrop { s4 with cu := { s4.cu with
    crops := s4.cu.crops.filter (fun x => !(Nat.beq x.id c.id))
    cropAt := at_
    cropsHeld := s4.cu.cropsHeld.map (fun (h : Nat × Nat × Nat) => if h.1 = c.id then (c.id, c.offset, c.length) else h) } }

/-- May staging take `n` bytes more (R193, R209)? The state with what had to be reclaimed. -/
def State.stage (s : State) (n : Nat) : Option State :=
  s.vaRequest 8 (ceilDiv (s.stagedBytes + n) 4096 - s.held.getD 8 0)

/-- A crop grown by a retiring line and ended when it is due (R165, R209): a line not staged ends it with TRUNC. -/
def State.growCrop (s : State) (c0 : Crop) (l : LineRec) : State :=
  let waits := c0.waits.filter (fun k => !(l.closed.contains k))
  let c := { c0 with waits := waits, postLeft := if waits = [] then some (c0.postLeft.getD (c0.post + 1)) else c0.postLeft }
  let bytes := cropLine c l
  match s.stage bytes.length with
  | none => (s.vaFail 8).endCrop { c0 with flags := withBit c0.flags 0 true }
  | some s1 =>
    let c1 := { c with lines := c.lines + 1, postLeft := c.postLeft.map (· - 1) }
    let s3 := (s1.writeCrop c.id (c.offset + c.length) bytes).setCrop c1
    let s4 := { s3 with cu := { s3.cu with
      cropsHeld := s3.cu.cropsHeld.map (fun (h : Nat × Nat × Nat) => if h.1 = c.id then (c.id, c.offset, c1.length) else h) } }
    let s5 := s4.sendCrop c1 false
    let c2 := (s5.cu.crops.find? (fun x => Nat.beq x.id c.id)).getD c1
    if c1.postLeft = some 0 then s5.endCrop c2
    else if c1.max ≤ c1.lines then
      if c1.waits = [] then s5.endCrop c2
      else ((s5.endCrop { c2 with flags := withBit c2.flags 0 true }).bump Obj.KN_CROP_TRUNC).event 0x2403 0
    else s5

/-- The window of a request: its columns clipped to the spectral line, and whether they were (R165). -/
def cropWindow (b : Bank) (centre cols : Nat) : Nat × Nat × Bool :=
  let w := 8192 / Nat.max 1 (b.num Obj.PX_COL_BIN)
  let lo : Int := (centre : Int) - ((cols / 2 : Nat) : Int)
  let hi : Int := lo + (cols : Int)
  let a := lo.toNat
  let z := Nat.min hi.toNat w
  (a, z - a, decide (lo < 0) || decide ((w : Int) < hi))

/-- The lines of a crop laid out again for a wider window: what it held before, and the free value of log entry 18 in columns it did not have. -/
def State.widened (s : State) (c : Crop) (col0 ncol : Nat) : List Byte :=
  let old := cropStride c.ncol c.nband
  let new := cropStride ncol c.nband
  (List.range c.lines).flatMap (fun k =>
    let l := s.readCrop (c.offset + 32 + k * old) old
    let px := (List.range c.nband).flatMap (fun b => (List.range ncol).flatMap (fun j =>
      let x := col0 + j
      if c.col0 ≤ x ∧ x < c.col0 + c.ncol then (l.drop (16 + 2 * (b * c.ncol + (x - c.col0)))).take 2
      else leBytes 2 (Config.cropUnseen s.free (k * 65536 + b * 8192 + x)).toNat))
    let bytes := l.take 16 ++ px
    bytes ++ zeros (new - bytes.length))

/-- A request joined to an open crop (R165): the union of the windows, at most 1,024 columns, and its blob waited for. -/
def State.joinCrop (s : State) (c : Crop) (k : CropKey) (a n : Nat) (clipped : Bool) : State :=
  let lo := Nat.min c.col0 a
  let hi := Nat.max (c.col0 + c.ncol) (a + n)
  let cols := Nat.min 1024 (hi - lo)
  let body := s.widened c lo cols
  let c1 := { c with col0 := lo, ncol := cols, sent := 0, waits := c.waits ++ [k], postLeft := none
                     flags := withBit (if clipped then withBit c.flags 2 true else c.flags) 1 true }
  let s1 := (s.drawn.writeCrop c.id c.offset (c1.header true ++ body)).setCrop c1
  let s2 := { s1 with cu := { s1.cu with
    cropIds := (k, c.id) :: s1.cu.cropIds
    cropsHeld := s1.cu.cropsHeld.map (fun (h : Nat × Nat × Nat) => if h.1 = c.id then (c.id, c.offset, c1.length) else h) } }
  s2.bump Obj.KN_CROPS_MERGED

/-- A crop started by a request (R165, R224, R226). No line before it is still held in a ring when its line retires, so a CROP_PRE above 0 gives
PRE_SHORT (log entry 20). -/
def State.startCrop (s : State) (l : LineRec) (k : CropKey) (params : List Byte) (a n : Nat) (clipped : Bool) : State :=
  let id := s.reg Obj.VA_CROP_NEXT_ID
  let nband := (enabledBands l.bank).length
  let max := Nat.max 1 (leAt params 0x1E 2)
  let off := s.cu.cropAt
  let room := (off + 32 + max * cropStride 1024 nband) % cropRing
  let c : Crop := {
    id := id, region := k.region, era := l.era, offset := off, room := room, col0 := a, ncol := n, bands := l.head.bands, nband := nband
    bin := Nat.max 1 (l.bank.num Obj.PX_COL_BIN), folio := l.head.folio, firstLine := l.head.line, begun := l.number, lines := 0
    flags := (if clipped then 4 else 0) + (if leAt params 0x1A 2 = 0 then 0 else 8)
    waits := [k], postLeft := none, post := leAt params 0x1C 2, max := max, send := Nat.beq (l.bank.num Obj.KN_CROP_SEND) 1, sent := 0 }
  let s1 := { s with cu := { s.cu with
    crops := s.cu.crops ++ [c], cropAt := room, cropIds := (k, id) :: s.cu.cropIds, cropsHeld := (id, off, c.length) :: s.cu.cropsHeld } }
  let s2 := (s1.bump Obj.VA_CROP_NEXT_ID).bump Obj.KN_CROPS
  (s2.writeCrop id off (c.header true)).dirEntry id off c.length 0

/-- A crop request of a retiring line (R165). -/
def State.cropRequest (s : State) (l : LineRec) (k : CropKey) : State :=
  let params := regionParams l.bank (region l.bank k.region)
  let (a, n, clipped) := cropWindow l.bank k.centre (leAt params 0x18 2)
  let joins := fun (c : Crop) => Nat.beq c.region k.region && Nat.beq c.era l.era && Nat.ble l.number (c.begun + 2) &&
    Nat.blt a (c.col0 + c.ncol) && Nat.blt c.col0 (a + n)
  match s.cu.crops.find? joins with
  | some c => s.joinCrop c k a n clipped
  | none => s.startCrop l k params a n clipped

/-- What a retiring line does to the crops: those of an earlier Accession end, its requests are acted on, every open crop takes the line. -/
def State.cropsOf (s : State) (l : LineRec) : State :=
  let s1 := (s.cu.crops.filter (fun c => !(Nat.beq c.era l.era))).foldl (fun (s : State) c => s.endCrop c) s
  let s2 := l.requests.foldl (fun s k => s.cropRequest l k) s1
  s2.cu.crops.foldl (fun s c => match s.cu.crops.find? (fun x => Nat.beq x.id c.id) with
    | some x => s.growCrop x l
    | none => s) s2

end Sys2Proof.Machine
end

