-- ==== Sys2Proof/Machine/Pins.lean ====
section
/-! DEFINITION. Pins, banks and pin engines (15). -/

namespace Sys2Proof.Machine

/-! ## Configuration and pads (R422-R427) -/

/-- Is strobe window `x` open (R69)? -/
def State.strobeOn (s : State) (x : Nat) : Bool := s.lt.strobes.any (fun p => Nat.beq p.1 x)

/-- The configuration word of pin `p` (R423). -/
def State.pinCfg (s : State) (p : Nat) : Nat := s.cat.work.le Obj.PE_PIN_CFG (4 * p) 4

/-- FUNC, OWNER and the other fields of a configuration word. -/
def cfgFunc (w : Nat) : Nat := field w 18 16
def cfgOwner (w : Nat) : Nat := field w 23 19
def cfgStb (w : Nat) : Nat := field w 15 14
def cfgInvert (w : Nat) : Bool := bit w 13
def cfgPull (w : Nat) : Nat := field w 12 11
def cfgOpenDrain (w : Nat) : Bool := bit w 8
def cfgSafe (w : Nat) : Nat := field w 4 3

/-- A pin engine at BOOT. -/
def freshPinEngine : PinEngine := {}

/-- Pin engine `e`. -/
def State.pinEngine (s : State) (e : Nat) : PinEngine := storeGet (fun _ => freshPinEngine) s.pins.engines e

/-- Pin engine `e` replaced. -/
def State.setPinEngine (s : State) (e : Nat) (g : PinEngine) : State :=
  { s with pins := { s.pins with engines := storePut (fun _ => freshPinEngine) s.pins.engines e g } }

/-- Bank `b`. -/
def State.vioBank (s : State) (b : Nat) : VioBank := storeGet (fun _ => {}) s.pins.banks b

/-- Do pin engines run in this tile state (R424)? -/
def State.pinsLive (s : State) : Bool := match s.tile.state with | .ready | .run => true | _ => false

/-- Is pin engine `e` enabled and not stopped (R441)? -/
def State.pinRuns (s : State) (e : Nat) : Bool := s.pinsLive && bit (s.reg Obj.PE_ENABLE) e

/-- An engine's pin settings (R428). -/
def State.fieldBase (s : State) (e : Nat) : Nat := (s.cat.vol.byte (Obj.PEN_PINS e) 0).toNat
def State.fieldWidth (s : State) (e : Nat) : Nat := (s.cat.vol.byte (Obj.PEN_PINS e) 1).toNat
def State.probeBase (s : State) (e : Nat) : Nat := (s.cat.vol.byte (Obj.PEN_PINS e) 2).toNat
def State.tickPin (s : State) (e : Nat) : Nat := (s.cat.vol.byte (Obj.PEN_PINS e) 3).toNat
def State.tickEnabled (s : State) (e : Nat) : Bool := decide (s.cat.vol.byte (Obj.PEN_PINS e) 4 = 1)

/-- Field pin `i` of engine `e`. -/
def State.fieldPin (s : State) (e i : Nat) : Nat := (s.fieldBase e + i) % 256

/-- Does engine `e` own pin `p` (R433)? An LVDS pair follows its even pin (R425). -/
def State.owns (s : State) (e p : Nat) : Bool :=
  let w := s.pinCfg p
  Nat.beq (cfgOwner w) e && (Nat.beq (cfgFunc w) 1 || Nat.beq (cfgFunc w) 3)

/-- The level an engine has given a pin. -/
def PinEngine.level (g : PinEngine) (p : Nat) : Bool := storeGet (fun _ => false) g.latch p

/-- Does engine `e` have pin `p` as an output: its tick pin, or a field pin whose direction is output? -/
def State.isOutput (s : State) (e p : Nat) : Bool :=
  let i := (p + 256 - s.fieldBase e) % 256
  (s.tickEnabled e && Nat.beq (s.tickPin e) p) ||
    (Nat.blt i (s.fieldWidth e) && bit (s.pinEngine e).dirs i)

/-- The SAFE level of a pin (R423): the last level driven under hold. -/
def State.safeLevel (s : State) (p : Nat) : Option Bool :=
  let w := s.pinCfg p
  match cfgSafe w with
  | 0 => none
  | 1 => some false
  | 2 => some true
  | _ => some ((s.pinEngine (cfgOwner w)).level p != cfgInvert w)

/-- A level driven by a pin with a configuration word: an open drain drives low only (R423). -/
def drainLevel (w : Nat) (v : Bool) : Option Bool := if cfgOpenDrain w && v then none else some v

/-- What the tile drives on a pin (R422, R424): `none` for high impedance. -/
def State.pinDrive (s : State) (p : Nat) : Option Bool :=
  let w := s.pinCfg p
  if (s.vioBank (p / 32)).faulty then none
  else
    let safe := (s.safeLevel p).bind (drainLevel w)
    match s.tile.state with
    | .off | .boot | .selftest => none
    | .calload | .linkup | .rest | .fault => if cfgFunc w = 1 ∨ cfgFunc w = 2 ∨ cfgFunc w = 3 then safe else none
    | .ready | .run =>
      match cfgFunc w with
      | 1 | 3 =>
        let e := cfgOwner w
        if s.pinRuns e then
          if s.isOutput e p then drainLevel w ((s.pinEngine e).level p != cfgInvert w) else none
        else safe
      | 2 => drainLevel w ((s.strobeOn (cfgStb w)) != cfgInvert w)
      | _ => none

/-- The level at a pad: what the tile drives, else what was last seen there, else the pull (R423, R444). -/
def State.padLevel (s : State) (p : Nat) : Bool :=
  match s.pinDrive p with
  | some v => v
  | none => match storeFind p s.pins.pads with
    | some v => v
    | none => Nat.beq (cfgPull (s.pinCfg p)) 2

/-- The level engines read (R425, R423): after INVERT, and 0 on the odd pin of an LVDS pair. -/
def State.pinRead (s : State) (p : Nat) : Bool :=
  let lvds := fun q => Nat.beq (cfgFunc (s.pinCfg q)) 3 || Nat.beq (cfgFunc (s.pinCfg q)) 4
  if p % 2 = 1 && lvds (p - 1) then false
  else s.padLevel p != cfgInvert (s.pinCfg p)

/-- A level seen at a pad. -/
def State.seePad (s : State) (p : Nat) (v : Bool) : State :=
  { s with pins := { s.pins with pads := storeInsert p v s.pins.pads } }

/-- The 32 bytes of PE_PIN_LEVEL (R444). -/
def State.pinLevelBytes (s : State) : List Byte := bitmapBytes 32 ((List.range 256).map s.padLevel)

/-! ## Bank supplies (R422) -/

/-- One bank's supply code sampled. -/
def State.sampleBank (s : State) (b code : Nat) : State :=
  let v := s.vioBank b
  let acc := match v.accepted with
    | some c => some c
    | none => if 1 ≤ code ∧ code ≤ 3 then some code else none
  let bad := code = 0 ∨ 3 < code ∨ acc ≠ some code
  let put := fun (s : State) (v : VioBank) =>
    { s with pins := { s.pins with banks := storePut (fun _ => ({} : VioBank)) s.pins.banks b v } }
  if bad then
    let s1 := put s { accepted := acc, faulty := true, backSince := none }
    if v.faulty then s1 else (s1.setFlag Obj.PE_STATUS b true).event 0x2802 (256 * b + code)
  else if v.faulty then
    let since := v.backSince.getD s.now
    if since + 10000000 ≤ s.now then
      ((put s { accepted := acc, faulty := false, backSince := none }).setFlag Obj.PE_STATUS b false).event 0x2802
        (256 * b + code)
    else put s { accepted := acc, faulty := true, backSince := some since }
  else put s { accepted := acc, faulty := false, backSince := none }

/-- The supplies measured every 1 ms. -/
def State.sampleBanks (s : State) (codes : List Nat) : State :=
  let s1 := s.setBlob Obj.PE_BANK_VIO (sliceBytes (codes.map (BitVec.ofNat 8)) 0 8)
  (List.range 8).foldl (fun s b => s.sampleBank b (codes.getD b 0)) s1

/-- Is one configuration word refused (R423)? -/
def cfgReserved (w : Nat) : Bool :=
  !(Nat.beq (field w 31 24) 0) || Nat.ble 5 (cfgFunc w) || Nat.beq (cfgPull w) 3 || !(Nat.beq (field w 2 0) 0)

/-- Is a written PE_PIN_CFG refused with RANGE (R423)? -/
def State.pinCfgRefused (s : State) (l : List Byte) : Bool :=
  let w := fun p => leAt l (4 * p) 4
  (List.range 256).any (fun p =>
    let f := cfgFunc (w p)
    cfgReserved (w p) ||
    ((Nat.beq f 3 || Nat.beq f 4) &&
      (Nat.beq (p % 2) 1 || !(decide (s.cat.vol.byte Obj.PE_BANK_VIO (p / 32) = 2)) || !(Nat.beq (cfgFunc (w (p + 1))) 0))) ||
    ((s.vioBank (p / 32)).faulty && !(Nat.beq f 0)))

/-- A configuration accepted: each bank's present code becomes its accepted one (R422). -/
def State.acceptBanks (s : State) : State :=
  (List.range 8).foldl (fun s b =>
    let c := (s.cat.vol.byte Obj.PE_BANK_VIO b).toNat
    let v := s.vioBank b
    if v.faulty ∨ c = 0 ∨ 3 < c then s
    else { s with pins := { s.pins with banks := storePut (fun _ => ({} : VioBank)) s.pins.banks b { v with accepted := some c } } }) s

/-! ## Position and status of an engine (R431, R436) -/

/-- POS: bits [31:0] of the model station position as a whole count, rounded half to even (R436). -/
def State.pos32 (s : State) : Word := BitVec.ofInt 32 (divHalfEven s.station 256000000000000)

/-- STATUS of MOVE (R431). -/
def PinEngine.status (g : PinEngine) : Word :=
  BitVec.ofNat 32 (256 * g.rx.length + 16 * g.tx.length + g.ev.length)

/-- The bits of a word reversed. -/
def reverseWord (w : Word) : Word := BitVec.ofNat 32 (bitsToNat ((List.range 32).map (fun i => w.getLsbD (31 - i))))

/-- The MOVE operations. -/
def moveOp (op : Nat) (w : Word) : Word :=
  match op with
  | 0 => w
  | 1 => ~~~w
  | 2 => reverseWord w
  | _ => (w <<< 16) ||| (w >>> 16)

/-- FRAME_OUT, FRAME_IN and the flags of PE_n_SHIFT (R431, R444). -/
def State.shiftCfg (s : State) (e : Nat) : Nat := s.reg (Obj.PEN_SHIFT e)
def frameOut (w : Nat) : Nat := if field w 15 11 = 0 then 32 else field w 15 11
def frameIn (w : Nat) : Nat := if field w 10 6 = 0 then 32 else field w 10 6

/-- Levels written to field pins: bit `i` of `v` where `m` has bit `i`; only owned pins below FIELD_WIDTH. -/
def State.driveField (s : State) (e : Nat) (g : PinEngine) (v m : Nat) : PinEngine :=
  (List.range (s.fieldWidth e)).foldl (fun g i =>
    let p := s.fieldPin e i
    if bit m i && s.owns e p then { g with latch := storePut (fun _ => false) g.latch p (bit v i) } else g) g

/-- The field pins read: bit `i` from field pin `i`. -/
def State.readField (s : State) (e n : Nat) : Nat := bitsToNat ((List.range n).map (fun i => s.pinRead (s.fieldPin e i)))

/-- The tick field at issue (R430). -/
def State.applyTick (s : State) (e tick : Nat) (g : PinEngine) : PinEngine :=
  let p := s.tickPin e
  if s.tickEnabled e && s.owns e p then
    match tick with
    | 1 => { g with latch := storePut (fun _ => false) g.latch p false }
    | 2 => { g with latch := storePut (fun _ => false) g.latch p true }
    | 3 => { g with latch := storePut (fun _ => false) g.latch p (!(g.level p)) }
    | _ => g
  else g

/-! ## Shifting (R431) -/

/-- `n` bits taken from SO: bits beyond those remaining are zeros. -/
def PinEngine.shiftOut (g : PinEngine) (msb : Bool) (n : Nat) : Nat × PinEngine :=
  let k := Nat.min n g.soBits
  let bits := (List.range n).map (fun j =>
    if j < k then (if msb then g.so.getLsbD (31 - j) else g.so.getLsbD j) else false)
  let v := if msb then bitsToNat bits.reverse else bitsToNat bits
  (v, { g with so := if msb then g.so <<< n else g.so >>> n, soBits := g.soBits - n })

/-- `n` bits of a value shifted into SI. -/
def PinEngine.shiftIn (g : PinEngine) (msb : Bool) (n v : Nat) : PinEngine :=
  let x := BitVec.ofNat 32 (v % 2 ^ n)
  { g with si := if msb then (g.si <<< n) ||| x else (g.si >>> n) ||| (x <<< (32 - n)), siBits := Nat.min 32 (g.siBits + n) }

/-- SI sent to RX. -/
def PinEngine.sendSi (g : PinEngine) : PinEngine := { g with rx := g.rx ++ [g.si], siBits := 0 }

/-! ## Conditions (R430, R432) -/

/-- The GO conditions: whether taken, and CT after it. -/
def State.goTaken (s : State) (e : Nat) (g : PinEngine) (cond : Nat) : Bool :=
  match cond with
  | 0 => true
  | 1 => decide (g.ag = 0)
  | 2 => decide (g.ag ≠ 0)
  | 3 => decide (g.ct = 0)
  | 4 => decide (g.ct ≠ 0)
  | 5 => decide (g.ag = g.ct)
  | 6 => decide (g.ag ≠ g.ct)
  | 7 => s.pinRead (s.probeBase e)
  | 8 => !(s.pinRead (s.probeBase e))
  | 9 => Nat.beq g.soBits 0
  | 10 => !(Nat.beq g.soBits 0)
  | 11 => !g.ev.isEmpty
  | 12 => !g.tx.isEmpty
  | 13 => g.ag.getLsbD 31
  | _ => false

/-- At or beyond on 32 bits (R436). -/
def beyond32 (pos target : Word) : Bool := !((pos - target).getLsbD 31)

/-- Does an AWAIT's condition hold (R430, R432)? A pulse holds once it has occurred after the issue. -/
def State.awaitHolds (s : State) (e : Nat) (g : PinEngine) (sense : Bool) (src idx pulses starts : Nat) : Bool :=
  match src with
  | 0 => s.pinRead ((s.probeBase e + idx) % 256) == sense
  | 1 => !g.ev.isEmpty
  | 2 =>
    if idx < 4 then (s.strobeOn idx) == sense
    else if idx = 4 then Nat.blt pulses s.lt.pulses
    else if idx = 5 then Nat.blt starts s.lt.starts
    else (decide (s.tile.state = .run)) == sense
  | _ => (beyond32 s.pos32 (if idx = 0 then g.ag else g.ct)) == sense

/-! ## One instruction (R429-R431) -/

/-- What an attempt to complete an instruction gives: the engine and whether RX dropped a word; `none` is a stall. A
program counter set by the instruction is the third part. -/
structure PinDone where
  engine : PinEngine
  dropped : Bool := false
  pc : Option Nat := none
  deriving DecidableEq, Repr

/-- An automatic refill, if one is due: `none` where TX is empty. -/
def PinEngine.autoFill (g : PinEngine) (cfg : Nat) : Option PinEngine :=
  if bit cfg 1 && Nat.beq g.soBits 0 then
    match g.tx with
    | w :: r => some { g with so := w, soBits := frameOut cfg, tx := r }
    | [] => none
  else some g

/-- An instruction attempted. -/
def State.pinAttempt (s : State) (e : Nat) (g : PinEngine) (st : PinStall) : Option PinDone :=
  let cfg := s.shiftCfg e
  match st.op with
  | .nop => some ⟨g, false, none⟩
  | .take => match g.ev with
    | x :: r => some ⟨{ g with ag := x.1, ct := x.2, ev := r }, false, none⟩
    | [] => none
  | .add => some ⟨{ g with ag := g.ag + g.ct }, false, none⟩
  | .sub => some ⟨{ g with ag := g.ag - g.ct }, false, none⟩
  | .xch => some ⟨{ g with ag := g.ct, ct := g.ag }, false, none⟩
  | .ldk dst k =>
    let v := BitVec.ofNat 32 (storeGet (fun _ => 0) g.k k)
    some ⟨(match dst with
      | 0 => { g with ag := v }
      | 1 => { g with ct := v }
      | _ => { g with so := v, soBits := frameOut cfg }), false, none⟩
  | .ldi ct v =>
    let w := BitVec.ofNat 32 v
    some ⟨if ct then { g with ct := w } else { g with ag := w }, false, none⟩
  | .move dst src op =>
    let v := moveOp op (match src with
      | 0 => g.ag
      | 1 => g.ct
      | 2 => g.so
      | 3 => g.si
      | 4 => BitVec.ofNat 32 (s.readField e (s.fieldWidth e))
      | 5 => s.pos32
      | 6 => g.status
      | _ => 0)
    (match dst with
      | 0 => some ⟨{ g with ag := v }, false, none⟩
      | 1 => some ⟨{ g with ct := v }, false, none⟩
      | 2 => some ⟨{ g with so := v, soBits := frameOut cfg }, false, none⟩
      | 3 => some ⟨{ g with si := v, siBits := 0 }, false, none⟩
      | 4 => some ⟨s.driveField e g v.toNat 255, false, none⟩
      | 5 => some ⟨{ g with dirs := v.toNat % 256 }, false, none⟩
      | _ => some ⟨g, false, some (v.toNat % 32)⟩)
  | .pin mode v =>
    some ⟨(match mode with
      | 0 => s.driveField e g v 255
      | 1 => s.driveField e g v v
      | 2 => s.driveField e g 0 v
      | _ => { g with dirs := v % 256 }), false, none⟩
  | .shout dst n => (g.autoFill cfg).map (fun g1 =>
      let (v, g2) := g1.shiftOut (bit cfg 3) n
      match dst with
      | 0 => ⟨s.driveField e g2 v (2 ^ n - 1), false, none⟩
      | 1 => ⟨{ g2 with ag := BitVec.ofNat 32 v }, false, none⟩
      | 2 => ⟨{ g2 with ct := BitVec.ofNat 32 v }, false, none⟩
      | _ => ⟨g2, false, none⟩)
  | .shin src n =>
    let v := match src with
      | 0 => s.readField e (Nat.min n (s.fieldWidth e))
      | 1 => g.ag.toNat
      | 2 => s.pos32.toNat
      | _ => 0
    if bit cfg 0 && Nat.ble (frameIn cfg) (Nat.min 32 (g.siBits + n)) then
      if g.rx.length < 8 then some ⟨(g.shiftIn (bit cfg 2) n v).sendSi, false, none⟩ else none
    else some ⟨g.shiftIn (bit cfg 2) n v, false, none⟩
  | .fill ifReady block =>
    if ifReady && !(Nat.beq g.soBits 0) then some ⟨g, false, none⟩
    else match g.tx with
      | w :: r => some ⟨{ g with so := w, soBits := frameOut cfg, tx := r }, false, none⟩
      | [] => if block then none else some ⟨{ g with so := g.ag, soBits := frameOut cfg }, false, none⟩
  | .send ifReady block =>
    if ifReady && Nat.blt g.siBits (frameIn cfg) then some ⟨g, false, none⟩
    else if g.rx.length < 8 then some ⟨g.sendSi, false, none⟩
    else if block then none
    else some ⟨{ g with siBits := 0 }, true, none⟩
  | .await sense src idx =>
    if s.awaitHolds e g sense src idx st.pulses st.starts then some ⟨g, false, none⟩ else none
  | .go cond target =>
    if s.goTaken e g cond then
      some ⟨if cond = 4 then { g with ct := g.ct - 1 } else g, false, some target⟩
    else some ⟨g, false, none⟩
  | .pause _ => some ⟨g, false, none⟩

/-- The word that follows (R429): after WORDS - 1 comes ENTRY. -/
def PinEngine.follow (g : PinEngine) : Nat := if g.pc + 1 < g.wordCount then g.pc + 1 else g.entry

/-- An instruction completed or stalled; an injected one leaves the program counter unless it sets it (R440). -/
def State.pinFinish (s : State) (e : Nat) (g : PinEngine) (st : PinStall) (injected : Bool) : State :=
  match s.pinAttempt e g st with
  | none => s.setPinEngine e { g with stall := some st }
  | some d =>
    let pc := match d.pc with
      | some x => x
      | none => if injected then g.pc else g.follow
    let g1 := { d.engine with pc := pc, stall := none }
    let g2 := if injected then
        (if d.pc.isSome then { g1 with injecting := none, resume := none, kept := none } else { g1 with injecting := none })
      else g1
    let s1 := s.setPinEngine e g2
    if d.dropped then (s1.bump (Obj.PEN_RX_DROPS e)).event 0x2805 0 else s1

/-- What an instruction that issues now would hold if it stalled. -/
def State.newStall (s : State) (op : PinOp) (tick : Nat) : PinStall := ⟨op, tick, s.lt.pulses, s.lt.starts⟩

/-- An instruction completed or stalled, and where that completes an injection with RESUME, the abandoned instruction issued again from its latched copy,
its tick field applied again (R440). -/
def State.pinComplete (s : State) (e : Nat) (g : PinEngine) (st : PinStall) (injected : Bool) : State :=
  let s1 := s.pinFinish e g st injected
  let g1 := s1.pinEngine e
  match injected, g1.injecting, g1.resume with
  | true, none, some r => s1.pinFinish e (s1.applyTick e r.tick { g1 with resume := none }) (s1.newStall r.op r.tick) false
  | _, _, _ => s1

/-- An instruction of engine `e` issues (R429): nothing while the engine is stopped or stalled. -/
def State.pinInstr (s : State) (e tick : Nat) (op : PinOp) : State :=
  let g := s.pinEngine e
  if s.pinRuns e && g.stall.isNone && g.injecting.isNone then
    s.pinFinish e (s.applyTick e tick g) (s.newStall op tick) false
  else s

/-- The condition of a stalled instruction looked at again (R429): it completes when it holds. -/
def State.pinRelease (s : State) (e : Nat) : State :=
  let g := s.pinEngine e
  if s.pinRuns e || g.injecting.isSome then
    match g.stall with
    | some st => s.pinComplete e { g with stall := none } st g.injecting.isSome
    | none => s
  else s

/-- The levels of the probe pins seen with an instruction that reads them. -/
def State.seeProbe (s : State) (e idx : Nat) (v : Bool) : State := s.seePad ((s.probeBase e + idx) % 256) v

/-- The levels of the field pins seen with an instruction that reads them. -/
def State.seeField (s : State) (e v : Nat) : State :=
  (List.range (s.fieldWidth e)).foldl (fun s i => s.seePad (s.fieldPin e i) (bit v i)) s

/-! ## Encoding (R430) -/

/-- The instruction of a word with its tick field; `none` for a reserved encoding. -/
def pinDecode (w : Nat) : Option (PinOp × Nat) :=
  let o := w % 1024
  let hi := fun h l => field o h l
  let op : Option PinOp := match w / 4096 % 16 with
    | 0 => if Nat.beq (hi 5 0) 0 then
        (match hi 9 6 with | 0 => some .nop | 1 => some .take | 2 => some .add | 3 => some .sub | 4 => some .xch | _ => none)
      else none
    | 1 => if Nat.beq (hi 7 2) 0 && Nat.blt (hi 9 8) 3 then some (.ldk (hi 9 8) (hi 1 0)) else none
    | 2 => some (.ldi (bit o 9) (hi 8 0))
    | 3 => if Nat.beq (hi 1 0) 0 && Nat.blt (hi 9 7) 7 then some (.move (hi 9 7) (hi 6 4) (hi 3 2)) else none
    | 4 => some (.pin (hi 9 8) (hi 7 0))
    | 5 => if Nat.beq (hi 7 5) 0 then some (.shout (hi 9 8) (if hi 4 0 = 0 then 32 else hi 4 0)) else none
    | 6 => if Nat.beq (hi 7 5) 0 then some (.shin (hi 9 8) (if hi 4 0 = 0 then 32 else hi 4 0)) else none
    | 7 => if Nat.beq (hi 6 0) 0 then
        some (if bit o 9 then .send (bit o 8) (bit o 7) else .fill (bit o 8) (bit o 7)) else none
    | 8 =>
      let idx := hi 5 0
      (match hi 8 6 with
        | 0 => some (.await (bit o 9) 0 idx)
        | 1 => if bit o 9 && Nat.beq idx 0 then some (.await true 1 0) else none
        | 2 => if Nat.blt idx 7 && (bit o 9 || !(Nat.beq idx 4 || Nat.beq idx 5)) then some (.await (bit o 9) 2 idx) else none
        | 3 => if Nat.blt idx 2 then some (.await (bit o 9) 3 idx) else none
        | _ => none)
    | 9 => if bit o 5 || Nat.ble 14 (hi 9 6) then none else some (.go (hi 9 6) (hi 4 0))
    | 10 => some (.pause o)
    | _ => none
  op.map (fun p => (p, w / 1024 % 4))

/-! ## Programs (R437-R439) -/

/-- The check of R438 that a program fails, with its status; signatures are judged by the caller. -/
def programCheck (l : List Byte) : Option (Nat × Status) :=
  let words := leAt l 0x10 1
  let sig := leAt l 0x28 4
  let code := 4 * ceilDiv (2 * words) 4
  let w := fun i => leAt l (48 + 2 * i) 2
  if l.length ≠ leAt l 8 4 ∨ l.length < 12 then some (1, .length)
  else if leAt l 0 4 ≠ 0x50505645 ∨ leAt l 4 2 ≠ 1 ∨ leAt l 6 2 ≠ 48 ∨ words < 1 ∨ 32 < words ∨ words ≤ leAt l 0x11 1 ∨
      1 < leAt l 0x12 1 ∨ leAt l 0x13 1 ≠ 0 ∨ leAt l 0x14 4 ≠ 0 ∨ leAt l 0x2C 4 ≠ 0 ∨ (sig ≠ 0 ∧ sig ≠ 64) ∨
      l.length ≠ 48 + code + sig then some (2, .range)
  else if (List.range words).any (fun i => match pinDecode (w i) with
      | none => true
      | some (op, tick) => (!(bit (leAt l 0x12 1) 0) && !(Nat.beq tick 0)) ||
          (match op with | .go _ t => Nat.ble words t | _ => false)) then some (3, .range)
  else none

/-- An accepted program takes effect (R439): at once on a disabled engine; on an enabled one memory, K, FLAGS and the
word after WORDS - 1 change and the stalled instruction keeps its copy. -/
def State.loadProgram (s : State) (e : Nat) (l : List Byte) : State :=
  let g := s.pinEngine e
  let words := leAt l 0x10 1
  let mem := (List.range words).foldl (fun m i => storePut (fun _ => 0) m i (leAt l (48 + 2 * i) 2)) []
  let ks := (List.range 4).foldl (fun m i => storePut (fun _ => 0) m i (leAt l (0x18 + 4 * i) 4)) []
  let g1 := { g with
    words := mem, wordCount := words, entry := leAt l 0x11 1, tickFlag := bit (leAt l 0x12 1) 0, k := ks
    progId := leAt l 0x0C 2, loaded := true }
  (s.setPinEngine e g1).setBlob (Obj.PEN_PROGRAM e) l

/-- One word patched (R439). -/
def State.patchWord (s : State) (e addr w : Nat) : State :=
  let g := s.pinEngine e
  s.setPinEngine e { g with words := storePut (fun _ => 0) g.words addr w }

/-- An injection (R440): it issues in place of a stalled instruction, which RESUME issues again; without RESUME the word after the abandoned one follows. -/
def State.pinInject (s : State) (e : Nat) (op : PinOp) (tick : Nat) (resume : Bool) : State :=
  let g := s.pinEngine e
  let g1 := { (s.applyTick e tick g) with
    stall := none, injecting := some resume, resume := (if resume then g.stall else none), pc := (if g.stall.isSome && !resume then g.follow else g.pc) }
  s.pinComplete e g1 (s.newStall op tick) true

/-! ## Enabling and restarting (R433, R441) -/

/-- Does an engine lack one of its pins (R433)? -/
def State.lacksPins (s : State) (e : Nat) : Bool :=
  (List.range (s.fieldWidth e)).any (fun i => !(s.owns e (s.fieldPin e i))) ||
    (s.tickEnabled e && !(s.owns e (s.tickPin e)))

/-- PE_ENABLE written (R441): engines stopped abandon their stall; engines started issue it again and are looked at for
unowned pins. -/
def State.setPinEnable (s : State) (v : Nat) : State :=
  let old := s.reg Obj.PE_ENABLE
  let s1 := s.setReg Obj.PE_ENABLE v
  (List.range 32).foldl (fun s e =>
    let g := s.pinEngine e
    if bit old e && !(bit v e) then s.setPinEngine e { g with kept := g.stall, stall := none }
    else if bit v e && !(bit old e) then
      let bad := s.lacksPins e
      let s2 := s.setPinEngine e { g with unowned := bad, kept := none }
      let s3 := if bad then s2.event 0x2804 0 else s2
      (match g.kept with
        | some st => s3.pinComplete e (s3.applyTick e st.tick { (s3.pinEngine e) with stall := none })
            (s3.newStall st.op st.tick) g.injecting.isSome
        | none => s3)
    else s) s1

/-- PE_RESTART written (R441). -/
def State.restartPins (s : State) (v : Nat) : State :=
  (List.range 32).foldl (fun s e =>
    if bit v e then
      let g := s.pinEngine e
      s.setPinEngine e { g with
        pc := g.entry, ag := 0, ct := 0, si := 0, tx := [], rx := [], ev := [], soBits := 0, siBits := 0, dirs := 255
        stall := none, kept := none, injecting := none, resume := none }
    else s) s

/-- Every engine stops, in FAULT (R441). -/
def State.stopPins (s : State) : State :=
  (List.range 32).foldl (fun s e =>
    let g := s.pinEngine e
    if bit (s.reg Obj.PE_ENABLE) e then s.setPinEngine e { g with kept := g.stall, stall := none } else s) s

/-- The cause of a stall (R445). -/
def stallCause (op : PinOp) : Nat :=
  match op with
  | .await _ _ _ => 1
  | .fill _ _ => 2
  | .shout _ _ => 2
  | .send _ _ => 3
  | .shin _ _ => 3
  | .take => 4
  | _ => 0

/-- PE_n_STATUS (R445). -/
def State.pinStatus (s : State) (e : Nat) : Nat :=
  let g := s.pinEngine e
  let (st, c) := match g.stall with
    | some x => (1, stallCause x.op)
    | none => (0, 0)
  g.ev.length * 2 ^ 24 + g.tx.length * 2 ^ 20 + g.rx.length * 2 ^ 16 + b2n g.injecting.isSome * 128 + b2n g.unowned * 64 +
    st * 32 + c * 4 + b2n (s.pinRuns e) * 2 + b2n g.loaded

/-- PE_n_REGS (R444). -/
def PinEngine.regs (g : PinEngine) : List Byte :=
  [g.ag.toNat, g.ct.toNat, g.so.toNat, g.si.toNat, g.soBits, g.siBits].flatMap (leBytes 4)

/-! ## Verdict events (R132, R133, R173, R434) -/

/-- One event offered to pin engine `e`. -/
def State.offerEvent (s : State) (e line : Nat) (w0 w1 : Word) : State :=
  if s.pinRuns e && bit (s.reg (Obj.PEN_EVENT_MASK e)) line then
    let g := s.pinEngine e
    if g.ev.length < 8 then s.setPinEngine e { g with ev := g.ev ++ [(w0, w1)] }
    else (s.bump (Obj.PEN_EVENT_DROPS e)).event 0x2801 (256 * e + line)
  else s

/-- The words of an event entry. -/
def eventWord (line engine payload : Nat) : Word :=
  BitVec.ofNat 32 (line % 64 * 2 ^ 26 + engine % 128 * 2 ^ 16 + payload % 2 ^ 16)

/-- An event reaches the pin engines (R173, R434). -/
def State.deliver (s : State) (line engine : Nat) (w : Word) : State :=
  let s1 := s.bumpBy 64 Obj.KN_EVENTS_RAISED 1
  let s2 := { s1 with cu := { s1.cu with raised := storeInsert line (s.now, engine) s1.cu.raised } }
  let pos := s2.pos32
  (List.range 32).foldl (fun s e => s.offerEvent e line w pos) s2

/-- An event raised on a line by a strip engine (R132, R133, R173, R434): suppressed on a disabled line; merged with one of
the same instant on the same line, keeping the lowest engine's payload; otherwise delivered. -/
def State.raiseEvent (s : State) (engine line payload : Nat) : State :=
  if !(bit (s.act Obj.KN_EVENT_ENABLE) line) then (s.bump Obj.KN_EVENTS_SUPPRESSED).event 0x2402 0
  else
    let w := eventWord line engine payload
    match storeFind line s.cu.raised with
    | some (t, e0) =>
      if t = s.now ∧ e0 ≠ engine then
        let s1 := (s.bump Obj.SE_EVENTS_MERGED).event 0x2314 0
        if engine < e0 then
          let fix := fun (x : Word × Word) =>
            if x.1.toNat / 2 ^ 26 = line ∧ x.1.toNat / 2 ^ 16 % 128 = e0 then (w, x.2) else x
          let es := s1.pins.engines.map (fun p => (p.1, { p.2 with ev := match p.2.ev.reverse with
            | x :: r => ((fix x) :: r).reverse
            | [] => [] }))
          { s1 with pins := { s1.pins with engines := es }
                    cu := { s1.cu with raised := storeInsert line (s.now, engine) s1.cu.raised } }
        else s1
      else s.deliver line engine w
    | none => s.deliver line engine w

end Sys2Proof.Machine
end

