-- ==== Sys2Proof/Machine/Time.lean ====
section
/-! DEFINITION. Installation time: TIME tokens followed and sent, holdover and loss, the time master (12 R356-R361). -/

namespace Sys2Proof.Machine

/-- The held hop delay of a port in ps. -/
def State.hopDelay (s : State) (p : Port) : Nat := s.reg (hopDelayObj p)

/-- Is this tile time master (R361)? -/
def State.timeMaster (s : State) : Bool := s.flag Obj.LNK_STATUS 8

/-- The time port (R358). -/
def State.timePort (s : State) : Port := if s.flag Obj.LNK_STATUS 7 then .b else .a

/-- The instant from which the silence of the time port counts. -/
def State.timeBase (s : State) : Option Nat :=
  match s.rg.followedAt with
  | some t => some t
  | none => s.rg.firstUpAt

/-- LNK_TIME_HOLDOVER in ns. -/
def State.holdoverNs (s : State) : Nat := s.reg Obj.LNK_TIME_HOLDOVER * 1000000

/-- Does a token on port `p` change the time port (R358)? The other port's tokens have carried HOPS smaller by 2 or more
for 1 s, or the time port has had no token for LNK_TIME_HOLDOVER. -/
def State.weighTimePort (s : State) (p : Port) (hops : Nat) : State :=
  if p = s.timePort then s
  else
    let tp := s.port s.timePort
    let quiet := match tp.latestTimeAt with
      | some t => Nat.ble (t + s.holdoverNs) s.now
      | none => Nat.ble ((s.rg.firstUpAt.getD s.now) + s.holdoverNs) s.now
    let better := match tp.latestHops with
      | some h => Nat.ble (hops + 2) h
      | none => false
    let since := if better then some (((s.port p).betterSince).getD s.now) else none
    let s1 := s.onPort p (fun v => { v with betterSince := since })
    let long := match since with
      | some t => Nat.ble (t + 1000000000) s.now
      | none => false
    if quiet || long then s1.setTimePort p else s1

/-- An error in ps as LNK_TIME_ERROR shows it. -/
def timeErrorValue (e : Int) : Nat :=
  if -2147483648 ≤ e ∧ e ≤ 2147483647 then fromSigned 32 e else (Config.timeErrorBeyond e).toNat

/-- The clock corrected by an error of `e` ps at reference point `ref` (R358): a step above 1 us, otherwise a slew. -/
def State.discipline (s : State) (e : Int) (token ref : Int) : State :=
  let s1 := s.setReg Obj.LNK_TIME_ERROR (timeErrorValue e)
  let s2 := ((s1.setFlag Obj.LNK_STATUS 5 false).setFlag Obj.LNK_STATUS 6 false)
  if 1000000 < e ∨ e < -1000000 then
    let old := s2.webPos
    let s3 := { s2 with rg := { s2.rg with
      offset := token - ref, slew := 0, slewFrom := s2.now, held := true, followedAt := some s2.now, lockRun := 0 } }
    ((s3.bump Obj.LNK_TIME_STEPS).event 0x1215 0).setFlag Obj.LNK_STATUS 4 false |>.afterTimeStep old
  else
    let good := if -20000 ≤ e ∧ e ≤ 20000 then s2.rg.lockRun + 1 else 0
    let s3 := { s2 with rg := { s2.rg with
      offset := s2.rg.offset + s2.rg.worked s2.now, slew := -e, slewFrom := s2.now
      held := true, followedAt := some s2.now, lockRun := Nat.min good 16 } }
    if 16 ≤ good ∧ !(s3.flag Obj.LNK_STATUS 4) then (s3.setFlag Obj.LNK_STATUS 4 true).event 0x1212 0 else s3

/-- A TIME token consumed (R357, R358): `ref` is its reference point in ps of the tile's own clock. -/
def State.timeToken (s : State) (p : Port) (hops : Nat) (payload : List Byte) (ref : Nat) : State :=
  if s.timeMaster || !(Nat.beq payload.length 24) || !(bit (leAt payload 4 4) 0) then s
  else
    let s1 := s.weighTimePort p hops
    let s2 := s1.onPort p (fun v => { v with latestHops := some hops, latestTimeAt := some s.now })
    if s2.timePort = p then
      let token : Int := ((1000 * leAt payload 8 8 + leAt payload 16 4 + s.hopDelay p : Nat) : Int)
      let own : Int := (ref : Int) + s2.rg.offset + s2.rg.worked s2.now
      s2.discipline (own - token) token ref
    else s2

/-- The payload of a TIME token that is forwarded (R357): CORR gains the receiving port's hop delay and the residence
time. -/
def State.timeForward (s : State) (p : Port) (payload : List Byte) (residence : Nat) : List Byte :=
  if payload.length = 24 then
    let c := leAt payload 16 4 + s.hopDelay p + residence
    payload.take 16 ++ leBytes 4 (if c < 2 ^ 32 then c else (Config.corrBeyond c).toNat) ++ payload.drop 20
  else payload

/-- A TIME token sent by the time master every LNK_TIME_PERIOD (R361), in no other state than LINKUP, READY and RUN. -/
def State.timeSend (s : State) : State :=
  let due := match s.rg.sentAt with
    | some t => Nat.ble (t + s.reg Obj.LNK_TIME_PERIOD * 1000) s.now
    | none => true
  match s.tile.state with
  | .linkup | .ready | .run =>
    if s.timeMaster && due then
      let q := s.rg.sendSeq + 1
      let payload := leBytes 4 q.toNat ++ leBytes 4 1 ++ leBytes 8 s.itime ++ zeros 4 ++ leBytes 2 s.address ++ zeros 2
      State.sendBoth { s with rg := { s.rg with sendSeq := q, sentAt := some s.now } } (s.newFrame 0xFFF 3 0x30 payload)
    else s
  | _ => s

/-- LNK_TIME_MASTER written (R361): the master counts from its reference, starting at 0. -/
def State.setTimeMaster (s : State) (on : Bool) : State :=
  let s1 := s.setReg Obj.LNK_TIME_MASTER (b2n on)
  if on && !s.timeMaster then
    let old := s.webPos
    let s2 := { s1 with rg := { s1.rg with offset := -(1000 * (s.now : Int)), slew := 0, slewFrom := s.now, sentAt := none } }
    (((s2.setFlag Obj.LNK_STATUS 8 true).setFlag Obj.LNK_STATUS 5 false).setFlag Obj.LNK_STATUS 6 false).afterTimeStep old
  else s1.setFlag Obj.LNK_STATUS 8 on

/-- No token for LNK_TIME_HOLDOVER (R359). -/
def State.timeHoldover (s : State) : State :=
  match s.timeBase with
  | some t =>
    if !s.timeMaster && !(s.flag Obj.LNK_STATUS 5) && Nat.ble (t + s.holdoverNs) s.now then
      (s.setFlag Obj.LNK_STATUS 5 true).event 0x1213 0
    else s
  | none => s

/-- No token for LNK_TIME_LOSS (R359). -/
def State.timeLost (s : State) : State :=
  match s.timeBase with
  | some t =>
    if !s.timeMaster && !(s.flag Obj.LNK_STATUS 6) && Nat.ble (t + s.reg Obj.LNK_TIME_LOSS * 1000000) s.now then
      (s.setFlag Obj.LNK_STATUS 6 true).event 0x1214 0
    else s
  | none => s

end Sys2Proof.Machine
end

