-- ==== Sys2Proof/Machine/Token.lean ====
section
/-! DEFINITION. The position master and its tokens: encoder edges, the roles of master and follower, POSITION tokens sent and applied, holdover and loss (03
R50-R61; 12 R362, R363). -/

namespace Sys2Proof.Machine

/-! ## Encoder (R50-R54) -/

/-- A count of the master: one up or down (R50). -/
def State.countEdge (s : State) (forward : Bool) : State :=
  if s.posMaster && !s.lt.frozen then
    let d : Int := if forward then 1 else -1
    { s with lt := { s.lt with
      count := fromSigned 48 ((s.lt.count : Int) + d), edges := (⟨s.now, d⟩ :: s.lt.edges).take 16 } }
  else s

/-- An accepted transition at the encoder lands (R50, R52). -/
def State.encoderEdge (s : State) (e : EncEdge) : State :=
  match e with
  | .both => (s.bump Obj.LT_ENC_ERRORS).event 0x2102 0
  | .single aLeads => s.countEdge (if s.reg Obj.LT_ENC_DIRECTION = 0 then aLeads else !aLeads)

/-- An encoder pair open or shorted (R53). -/
def State.encFault (s : State) : State :=
  if s.lt.frozen then s
  else (State.setFlag { s with lt := { s.lt with frozen := true } } Obj.LT_STATUS 1 true).event 0x2104 0

/-- Both pairs good for 1 ms (R53). -/
def State.encRestored (s : State) : State :=
  if s.lt.frozen then (State.setFlag { s with lt := { s.lt with frozen := false } } Obj.LT_STATUS 1 false).event 0x210C 0
  else s

/-! ## Tokens sent (R55, R57, R58) -/

/-- A POSITION token sent by the master in READY and RUN, which applies it itself (R57, R58). -/
def State.sendPosition (s : State) : State :=
  if s.posMaster && s.readyOrRunning then
    let seq := (s.lt.sendSeq + 1) % 2 ^ 32
    let speed := s.masterSpeed
    let m : Model := ⟨countPos s.lt.count, 1000 * (s.itime : Int), speed⟩
    let s1 := State.sendBoth s (s.newFrame 0xFFF 3 0x31 (s.positionPayload seq speed))
    let s2 := s1.adopt m false
    { s2 with lt := { s2.lt with
      sendSeq := seq, sentAt := some s.now, tokenAt := some s.now, tokenSource := some s.address, tokenSeq := seq, heardAt := s.now } }
  else s

/-- The token of every LT_POS_PERIOD (R57). -/
def State.positionDue (s : State) : State :=
  match s.lt.sentAt with
  | some t => if t + s.reg Obj.LT_POS_PERIOD * 1000 ≤ s.now then s.sendPosition else s
  | none => s.sendPosition

/-- LT_POS_MASTER written in READY (R55). -/
def State.setPosMaster (s : State) (on : Bool) : State :=
  let s1 := (s.setReg Obj.LT_POS_MASTER (b2n on)).setFlag Obj.LT_STATUS 0 on
  if on && !s.posMaster then
    let recent := match s.lt.tokenAt with
      | some t => Nat.ble s.now (t + s.reg Obj.LT_POS_LOSS * 1000)
      | none => false
    let clear := (s1.setFlag Obj.LT_STATUS 2 false).setFlag Obj.LT_STATUS 3 false
    if recent then
      { clear with lt := { clear.lt with
        count := fromSigned 48 (divHalfEven s.webPos 256000000000000), sendSeq := s.lt.tokenSeq, sentAt := none, edges := [], marks := 0, markPos := 0 } }
    else
      { clear with lt := { clear.lt with
        count := 0, model := ⟨0, s.itimePs, 0⟩, hold := none, sendSeq := 0, sentAt := none, edges := [], marks := 0, markPos := 0 } }
  else s1

/-! ## Tokens applied (R58-R61, R363) -/

/-- A POSITION token that a follower may apply, from `source` (R363). -/
def State.applyPosition (s : State) (source : Nat) (payload : List Byte) (newSource : Bool) : State :=
  let flags := leAt payload 4 4
  let speed : Int := if bit flags 0 then 0 else toSigned 32 (leAt payload 0x18 4)
  let m : Model := ⟨countPos (leAt payload 8 8 % 2 ^ 48), 1000 * (leAt payload 0x10 8 : Int), speed⟩
  let lost := s.posLost
  let count := leAt payload 0x1C 4
  let s1 := s.watchMotion.adopt m (newSource || s.lt.fresh || lost)
  let s2 := if lost then ((s1.setFlag Obj.LT_STATUS 3 false).skipLost).event 0x210C 0 else s1
  let s3 := { (s2.setFlag Obj.LT_STATUS 2 false) with lt := { s2.lt with
    tokenAt := some s.now, tokenSource := some source, tokenSeq := leAt payload 0 4, heardAt := s.now, fresh := false, marksSeen := some count } }
  let s4 := if !newSource && s.lt.marksSeen.isSome && decide (s.lt.marksSeen ≠ some count) then
      s3.mark 1 (fromSigned 48 (((leAt payload 0x20 8 % 2 ^ 48 : Nat) : Int) - s.stationOffset))
    else s3
  s4.watchMotion

/-- A POSITION token received (R58, R363). -/
def State.positionToken (s : State) (source : Nat) (payload : List Byte) : State :=
  if s.posMaster || !(Nat.beq payload.length 40) then s
  else
    let seq := leAt payload 0 4
    let d := (seq + 2 ^ 32 - s.lt.tokenSeq % 2 ^ 32) % 2 ^ 32
    match s.lt.tokenSource with
    | none => s.applyPosition source payload true
    | some src =>
      let quiet := Nat.ble (s.lt.heardAt + 1000000) s.now
      if source ≠ src ∧ quiet then s.applyPosition source payload true
      else
        let s1 := if source = src then { s with lt := { s.lt with heardAt := s.now } } else s
        if 1 ≤ d ∧ d < 2 ^ 31 then s1.applyPosition source payload false else s1

/-- No token for LT_POS_HOLDOVER (R60). -/
def State.posHoldover (s : State) : State :=
  if s.readyOrRunning && !s.posMaster && !(s.flag Obj.LT_STATUS 2) && Nat.ble (s.posSince + s.reg Obj.LT_POS_HOLDOVER * 1000) s.now then
    (s.setFlag Obj.LT_STATUS 2 true).event 0x2105 0
  else s

/-- No token for LT_POS_LOSS (R60): the model stops where it is. -/
def State.posLoss (s : State) : State :=
  if s.readyOrRunning && !s.posMaster && !s.posLost && Nat.ble (s.posSince + s.reg Obj.LT_POS_LOSS * 1000) s.now then
    let s1 := s.watchMotion
    let s2 := { s1 with lt := { s1.lt with model := ⟨s1.webPos, s1.itimePs, 0⟩, hold := none } }
    (s2.setFlag Obj.LT_STATUS 3 true).event 0x2106 0
  else s

/-! ## Installation marks (R57, R72) -/

/-- The position master's mark at station position `m`: for itself and, in a token sent at once, for the installation (R57, R72). -/
def State.installMark (s : State) (m : Nat) : State :=
  let web := (((m : Int) + s.stationOffset) % 281474976710656).toNat
  let s1 := { s with lt := { s.lt with marks := (s.lt.marks + 1) % 2 ^ 32, markPos := web } }
  (s1.mark 1 m).sendPosition

/-- A rising edge of ENC_Z (R72): on a position master that takes its marks from it, the station position it counts. -/
def State.encZ (s : State) : State :=
  if s.posMaster && s.readyOrRunning && Nat.beq (s.reg Obj.LT_MASTER_MARK) 0 then
    s.installMark (fromSigned 48 ((s.lt.count : Int) - s.stationOffset))
  else s

end Sys2Proof.Machine
end

