-- ==== Sys2Proof/Machine/Curator.lean ====
section
/-! DEFINITION. The Curator (07): tasks and their engines, halls, ring slots, results, retirement; kernel loads and the start and end of a task
(05 R107, R108, R134-R137; 06 R148, R150, R154, R169). -/

namespace Sys2Proof.Machine

/-! ## Halls (R184) -/

/-- A hall at BOOT. -/
def freshHall : Hall := {}

/-- Hall `h`. -/
def State.hall (s : State) (h : Nat) : Hall := storeGet (fun _ => freshHall) s.cu.halls h

/-- Hall `h` replaced. -/
def State.setHall (s : State) (h : Nat) (v : Hall) : State :=
  { s with cu := { s.cu with halls := storePut (fun _ => freshHall) s.cu.halls h v } }

/-- A stopped hall restarted: it runs 2 us later. -/
def State.wakeHall (s : State) (h : Nat) : State :=
  let v := s.hall h
  if v.running || v.readyAt.isSome then s else s.setHall h { v with readyAt := some (s.now + 2000) }

/-- Is an engine free: without a task, and no image being loaded? -/
def Engine.free (g : Engine) : Bool := g.task.isNone && g.loading.isNone

/-- May an engine start a task now: free, and its hall's clock runs? -/
def State.ready (s : State) (e : Nat) : Bool := (s.engine e).free && (s.hall (e / 16)).running

/-- Does no engine of a hall have a task? -/
def State.hallIdle (s : State) (h : Nat) : Bool := (List.range 16).all (fun i => (s.engine (16 * h + i)).free)

/-- The clock of a hall stops when none of its engines has had a task for CU_HALL_IDLE. -/
def State.hallStop (s : State) (h : Nat) : State :=
  let v := s.hall h
  if v.running && s.hallIdle h && Nat.ble (v.idleFrom + 1000 * s.reg Obj.CU_HALL_IDLE) s.now then s.setHall h { v with running := false }
  else s

/-- A restarted hall runs. -/
def State.hallReady (s : State) (h : Nat) : State :=
  match (s.hall h).readyAt with
  | some t => if t ≤ s.now then s.setHall h { running := true, readyAt := none, idleFrom := s.now } else s
  | none => s

/-! ## Tasks in the table (R176, R190) -/

/-- The task an engine is placed on or runs, unless it was cut. -/
def Engine.holds (g : Engine) : Option Task :=
  match g.ending with
  | some (.cut _) => none
  | _ => match g.task with
    | some t => some t
    | none => match g.loading with
      | some (_, some t) => some t
      | _ => none

/-- The tasks in the table. -/
def State.liveTasks (s : State) : List Task := s.cu.waiting ++ s.cu.engines.filterMap (fun p => p.2.holds)

/-- An unjudged entry of a line (R196). -/
def State.unjudge (s : State) (n region strip cause : Nat) : State :=
  s.onLine n (fun l => { l with unjudged := l.unjudged ++ [⟨region, strip, cause⟩] })

/-- Does an open crop keep a line's slot in hall `h` (R188)? -/
def State.cropHolds (s : State) (l : LineRec) (h : Nat) : Bool :=
  s.cu.crops.any (fun c => Nat.beq c.era l.era && (regionParts l.bank (region l.bank c.region)).any (fun p => Nat.beq (p.1 / 16) h))

/-- The slots of line `n` released in the halls where it has no task left (R188). -/
def State.releaseSlots (s : State) (n : Nat) : State :=
  let l := s.liveTasks.filter (fun t => Nat.beq t.number n)
  s.onLine n (fun x => { x with halls := x.halls.filter (fun h => l.any (fun t => Nat.beq (t.strip / 16) h) || s.cropHolds x h) })

/-- The task of engine `e` cut with a cause (R136, R137): its OUT bytes are discarded and its region is listed; the engine waits for its tags. -/
def State.cutTask (s : State) (e cause : Nat) : State :=
  let g := s.engine e
  match g.task, g.ending with
  | some _, some (.cut _) => s
  | some t, _ =>
    let s1 := (s.unjudge t.number t.region t.strip cause).bump (Obj.ST_CUT t.strip)
    let s2 := s1.setEngine e { g with held := none, out := [], outCrops := [], outRequests := [], ending := some (.cut cause) }
    State.releaseSlots { s2 with cu := { s2.cu with fetchers := s2.cu.fetchers.filter (fun x => !(Nat.beq x e)) } } t.number
  | none, _ => s

/-- The tasks that `p` picks withdrawn where they have not started and cut where they run, each listed with a cause (R189, R191). -/
def State.dropTasks (s : State) (cause : Nat) (p : Task → Bool) : State :=
  let gone := s.cu.waiting.filter p
  let s1 := { s with cu := { s.cu with waiting := s.cu.waiting.filter (fun t => !(p t)) } }
  let s2 := gone.foldl (fun s t => s.unjudge t.number t.region t.strip cause) s1
  (List.range 128).foldl (fun s e =>
    let g := s.engine e
    match g.loading with
    | some (i, some t) => if p t then (s.setEngine e { g with loading := some (i, none) }).unjudge t.number t.region t.strip cause else s
    | _ => match g.task with
      | some t => if p t then s.cutTask e cause else s
      | none => s) s2

/-! ## Loads and starts (R107, R108, R148, R150, R182, R186) -/

/-- The reference bytes that tag 0 of a task fetches (R130, R221): Archive address and length; `none` when its line is judged against nothing. -/
def prefetchOf (l : LineRec) (t : Task) : Option (Nat × Nat) :=
  let (a, b) := prefetchRange l.bank t.col0 (t.col0 + t.ncol - 1)
  l.ref.map (fun r => (slotBase l.slot + r * refLineBytes l.bank + a,
    Nat.min (t.image.prefetchMax (region l.bank t.region).kernel) (b - a)))

/-- Tag 0 of a task, not yet issued (R130, R186); without a prefetch there is none. -/
def tagZero (l : LineRec) (t : Task) : Option Fetch :=
  if t.image.prefetchMax (region l.bank t.region).kernel = 0 then none
  else
    let at_ := match t.image.slot with | none => 0 | some _ => t.image.u32 0x38
    match prefetchOf l t with
    | some (a, n) => some ⟨a, n, at_, false, false, false, 0⟩
    | none => some ⟨0, 0, at_, false, true, true, 0⟩

/-- The crop requests of the open blobs of some parts. -/
def openKeys (parts : Store Part) : List CropKey := parts.flatMap (fun p => p.2.blobs.flatMap (fun b => b.keys))

/-- Part `g` of an engine. -/
def Engine.part (g : Engine) (r : Nat) : Part := storeGet (fun _ => {}) g.parts r

/-- Part `g` of an engine replaced. -/
def Engine.setPart (g : Engine) (r : Nat) (p : Part) : Engine := { g with parts := storePut (fun _ => {}) g.parts r p }

/-- The built-in state as a task of an engine finds it (R148, R150): from zero at the first task after an Accession or a load, which counts as lost
except at an Accession; the part's mark set. -/
def State.beginParts (s : State) (e : Nat) (l : LineRec) (t : Task) : State :=
  let g := s.engine e
  let fresh := decide (g.partsOf ≠ some l.era)
  let s1 := if fresh || g.reloaded then
      (s.onLine l.number (fun x => { x with closed := x.closed ++ openKeys g.parts })).setEngine e { g with parts := [], partsOf := some l.era, reloaded := false }
    else s
  let s2 := if !fresh && g.reloaded then (s1.bump Obj.KN_STATE_LOST).event 0x2404 0 else s1
  let p := (s2.engine e).part t.region
  s2.onEngine e (fun g => g.setPart t.region { p with inProgress := true, cutDue := p.cutDue || p.inProgress })

/-- A task starts on an engine that holds its image (R108, R145, R150). -/
def State.beginTask (s : State) (e : Nat) (t : Task) : State :=
  match s.lineRec t.number with
  | none => s
  | some l =>
    let g := s.engine e
    let ahead := match g.pre with
      | some (u, f) => if u = t then some f else none
      | none => none
    let zero := ahead.orElse (fun _ => tagZero l t)
    let landed := match ahead with | some f => f.done && Nat.beq f.landed f.length | none => false
    let failed := match ahead with | some f => f.done && !(Nat.beq f.landed f.length) | none => false
    let entry := match t.image.slot with | none => 0 | some _ => t.image.u32 0x1C
    let g1 : Engine := { g with
      task := some t, s := [], v := [], a := [], p := [], pc := entry, loops := [], param := regionParams l.bank (region l.bank t.region)
      estat := (if failed then 8 else 0), cycles := 0, ready := [], popped := 0, arrived := 0, refAt := 0, refLen := 0, refPos := 0
      tags := (match zero with | some f => [(0, some f)] | none => [])
      fetched := (match zero with | some f => f.length | none => 0)
      outBytes := 0, out := [], outCrops := [], outRequests := [], held := none, ending := none, ranFrom := s.now
      pre := (if ahead.isSome then none else g.pre), preData := (if ahead.isSome then [] else g.preData)
      refData := (if landed then g.preData else []) }
    let g2 := match t.image.slot, zero with
      | some _, some f => if landed then g1.ldmWrite f.landing g.preData else g1
      | _, _ => g1
    let s1 := s.setEngine e g2
    if t.image.slot.isNone then s1.beginParts e l t else s1

/-- A load of an image begins (R107, R182). -/
def State.beginLoad (s : State) (e : Nat) (i : Image) (t : Option Task) : State :=
  (s.bump Obj.CU_KERNEL_LOADS).onEngine e (fun g => { g with image := none, loading := some (i, t) })

/-- A task placed on a free engine: started, after a load where the engine does not hold its image (R182). -/
def State.place (s : State) (e : Nat) (t : Task) : State :=
  if (s.engine e).image = some t.image then s.beginTask e t else s.beginLoad e t.image (some t)

/-- A load completes (R107): constants in LDM, every other byte below LDM_LIMIT 0; a task placed with it starts. -/
def State.loadDone (s : State) (e : Nat) : State :=
  let g := s.engine e
  match g.loading with
  | none => s
  | some (i, t) =>
    let cleared := memForget g.ldm 0 i.ldmLimit
    let consts := match i.slot with
      | none => []
      | some _ => sliceBytes i.bytes (i.u32 0x20) (i.u32 0x24)
    let g1 := Engine.ldmWrite { g with image := some i, loading := none, ldm := cleared, reloaded := true } (i.u32 0x28) consts
    let s1 := s.setEngine e g1
    match t with
    | some t => s1.beginTask e t
    | none => s1

/-! ## Placement (R181-R185) -/

/-- The engines of the pool: enabled halls, no pinned image in the Active Folio and none of an earlier one still queued or held (R178, R197). -/
def State.inPool (s : State) (e : Nat) : Bool :=
  hallOn (s.act Obj.PX_HALL_ENABLE) e && (pinnedImage s.cat.active e).isNone &&
    !(s.cu.waiting.any (fun t => t.pinned && Nat.beq t.strip e))

/-- A task queued. -/
def State.queueTask (s : State) (t : Task) : State := { s with cu := { s.cu with waiting := s.cu.waiting ++ [t] } }

/-- A task no longer queued. -/
def State.unqueue (s : State) (t : Task) : State := { s with cu := { s.cu with waiting := s.cu.waiting.erase t } }

/-- A pool start on engine `e` counted where it is not the strip's own (R182, R183). -/
def State.countSteal (s : State) (e : Nat) (t : Task) : State :=
  if e / 16 ≠ t.strip / 16 then s.bumpBy 64 Obj.CU_STEALS_CROSS 1
  else if e ≠ t.strip then s.bumpBy 64 Obj.CU_STEALS_HALL 1
  else s

/-- A new task of a pinned image (R181): started on its home engine when that is free and nothing is queued before it, else queued. -/
def State.placePinned (s : State) (t : Task) : State :=
  if s.ready t.strip && !(s.cu.waiting.any (fun u => u.pinned && Nat.beq u.strip t.strip)) then s.place t.strip t
  else (s.queueTask t).wakeHall (t.strip / 16)

/-- A new task of the pool (R182, R185): its own engine holding the image, another of the hall holding it, its own engine with a load, another with
a load, the hall's queue. -/
def State.placePool (s : State) (t : Task) : State :=
  let h := t.strip / 16
  let older := s.cu.waiting.any (fun u => !u.pinned && Nat.beq (u.strip / 16) h)
  let can := fun e => s.inPool e && s.ready e && !older
  let has := fun e => decide ((s.engine e).image = some t.image)
  let own := (List.range 16).map (16 * h + ·)
  let pick := if can t.strip && has t.strip then some t.strip
    else match own.find? (fun e => can e && has e) with
      | some e => some e
      | none => if can t.strip then some t.strip else own.find? can
  match pick with
  | some e => (s.place e t).countSteal e t
  | none => s.queueTask t

/-- A new task placed. -/
def State.placeTask (s : State) (t : Task) : State := if t.pinned then s.placePinned t else s.placePool t

/-- The queue of hall `h` for the pool. -/
def State.hallQueue (s : State) (h : Nat) : List Task := s.cu.waiting.filter (fun t => !t.pinned && Nat.beq (t.strip / 16) h)

/-- The oldest task of the other halls that has waited CU_STEAL_WAIT, ties to the lower hall (R183). -/
def State.stealable (s : State) (h : Nat) : Option Task :=
  let l := ((List.range 8).filter (fun k => !(Nat.beq k h))).filterMap (fun k => (s.hallQueue k).head?)
  let due := l.filter (fun t => Nat.ble (t.queuedAt + s.reg Obj.CU_STEAL_WAIT) s.now)
  due.foldl (fun m t => match m with
    | none => some t
    | some u => if t.queuedAt < u.queuedAt then some t else some u) none

/-- A free engine of a running hall takes its next task (R181, R183), or loads the pinned image of the Active Folio (R178, R197). -/
def State.taskStart (s : State) (e : Nat) : State :=
  if s.ready e then
    match s.cu.waiting.find? (fun t => t.pinned && Nat.beq t.strip e) with
    | some t => (s.unqueue t).place e t
    | none =>
      match pinnedImage s.cat.active e with
      | some i => if (s.engine e).image = some i then s else s.beginLoad e i none
      | none =>
        if s.inPool e then
          match (s.hallQueue (e / 16)).head?.orElse (fun _ => s.stealable (e / 16)) with
          | some t => ((s.unqueue t).place e t).countSteal e t
          | none => s
        else s
  else s

/-- The oldest queued task of the pool has waited CU_STEAL_WAIT while no pool engine of a running hall is free: the lowest stopped hall with a pool
engine restarts (R184). -/
def State.stealWake (s : State) : State :=
  let due := s.cu.waiting.any (fun t => !t.pinned && Nat.ble (t.queuedAt + s.reg Obj.CU_STEAL_WAIT) s.now)
  let none_ := !((List.range 128).any (fun e => s.inPool e && s.ready e))
  if due && none_ then
    match s.cu.waiting.find? (fun t => !t.pinned) with
    | none => s
    | some t =>
      let stopped := fun h => !((s.hall h).running) && (List.range 16).any (fun i => s.inPool (16 * h + i))
      let order := t.strip / 16 :: List.range 8
      match order.find? stopped with
      | some h => s.wakeHall h
      | none => s
  else s

/-! ## Prefetches (R186) -/

/-- The entries of the fetch table in use. -/
def State.fetchesOut (s : State) : Nat :=
  s.cu.engines.foldl (fun a p =>
    a + (p.2.outstanding.filter (fun f => f.issued)).length + (match p.2.pre with
      | some (_, f) => if f.issued && !f.done then 1 else 0
      | none => 0)) 0

/-- The task whose prefetch is due on an engine: the one it runs, the one placed behind a load, the first in its queue. -/
def State.prefetchTask (s : State) (e : Nat) : Option Task :=
  match (s.engine e).loading with
  | some (_, some t) => some t
  | _ => s.cu.waiting.find? (fun t => t.pinned && Nat.beq t.strip e)

/-- Tag 0 of the running task not yet issued. -/
def Engine.zeroDue (g : Engine) : Option Fetch :=
  match g.task, g.tag 0 with
  | some _, some f => if f.issued || g.ending.isSome then none else some f
  | _, _ => none

/-- The prefetch of an engine put into the fetch table (R186). -/
def State.prefetchNow (s : State) (e : Nat) : State :=
  let g := s.engine e
  match g.zeroDue with
  | some f => s.setEngine e (g.setTag 0 { f with issued := true })
  | none =>
    match s.prefetchTask e with
    | none => s
    | some t =>
      if (match g.pre with | some (u, f) => decide (u = t) || (f.issued && !f.done) | none => false) then s
      else match s.lineRec t.number with
        | none => s
        | some l => match tagZero l t with
          | some f => if f.done then s else s.setEngine e { g with pre := some (t, { f with issued := true }), preData := [] }
          | none => s

/-- Is a prefetch of an engine due? -/
def State.prefetchDue (s : State) (e : Nat) : Bool := decide ((s.prefetchNow e).engine e ≠ s.engine e)

/-- The Curator issues a prefetch, or lets it wait for an entry of the fetch table (R186). -/
def State.prefetchIssue (s : State) (e : Nat) : State :=
  if !(s.prefetchDue e) || s.cu.fetchers.contains e then s
  else if 1024 ≤ s.fetchesOut then
    let s1 := s.bump Obj.CU_FETCH_WAITS
    { s1 with cu := { s1.cu with fetchers := s1.cu.fetchers ++ [e] } }
  else s.prefetchNow e

/-! ## The end of a task (R134-R137, R154, R193) -/

/-- The 16 bytes in front of a result (R154). -/
def resultHead (l : LineRec) (t : Task) (estat n : Nat) : List Byte :=
  leBytes 4 l.head.line.toNat ++ leBytes 2 t.image.ident ++ leBytes 2 t.region ++
    leBytes 4 (t.col0 * 2 ^ 19 + t.ncol * 2 ^ 12 + estat % 64) ++ leBytes 2 l.head.folio ++ leBytes 2 n

/-- The result of a task that ended with YIELD, staged or dropped (R154, R193). -/
def State.keepResult (s : State) (l : LineRec) (t : Task) (g : Engine) : State :=
  if g.out = [] then s
  else
    let bytes := resultHead l t g.estat g.out.length ++ g.out
    match s.stage bytes.length with
    | none =>
      let s1 := (s.vaFail 8).unjudge t.number t.region t.strip 7
      (s1.bump Obj.CU_RESULTS_DROPPED).event 0x2305 0
    | some s1 => s1.onLine t.number (fun x => { x with
        results := x.results ++ [⟨t.region, t.col0, bytes, g.outCrops.map (fun c => (c.1 + 16, c.2))⟩]
        requests := x.requests ++ g.outRequests.map Prod.snd })

/-- The busy cycles of an ended task, kept for the utilisation of the last second (R200, R204). -/
def State.logBusy (s : State) (e n : Nat) : State :=
  { s with cu := { s.cu with busyLog := (s.now, e, n) :: s.cu.busyLog.filter (fun x => Nat.ble s.now (x.1 + 1000000000)) } }

/-- An engine with its tags complete and its OUT buffer empty ends its task (R134, R136). -/
def State.drainDone (s : State) (e : Nat) : State :=
  let g := s.engine e
  match g.task, g.ending with
  | some t, some k =>
    if !(g.outstanding.isEmpty) then s
    else
      let s1 := match k, s.lineRec t.number with
        | .yielded, some l => (s.keepResult l t g).bumpBy 64 (Obj.ST_TASKS t.strip) 1
        | _, _ => s
      let s2 := (s1.logBusy e g.cycles).setEngine e { (s1.engine e) with
        task := none, ending := none, held := none, tags := [], out := [], outCrops := [], outRequests := [] }
      let h := s2.hall (e / 16)
      (s2.setHall (e / 16) { h with idleFrom := s2.now }).releaseSlots t.number
  | _, _ => s

/-- The PARAM of the events of R142: the kernel, the engine and what identifies the case (R583). -/
def taskParam (kernel e low : Nat) : Nat := (kernel % 256) * 2 ^ 24 + e * 2 ^ 17 + low % 2 ^ 17

/-- A task that has reached C_cut (R136). -/
def State.budgetCut (s : State) (e : Nat) : State :=
  let g := s.engine e
  match g.task, g.ending with
  | some t, none =>
    let line := match s.lineRec t.number with | some l => l.head.line.toNat | none => 0
    ((s.cutTask e 3).bump Obj.SE_BUDGET_CUTS).event 0x2310 (taskParam (s.taskKernel t) e line)
  | _, _ => s

/-- A task fault with its cause code (R137). -/
def State.taskFault (s : State) (e cause : Nat) : State :=
  let g := s.engine e
  match g.task, g.ending with
  | some t, none =>
    ((s.cutTask e 4).bump Obj.SE_TASK_FAULTS).event 0x2311 (taskParam (s.taskKernel t) e (cause * 2 ^ 15 + g.pc))
  | _, _ => s

/-! ## A built-in task's function (R150-R172) -/

/-- What the built-in function of a task works on. -/
def State.jobOf (s : State) (g : Engine) (l : LineRec) (t : Task) : Job :=
  let r := region l.bank t.region
  let bands := enabledBands l.bank
  let uncal := l.taskUncal t
  let (from_, _) := prefetchRange l.bank t.col0 (t.col0 + t.ncol - 1)
  { kernel := r.kernel, params := g.param, lineFirst := r.lineFirst, lineLast := r.lineLast, region := t.region, strip := t.strip
    col0 := t.col0, ncol := t.ncol, line := l.head.line, number := l.number, index := l.head.repeatIndex
    starts := bit l.head.flags 17, before := l.before, pitch := l.bank.num Obj.LT_LINE_PITCH, bands := bands
    stripFirst := t.strip * stripWidth l.bank, stripLast := t.strip * stripWidth l.bank + stripWidth l.bank - 1
    sample := fun b j =>
      if bands.contains b && Nat.ble t.col0 j && Nat.blt j (t.col0 + t.ncol) && !(bit uncal (j - t.col0)) then
        let x := ((l.samples.getD (bands.idxOf b) []).getD j 0xFFFF).toNat
        if x = 0xFFFF then none else some x
      else none
    ref := fun j => if l.ref.isNone then none else refColumn l.bank g.refData from_ j
    matrix := colourMatrix l.cal.used, free := s.free }

/-- The mark of a REGISTER part handed over at YIELD (R169). -/
def State.kernelMark (s : State) (m : Nat) : State :=
  let s1 := (s.bump Obj.KN_MARKS).mark 2 m
  if s1.posMaster && Nat.beq (s1.reg Obj.LT_MASTER_MARK) 1 then s1.installMark m else s1

/-- Bytes pushed by a task beyond its OUT_BYTES are discarded (R126). -/
def State.overflowed (s : State) (e limit : Nat) (l : List Byte) (before : Nat) : State × List Byte :=
  let room := limit - before
  if l.length ≤ room then (s, l)
  else
    let s1 := s.onEngine e (fun g => { g with estat := withBit g.estat 5 true })
    ((s1.bump Obj.SE_OUT_OVERFLOWS).event 0x2313 0, l.take room)

/-- A built-in task carries out its function and yields (R150, R165, R169). -/
def State.runBuiltin (s : State) (e : Nat) (t : Task) : State :=
  let g := s.engine e
  match s.lineRec t.number with
  | none => s
  | some l =>
    let j := s.jobOf g l t
    let v := j.run (g.part t.region)
    let s1 := s.drawn.setEngine e (g.setPart t.region v.part)
    let limit := t.image.outBytes j.kernel
    let (s2, out) := s1.overflowed e limit v.out 0
    let s3 := s2.onEngine e (fun g => { g with
      out := out, outBytes := v.out.length, held := none, ending := some .yielded
      outCrops := v.crops.filter (fun c => Nat.ble (c.1 + 4) limit)
      outRequests := v.requests.filter (fun c => Nat.ble (c.1 + 16) limit) })
    let s4 := s3.onLine t.number (fun x => { x with closed := x.closed ++ v.closed })
    let s5 := v.events.foldl (fun s ev => s.raiseEvent e ev.1 ev.2) s4
    match v.mark with
    | some m => s5.kernelMark m
    | none => s5

/-- Has tag 0 of the running task completed, or is there none? -/
def Engine.zeroDone (g : Engine) : Bool := match g.tag 0 with | some f => f.done | none => true

/-- YIELD (R134): a built-in task first waits for its reference. -/
def State.yieldTask (s : State) (e : Nat) : State :=
  let g := s.engine e
  match g.task with
  | none => s
  | some t =>
    if g.ending.isSome then s
    else match t.image.slot with
      | some _ => s.setEngine e { g with held := none, ending := some .yielded }
      | none => if g.zeroDone then s.runBuiltin e t else s.setEngine e { g with held := some .finish }

/-! ## Ring slots (R188, R189, R211) -/

/-- The oldest line with a slot in hall `h`, apart from line `n`, gives it up (R189). -/
def State.reclaimSlot (s : State) (n h : Nat) : State :=
  match s.cu.lines.find? (fun l => l.halls.contains h && !(Nat.beq l.number n)) with
  | none => s
  | some l =>
    let s1 := s.dropTasks 5 (fun t => Nat.beq t.number l.number && Nat.beq (t.strip / 16) h)
    let s2 := s1.onLine l.number (fun x => { x with halls := x.halls.filter (fun k => !(Nat.beq k h)) })
    (s2.bump Obj.CU_RING_RECLAIMS).event 0x2302 (h * 2 ^ 29 + l.head.line.toNat % 2 ^ 29)

/-- The closing line `n` takes a slot in hall `h`: from the ring's reservation or lent, else by reclaiming one (R189, R211). -/
def State.takeSlot (s : State) (n h blocks : Nat) : State :=
  let s1 := match s.vaRequest h blocks with
    | some s1 => s1
    | none => (s.vaFail h).reclaimSlot n h
  s1.onLine n (fun l => { l with halls := l.halls ++ [h] })

/-! ## Retirement (R190-R197, R364) -/

/-- Has line `n` no task left? -/
def State.lineComplete (s : State) (n : Nat) : Bool := !(s.liveTasks.any (fun t => Nat.beq t.number n))

/-- Is there a line before number `n` that has not closed? -/
def State.earlierOpen (s : State) (n : Nat) : Bool :=
  s.la.flights.any (fun f => Nat.blt f.trig.number n) ||
    (match s.lt.held with | some t => Nat.blt t.number n | none => false)

/-- An unjudged entry as the record lists it (R196). -/
def Unjudged.word (u : Unjudged) : Nat := u.region * 2 ^ 22 + u.strip * 2 ^ 15 + u.cause * 2 ^ 12

/-- Insertion by a key, equal keys in the order given. -/
def insertBy {α : Type} (key : α → Nat) (x : α) : List α → List α
  | [] => [x]
  | y :: r => if key x < key y then x :: y :: r else y :: insertBy key x r

/-- A list in ascending order of a key. -/
def sortBy {α : Type} (key : α → Nat) (l : List α) : List α := l.foldl (fun a x => insertBy key x a) []

/-- The stream of a retiring line (R194, R195, R364): its record, then its results by region and column. -/
def lineStream (l : LineRec) : List Byte :=
  let head := if l.unjudged = [] then l.head else { l.head with flags := addFlag l.head.flags flPartial true }
  let listed := (sortBy (fun (u : Unjudged) => u.region * 128 + u.strip) l.unjudged).take 1024
  let n := l.unjudged.length
  head.bytes ++ leBytes 4 (l.created * 2 ^ 16 + n % 2 ^ 16) ++
    leBytes 4 (l.results.length * 2 ^ 16 + b2n (Nat.blt listed.length n)) ++ listed.flatMap (fun u => leBytes 4 u.word) ++
    (sortBy (fun (r : Result) => r.region * 8192 + r.col0) l.results).flatMap (fun r => r.bytes)

/-- The crop identities entered in the records of a line (R165). -/
def State.named (s : State) (l : LineRec) : LineRec :=
  let enter := fun (b : List Byte) (c : Nat × CropKey) => match s.cu.cropIds.find? (fun p => decide (p.1 = c.2)) with
    | some p => overlay b c.1 (leBytes 4 p.2)
    | none => b
  let fill := fun (r : Result) => { r with bytes := r.crops.foldl enter r.bytes }
  { l with results := l.results.map fill }

/-- The RESULT frames of a line (R364). -/
def State.sendLine (s : State) (l : LineRec) : State :=
  let st := lineStream l
  let head := leBytes 4 l.head.line.toNat ++ leBytes 2 l.head.folio ++ zeros 2
  (pieces (st.length / 8184 + 1) 0 st).foldl (fun (s : State) p =>
    s.sendHome { s.newFrame (s.address / 64 * 64) 2 0x20 (head ++ p.2) with offset := p.1, last := Nat.ble st.length (p.1 + p.2.length) }) s

/-- Line `l`, the oldest of the window, retires (R190, R194). -/
def State.retireLine (s : State) (l : LineRec) : State :=
  let s1 := s.cropsOf l
  let l1 := s1.named l
  let s2 := { s1 with cu := { s1.cu with
    lines := s1.cu.lines.filter (fun x => !(Nat.beq x.number l.number))
    cropIds := s1.cu.cropIds.filter (fun p => !(l.closed.contains p.1)) } }
  let s3 := (s2.sendLine l1).bumpBy 64 Obj.CU_LINES_RETIRED 1
  let s4 := (s3.bumpBy 64 Obj.CU_UNJUDGED l.unjudged.length)
  let s5 := l.unjudged.foldl (fun (s : State) u => s.bumpBy 64 (Obj.ST_UNJUDGED u.strip) 1) s4
  match l.unjudged with
  | [] => s5
  | u :: _ => (s5.bump Obj.CU_LINES_PARTIAL).event 0x2301 (u.cause * 2 ^ 29 + l.head.line.toNat % 2 ^ 29)

/-- The oldest line retires when it is complete (R190). -/
def State.retireOne (s : State) : State :=
  match s.cu.lines with
  | l :: _ => if s.lineComplete l.number && !(s.earlierOpen l.number) then s.retireLine l else s
  | [] => s

/-- Every line that is now complete retires, up to `n`. -/
def retireAll : Nat → State → State
  | 0, s => s
  | n + 1, s =>
    match s.cu.lines with
    | l :: _ => if s.lineComplete l.number && !(s.earlierOpen l.number) then retireAll n (s.retireLine l) else s
    | [] => s

/-- The oldest line retired partial with a cause, and every later line that is now complete (R191). -/
def State.forceRetire (s : State) (cause : Nat) : State :=
  match s.cu.lines with
  | [] => s
  | l :: _ =>
    let s1 := s.dropTasks cause (fun t => Nat.beq t.number l.number)
    match s1.lineRec l.number with
    | some l1 => retireAll 256 (s1.retireLine l1)
    | none => s1

/-- The oldest line's close lies CU_MAX_AGE in the past (R191). -/
def State.ageRetire (s : State) : State :=
  match s.cu.lines with
  | l :: _ =>
    let age := s.act Obj.CU_MAX_AGE
    if 0 < age ∧ l.closedAt + 1000 * age ≤ s.now ∧ !(s.earlierOpen l.number) then s.forceRetire 2 else s
  | [] => s

/-! ## A line closes (R176, R177, R191) -/

/-- A line takes its place in the window, in order of its number; a full window retires its oldest line first (R190, R191). -/
def State.enterWindow (s : State) (l : LineRec) : State :=
  let s1 := if 256 ≤ s.cu.lines.length then s.forceRetire 1 else s
  let s2 := { s1 with cu := { s1.cu with lines := insertBy (fun (x : LineRec) => x.number) l s1.cu.lines } }
  let n := s2.cu.lines.length
  if s2.reg Obj.CU_WINDOW_PEAK < n then s2.setReg Obj.CU_WINDOW_PEAK n else s2

/-- The tasks of a closing line created and placed; none, and every part listed, when the task table cannot take them all (R176, R177). -/
def State.makeTasks (s : State) (l : LineRec) : State :=
  let halls := l.bank.num Obj.PX_HALL_ENABLE
  let parts := if l.head.kind = 2 then [] else lineParts l.bank l.head.repeatIndex (bit l.head.flags 14) halls
  if 65536 < s.liveTasks.length + parts.length then
    let s1 := parts.foldl (fun (s : State) p => s.unjudge l.number p.1 p.2.1 6) s
    (s1.bump Obj.CU_TABLE_FULL).event 0x2304 0
  else
    let s1 := s.onLine l.number (fun x => { x with created := parts.length })
    parts.foldl (fun (s : State) p =>
      let img := imageOf l.bank (region l.bank p.1).kernel
      s.placeTask ⟨l.number, p.1, p.2.1, p.2.2.1, p.2.2.2, img, img.stateful, s.now⟩) s1

/-- The Curator takes a closed line: its place in the window, its slots, its tasks. -/
def State.curate (s : State) (l : LineRec) : State :=
  let s1 := s.enterWindow l
  let halls := l.bank.num Obj.PX_HALL_ENABLE
  let s2 := ((List.range 8).filter (bit halls)).foldl (fun (s : State) h => s.takeSlot l.number h (slotBlocks l.bank)) s1
  (s2.makeTasks l).releaseSlots l.number

/-! ## Clock and utilisation (R199, R200, R204) -/

/-- The present line rate in 1/256 line per second: the speed of the web over the pitch. -/
def State.lineRate (s : State) : Nat := if s.pitch = 0 then 0 else 65536 * s.lt.model.speed.natAbs / s.pitch

/-- The frequency of the PLL-C domains in kHz: the bypass clock is the crystal while PLL-B is out of lock (R473, R475). -/
def State.usedKhz (s : State) : Nat :=
  if s.flag Obj.CLK_STATUS 8 && s.flag Obj.CLK_STATUS 5 then 25000 else s.reg Obj.CLK_C_FREQ

/-- Is the PLL-C frequency below what the Active Folio needs at the present line rate (R198, R199)? -/
def State.clockShort (s : State) : Bool :=
  Nat.blt (s.usedKhz * 1000 * 256) (reqCycles s.cat.active * s.lineRate)

/-- CLOCK_SHORT set as soon as the frequency is too low (R199). -/
def State.watchClock (s : State) : State :=
  if s.tile.state = .run ∧ s.clockShort then
    let s1 := { s with cu := { s.cu with shortRun := 0 } }
    if s.flag Obj.CU_STATUS 0 then s1 else (s1.setFlag Obj.CU_STATUS 0 true).event 0x2306 0
  else s

/-- One more line at which the frequency meets the requirement; the 100th in a row clears CLOCK_SHORT (R199). -/
def State.countClock (s : State) : State :=
  if s.flag Obj.CU_STATUS 0 && !s.clockShort then
    let n := s.cu.shortRun + 1
    if 100 ≤ n then (State.setFlag { s with cu := { s.cu with shortRun := 0 } } Obj.CU_STATUS 0 false)
    else { s with cu := { s.cu with shortRun := n } }
  else s.watchClock

/-- The PLL-C cycles between two instants, by the log of its frequency in kHz, newest first: `upTo` is the end of the part looked at. -/
def cyclesIn (from_ : Nat) : Nat → List (Nat × Nat) → Nat
  | _, [] => 0
  | upTo, (t, f) :: r => f * (upTo - Nat.max from_ (Nat.min t upTo)) / 1000000 + (if t ≤ from_ then 0 else cyclesIn from_ (Nat.min t upTo) r)

/-- The PLL-C cycles elapsed in RUN over the last second. -/
def State.runCycles (s : State) : Nat := cyclesIn (s.now - 1000000000) s.now s.cu.clockLog

/-- The PLL-C frequency that counts for utilisation: the one in use in RUN, 0 in other states. -/
def State.clockUsed (s : State) : Nat := if s.tile.state = .run then s.usedKhz else 0

/-- The frequency last noted, 0 before the first. -/
def State.notedClock (s : State) : Nat := match s.cu.clockLog with | (_, g) :: _ => g | [] => 0

/-- The frequency in use noted for `runCycles`: 0 outside RUN. -/
def State.noteClock (s : State) : State :=
  let f := s.clockUsed
  let keep := fun (x : Nat × Nat) => Nat.ble s.now (x.1 + 2000000000)
  if f = s.notedClock then s
  else { s with cu := { s.cu with clockLog := (s.now, f) :: s.cu.clockLog.filter keep ++ (s.cu.clockLog.filter (fun x => !(keep x))).take 1 } }

/-- Busy cycles over the last second of the engines that `p` picks: tasks ended, and those that run. -/
def State.busyCycles (s : State) (p : Nat → Bool) : Nat :=
  s.cu.busyLog.foldl (fun a x => if p x.2.1 && Nat.ble s.now (x.1 + 1000000000) then a + x.2.2 else a) 0 +
    s.cu.engines.foldl (fun a x => if p x.1 && x.2.task.isSome then a + x.2.cycles else a) 0

/-- A share in 0.01 %. -/
def share (a b : Nat) : Nat := if b = 0 then 0 else Nat.min 65535 (divHalfEvenNat (10000 * a) b)

/-- ST_UTIL of a strip (R204). -/
def State.stripUtil (s : State) (e : Nat) : Nat := share (s.busyCycles (fun x => Nat.beq x e)) s.runCycles

/-- CU_HALL_UTIL (R200). -/
def State.hallUtil (s : State) : List Byte :=
  (List.range 8).flatMap (fun h => leBytes 2 (share (s.busyCycles (fun x => Nat.beq (x / 16) h)) (16 * s.runCycles)))

/-- VA_ARCH_LOAD: the bytes moved in the last ms as a share of 215 GB/s (R187, R217). -/
def State.archLoad (s : State) : Nat :=
  share (s.cu.moved.foldl (fun a m => if s.now ≤ m.1 + 1000000 then a + m.2 else a) 0) 215000000

/-- SE_ENGINE_MAP (R202). -/
def State.engineMap (s : State) : List Byte :=
  (List.range 128).flatMap (fun e => match (s.engine e).image with
    | some i => leBytes 2 (i.ident + 32768 * b2n i.stateful)
    | none => zeros 2)

/-! ## Everything ends (R18, R23, R552) -/

/-- The Archive words that a read finds uncorrectable, known before or found now, counted and recorded (R215). -/
def State.readWords (s : State) (a n : Nat) (bad : List Nat) : State × List Nat :=
  let inside := fun (w : Nat) => Nat.blt (8 * w) (a + n) && Nat.blt a (8 * w + 8)
  let new := (bad.filter inside).filter (fun w => !(s.cu.ue.contains w))
  let s1 := (s.moved n)
  let s2 := { s1 with cu := { s1.cu with ue := s1.cu.ue ++ distinct new } }
  let hit := s2.cu.ue.filter inside
  (hit.foldl (fun (s : State) w => (s.bump Obj.VA_ARCH_UE).event 0x2504 w) s2, hit)

/-- A slot clear stops where it stands (R223): in ascending offset, as far as it has come. -/
def State.clearStop (s : State) : State :=
  match s.cu.clear with
  | some c =>
    let n := Nat.min c.extent (Config.clearReached c.extent (s.now - c.started))
    let s1 := s.archFill (slotBase c.slot) n
    State.setReg { s1 with cu := { s1.cu with clear := none } } Obj.VA_SLOT_STATUS 0
  | none => s

/-- Leaving READY and RUN for FAULT or REST: lines, tasks, crops, reads and a slot clear end where they stand; the images stay (R223, R230). -/
def State.clearWindow (s : State) : State :=
  let s := s.clearStop
  { s with cu := { s.cu with
    lines := [], waiting := [], crops := [], cropIds := [], fetchers := [], reads := []
    engines := s.cu.engines.map (fun p => (p.1, { p.2 with
      task := none, loading := none, held := none, ending := none, tags := [], out := [], outCrops := [], outRequests := [], pre := none, preData := [] })) } }

end Sys2Proof.Machine
end

