-- ==== Sys2Proof/Machine/Sm.lean ====
section
/-! DEFINITION. The SM3 digest and SM2 verification, which the spec names by their standards (20 R530, R531). Their
bodies are PRESUMED from those standards (log entry 23). -/

namespace Sys2Proof.Machine

/-! ## SM3 (GB/T 32905) -/

/-- The value of bytes given most significant first. -/
def beNat (l : List Byte) : Nat := l.foldl (fun a b => 256 * a + b.toNat) 0

/-- The low `n` bytes of a value, most significant first. -/
def beBytes (n v : Nat) : List Byte := (leBytes n v).reverse

/-- The permutation P1. -/
def smP1 (x : Word) : Word := x ^^^ x.rotateLeft 15 ^^^ x.rotateLeft 23

/-- The permutation P0. -/
def smP0 (x : Word) : Word := x ^^^ x.rotateLeft 9 ^^^ x.rotateLeft 17

/-- The expanded words of a block, newest first: `n` more words. -/
def smExpand : Nat → List Word → List Word
  | 0, w => w
  | n + 1, w =>
    let x := w.getD 15 0 ^^^ w.getD 8 0 ^^^ (w.getD 2 0).rotateLeft 15
    smExpand n ((smP1 x ^^^ (w.getD 12 0).rotateLeft 7 ^^^ w.getD 5 0) :: w)

/-- The eight registers of the compression. -/
structure SmState where
  a : Word
  b : Word
  c : Word
  d : Word
  e : Word
  f : Word
  g : Word
  h : Word
  deriving DecidableEq, Repr

/-- One round: `j` its number, `w` and `w4` the words j and j + 4. -/
def smRound (v : SmState) (j : Nat) (w w4 : Word) : SmState :=
  let t : Word := if j < 16 then 0x79CC4519 else 0x7A879D8A
  let ff := if j < 16 then v.a ^^^ v.b ^^^ v.c else (v.a &&& v.b) ||| (v.a &&& v.c) ||| (v.b &&& v.c)
  let gg := if j < 16 then v.e ^^^ v.f ^^^ v.g else (v.e &&& v.f) ||| (~~~v.e &&& v.g)
  let ss1 := ((v.a.rotateLeft 12) + v.e + t.rotateLeft (j % 32)).rotateLeft 7
  let ss2 := ss1 ^^^ v.a.rotateLeft 12
  let tt1 := ff + v.d + ss2 + (w ^^^ w4)
  let tt2 := gg + v.h + ss1 + w
  ⟨tt1, v.a, v.b.rotateLeft 9, v.c, smP0 tt2, v.e, v.f.rotateLeft 19, v.g⟩

/-- The rounds of a block, `n` still to go, over the words from round 64 - n on. -/
def smRounds : Nat → SmState → List Word → SmState
  | 0, v, _ => v
  | n + 1, v, w => smRounds n (smRound v (63 - n) (w.getD 0 0) (w.getD 4 0)) w.tail

/-- The compression of one block of 64 bytes. -/
def smBlock (v : SmState) (block : List Byte) : SmState :=
  let w16 := (List.range 16).map (fun i => BitVec.ofNat 32 (beNat ((block.drop (4 * i)).take 4)))
  let w := (smExpand 52 w16.reverse).reverse
  let r := smRounds 64 v w
  ⟨v.a ^^^ r.a, v.b ^^^ r.b, v.c ^^^ r.c, v.d ^^^ r.d, v.e ^^^ r.e, v.f ^^^ r.f, v.g ^^^ r.g, v.h ^^^ r.h⟩

/-- Bytes in blocks of 64. -/
def smBlocks : Nat → List Byte → List (List Byte)
  | 0, _ => []
  | n + 1, l => l.take 64 :: smBlocks n (l.drop 64)

/-- The initial value. -/
def smInit : SmState :=
  ⟨0x7380166F, 0x4914B2B9, 0x172442D7, 0xDA8A0600, 0xA96F30BC, 0x163138AA, 0xE38DEE4D, 0xB0FB0E4E⟩

/-- A message with its padding: a 1 bit, zeros, and the length in bits as 64 bits. -/
def smPad (l : List Byte) : List Byte :=
  let n := l.length
  l ++ [0x80] ++ zeros ((119 - n % 64) % 64) ++ beBytes 8 (8 * n)

/-- The SM3 digest of bytes, 32 bytes. -/
def sm3 (l : List Byte) : List Byte :=
  let p := smPad l
  let v := (smBlocks (p.length / 64) p).foldl smBlock smInit
  [v.a, v.b, v.c, v.d, v.e, v.f, v.g, v.h].flatMap (fun x => beBytes 4 x.toNat)

/-! ## SM2 verification (GB/T 32918.2 on the curve of GB/T 32918.5) -/

/-- The field prime. -/
def smP : Nat := 0xFFFFFFFEFFFFFFFFFFFFFFFFFFFFFFFFFFFFFFFF00000000FFFFFFFFFFFFFFFF

/-- The coefficient a. -/
def smA : Nat := smP - 3

/-- The coefficient b. -/
def smB : Nat := 0x28E9FA9E9D9F5E344D5A9E4BCF6509A7F39789F515AB8F92DDBCBD414D940E93

/-- The order of the base point. -/
def smN : Nat := 0xFFFFFFFEFFFFFFFFFFFFFFFFFFFFFFFF7203DF6B21C6052B53BBF40939D54123

/-- The base point. -/
def smG : Nat × Nat :=
  (0x32C4AE2C1F1981195F9904466A39C9948FE30BBFF2660BE1715A4589334C74C7,
   0xBC3736A2F4F6779C59BDCEE36B692153D0A9877CC62A474002DF32E52139F0A0)

/-- `b` to the power `e` modulo `m`, over the bits of `e`, `n` of them from the top. -/
def powMod (m b e : Nat) : Nat → Nat
  | 0 => 1 % m
  | n + 1 =>
    let h := powMod m b (e / 2) n
    let q := h * h % m
    if e % 2 = 1 then q * b % m else q

/-- The inverse in the field. -/
def smInv (x : Nat) : Nat := powMod smP x (smP - 2) 256

/-- The difference in the field. -/
def smSub (x y : Nat) : Nat := (x % smP + smP - y % smP) % smP

/-- Is a pair a point of the curve (R539)? -/
def smOnCurve (q : Nat × Nat) : Bool :=
  Nat.blt q.1 smP && Nat.blt q.2 smP && Nat.beq (q.2 * q.2 % smP) ((q.1 * q.1 * q.1 + smA * q.1 + smB) % smP)

/-- The line of slope `l` through `p` to the third point. -/
def smChord (l : Nat) (p q : Nat × Nat) : Nat × Nat :=
  let x := smSub (l * l) (p.1 + q.1)
  (x, smSub (l * smSub p.1 x) p.2)

/-- The sum of two points; `none` is the point at infinity. -/
def smAdd : Option (Nat × Nat) → Option (Nat × Nat) → Option (Nat × Nat)
  | none, q => q
  | p, none => p
  | some p, some q =>
    if p.1 = q.1 then
      if (p.2 + q.2) % smP = 0 then none
      else some (smChord ((3 * p.1 * p.1 + smA) * smInv (2 * p.2 % smP) % smP) p q)
    else some (smChord (smSub q.2 p.2 * smInv (smSub q.1 p.1) % smP) p q)

/-- `k` times a point, over `n` bits of `k`. -/
def smMul (q : Nat × Nat) (k : Nat) : Nat → Option (Nat × Nat)
  | 0 => none
  | n + 1 =>
    let h := smMul q (k / 2) n
    let d := smAdd h h
    if k % 2 = 1 then smAdd d (some q) else d

/-- The distinguishing identifier "1234567812345678" (R531). -/
def smId : List Byte := [0x31, 0x32, 0x33, 0x34, 0x35, 0x36, 0x37, 0x38, 0x31, 0x32, 0x33, 0x34, 0x35, 0x36, 0x37, 0x38]

/-- The digest of identifier, curve and key that precedes a message. -/
def smZ (q : Nat × Nat) : List Byte :=
  sm3 (beBytes 2 128 ++ smId ++ ([smA, smB, smG.1, smG.2, q.1, q.2].flatMap (beBytes 32)))

/-- The point of a 64-byte key (R530). -/
def keyPoint (k : List Byte) : Nat × Nat := (beNat (k.take 32), beNat ((k.drop 32).take 32))

/-- Does a signature of 64 bytes over the covered bytes verify under a public key (R531)? -/
def sm2Verify (key covered sig : List Byte) : Bool :=
  let q := keyPoint key
  let r := beNat (sig.take 32)
  let s := beNat ((sig.drop 32).take 32)
  let e := beNat (sm3 (smZ q ++ sm3 covered))
  let t := (r + s) % smN
  if key.length = 64 ∧ sig.length = 64 ∧ 0 < r ∧ r < smN ∧ 0 < s ∧ s < smN ∧ 0 < t ∧ smOnCurve q then
    match smAdd (smMul smG s 256) (smMul q t 256) with
    | some v => Nat.beq ((e + v.1) % smN) r
    | none => false
  else false

end Sys2Proof.Machine
end

