-- ==== Sys2Proof/Machine/Folio.lean ====
section
/-! DEFINITION. Folios: staging and sealing, the object stream and its digests, ACCESSION and the switch, beacons and quotes, the resume Folio (09). -/

namespace Sys2Proof.Machine

/-! ## Codes of the object table (R238, R264, R265) -/

/-- TYPE codes (R238). -/
def Ty.code : Ty → Nat
  | .u8 => 1 | .u16 => 2 | .u32 => 3 | .u64 => 4 | .s16 => 5 | .s32 => 6 | .f32 => 7 | .str => 8 | .blob => 9

/-- ACCESS codes (R264). -/
def Access.code : Access → Nat
  | .ro => 1 | .rw => 2 | .wo => 3 | .rwf => 4 | .rwc => 5 | .const => 6

/-- PERSIST codes (R265). -/
def Persist.code : Persist → Nat
  | .none => 0 | .v => 1 | .f => 2 | .c => 3 | .k => 4

/-- Every object with its row, in ascending index and then subindex. -/
def Obj.all : List (Nat × ObjRow) := sortBy Prod.fst (Obj.rows.flatMap (fun r => r.ids.map (fun i => (i, r))))

/-- The F objects (R233). -/
def Obj.folio : List (Nat × ObjRow) := Obj.all.filter (fun x => decide (x.2.persist = .f))

/-- The value of an object in a bank as bytes. -/
def Bank.value (b : Bank) (id : Nat) (r : ObjRow) : List Byte := if r.ty.size = 0 then b.all id else leBytes r.ty.size (b.num id)

/-- One record of the object stream (R238). -/
def objectRecord (b : Bank) (x : Nat × ObjRow) : List Byte :=
  let v := b.value x.1 x.2
  leBytes 2 (x.1 / 256) ++ leBytes 1 (x.1 % 256) ++ leBytes 1 x.2.ty.code ++ leBytes 4 v.length ++ pad4 v

/-- The object stream of a Folio (R238). -/
def objectStream (b : Bank) : List Byte := Obj.folio.flatMap (objectRecord b)

/-- The values of a Folio written over another, as the tile does it: each STR and BLOB takes a VERSION (R274). -/
def State.versioned (s : State) (b : Bank) : Bank × State :=
  let ids := (Obj.folio.filter (fun x => Nat.beq x.2.ty.size 0)).map Prod.fst
  let v := s.cat.version
  let blobs := (ids.zip (List.range ids.length)).foldl
    (fun (m : Store Blob) x => storeInsert x.1 { b.blob x.1 with version := v + BitVec.ofNat 32 (x.2 + 1) } m) []
  ({ b with blobs := blobs }, { s with cat := { s.cat with version := v + BitVec.ofNat 32 ids.length } })

/-! ## FOL_STATUS (R261) -/

/-- STAGED_SEALED and SEALING. -/
def State.showStaging (s : State) : State :=
  (s.setFlag Obj.FOL_STATUS 0 (decide (s.fol.staging = .sealed))).setFlag Obj.FOL_STATUS 1
    (decide (s.fol.staging = .sealing) || s.fol.computing)

/-- CU_STATUS.POOL_EMPTY (R178). -/
def State.showPool (s : State) : State :=
  s.setFlag Obj.CU_STATUS 2 (s.fol.hasActive && (poolEngines s.cat.active).isEmpty)

/-- The Staged Folio's condition set. -/
def State.setStaging (s : State) (c : Staging) : State := State.showStaging { s with fol := { s.fol with staging := c } }

/-- 32 bytes of 0. -/
def noDigest : List Byte := zeros 32

/-- The three Staged digests set. -/
def State.setStagedDigests (s : State) (obj ref all_ : List Byte) : State :=
  ((s.setBlob Obj.FOL_STAGED_OBJ_DIGEST obj).setBlob Obj.FOL_STAGED_REF_DIGEST ref).setBlob Obj.FOL_STAGED_DIGEST all_

/-! ## Sealing (R236-R241) -/

/-- Check 3 and 4 of R237: the event and its PARAM of the first that fails. -/
def State.sealRefusal (s : State) : Option (Nat × Nat) :=
  let b := s.cat.staged
  let n := b.num Obj.FOL_NUMBER
  if n = 0 ∨ (s.fol.hasActive = true ∧ n % 65536 = s.cat.active.num Obj.FOL_NUMBER % 65536) then some (0x1102, 0)
  else match arrayRefusal b with
    | some p => some (0x2004, p)
    | none => match timerRefusal b with
      | some p => some (0x210B, p)
      | none => match regionRefusal s.cat.used b with
        | some p => some (0x2401, p)
        | none => match planRefusal b with
          | some p => some (0x2303, p)
          | none => if 6144 < totalReserve s.cat.vol b then some (0x2501, 0) else none

/-- CAT_FOLIO_SEAL: checks 1 and 2 (R237). -/
def State.sealBusy (s : State) : Option Status :=
  if s.fol.staging ≠ .opened then some .sealed
  else if s.oldLines || s.cu.clear.isSome then some .busy
  else none

/-- The checks of a seal have ended (R237): the answer, and the Staged Folio in sealing or the event of the check that failed. -/
def State.sealChecked (s : State) : Status × State :=
  match s.sealRefusal with
  | some (code, p) => (.range, s.event code p)
  | none => (.ok, State.setStaging { s with fol := { s.fol with since := s.now } } .sealing)

/-- The first byte of the Staged slot (R218). -/
def State.stagedSlot (s : State) : Nat := slotBase (!s.cu.slotB)

/-- The first byte of the Active slot. -/
def State.activeSlot (s : State) : Nat := slotBase s.cu.slotB

/-- OBJ_DIGEST, REF_DIGEST and the Folio digest of a Folio whose reference slot begins at `base` (R238). -/
def State.folioDigests (s : State) (b : Bank) (base : Nat) : List Byte × List Byte × List Byte :=
  let o := sm3 (objectStream b)
  let r := sm3 (s.archRead base (refExtent b))
  (o, r, sm3 (o ++ r))

/-- The three digests complete (R238). -/
def State.sealDone (s : State) : State :=
  if s.fol.staging = .sealing then
    let d := s.folioDigests s.cat.staged s.stagedSlot
    (((s.setStagedDigests d.1 d.2.1 d.2.2).setStaging .sealed).setReg Obj.FOL_SEAL_PROGRESS 100).event 0x1101 0
  else s

/-- FOL_SEAL_PROGRESS while a Folio is sealing (R239): at least 2.0 GB/s; how far beyond is open (log entry 27). -/
def State.sealProgress (s : State) : Nat :=
  if s.fol.staging = .sealing then
    let n := refExtent s.cat.staged
    let least := if n = 0 then 100 else Nat.min 100 (200 * (s.now - s.fol.since) / n)
    Nat.max least (Nat.min 100 (Config.sealProgress n (s.now - s.fol.since)))
  else s.reg Obj.FOL_SEAL_PROGRESS

/-- CAT_FOLIO_UNSEAL (R240). -/
def State.unseal (s : State) : Status × State :=
  if s.fol.staging = .opened then (.ok, s)
  else if s.oldLines || (s.fol.waiting.isSome && s.flag Obj.FOL_STATUS 8) then (.busy, s)
  else (.ok, ((s.setStaging .opened).setStagedDigests noDigest noDigest noDigest).setReg Obj.FOL_SEAL_PROGRESS 0)

/-- CAT_FOLIO_COPY (R241). -/
def State.copyFolio (s : State) : Status × State :=
  if s.fol.hasActive = false then (.state, s)
  else if s.fol.staging ≠ .opened then (.sealed, s)
  else
    let (b, s1) := s.versioned s.cat.active
    (.ok, { s1 with cat := { s1.cat with staged := b } })

/-! ## ACCESSION (R242-R250) -/

/-- FOL_STATUS.ACC_PENDING and ACC_MATCH. -/
def State.showPending (s : State) (on match_ : Bool) : State :=
  (s.setFlag Obj.FOL_STATUS 2 on).setFlag Obj.FOL_STATUS 8 (on && match_)

/-- The test of R244 and, where it fails, the cause of R247. -/
def State.accFails (s : State) (a : PendingAcc) : Option Nat :=
  match s.fol.staging with
  | .opened => some 1
  | .sealing => some 2
  | .sealed =>
    if s.cat.staged.num Obj.FOL_NUMBER ≠ a.folio then some 3
    else if (s.cat.vol.all Obj.FOL_STAGED_DIGEST).take 16 ≠ a.digest then some 4
    else none

/-- The pending ACCESSION leaves. -/
def State.dropPending (s : State) : State :=
  let s1 := State.showPending { s with fol := { s.fol with waiting := none } } false false
  s1.setReg Obj.FOL_ACC_PENDING_POS 0

/-- An ACCESSION missed with its cause (R247). -/
def State.accMissed (s : State) (a : PendingAcc) (cause : Nat) : State :=
  let s1 := ((s.dropPending.bump Obj.FOL_ACC_MISSED).setReg Obj.FOL_ACC_MISSED_CAUSE cause).setFlag Obj.FOL_STATUS 3 true
  s1.event 0x1104 (cause * 2 ^ 28 + a.accId.toNat % 2 ^ 28)

/-- The numbers whose change at an Accession restarts registration (R95). -/
def restartObjects : List Nat :=
  [Obj.PX_BAND_ENABLE, Obj.PX_TDI_DEPTH, Obj.PX_DUAL_ENABLE, Obj.PX_SHORT_ROWS, Obj.PX_EXPOSURE, Obj.PX_EXPOSURE_SHORT,
    Obj.PX_BAND_GAIN] ++ (List.range 8).map Obj.PX_BAND_FIRST_ROW

/-- Active and Staged exchanged (R246): the object banks, the reference slots, the digests. A Folio that was Active stays sealed in Staged; where there was
none, the Staged Folio is open and holds the defaults. A digest still being computed for the resumed Folio goes on as its sealing. -/
def State.exchange (s : State) : State :=
  let a := s.cat.active
  let b := s.cat.staged
  let v := s.cat.vol
  let restart := restartObjects.any (fun o => !(Nat.beq (a.num o) (b.num o)))
  let s1 := { s with
    cat := { s.cat with active := b, staged := a }
    cu := { s.cu with slotB := !s.cu.slotB, era := s.cu.era + 1 }
    la := { s.la with restartDue := s.la.restartDue || restart } }
  let s2 := s1.setStagedDigests (v.all Obj.FOL_ACTIVE_OBJ_DIGEST) (v.all Obj.FOL_ACTIVE_REF_DIGEST) (v.all Obj.FOL_ACTIVE_DIGEST)
  let s3 := ((s2.setBlob Obj.FOL_ACTIVE_OBJ_DIGEST (v.all Obj.FOL_STAGED_OBJ_DIGEST)).setBlob Obj.FOL_ACTIVE_REF_DIGEST
    (v.all Obj.FOL_STAGED_REF_DIGEST)).setBlob Obj.FOL_ACTIVE_DIGEST (v.all Obj.FOL_STAGED_DIGEST)
  let cond : Staging := if s.fol.hasActive then (if s.fol.computing then .sealing else .sealed) else .opened
  let s4 := State.showStaging { s3 with fol := { s3.fol with staging := cond, hasActive := true, computing := false } }
  (s4.setReg Obj.FOL_ACTIVE_NUMBER (b.num Obj.FOL_NUMBER)).showPool

/-- A position in 1/256 count moved by the change of the station offset (R250). -/
def shiftBoundary (b : Nat) (delta : Int) : Nat := fromSigned 56 ((b : Int) - 256 * delta)

/-- The grid in the coordinates of a new station offset (R250): the boundaries to come, the marks still ahead, what has been fired. -/
def State.shiftGrid (s : State) (delta : Int) : State :=
  { s with lt := { s.lt with
    cand := shiftBoundary s.lt.cand delta, origins := s.lt.origins.map (fun o => shiftBoundary o delta)
    high := s.lt.high.map (fun o => shiftBoundary o delta), last := shiftBoundary s.lt.last delta } }

/-- LT_STATION_OFFSET of a bank. -/
def bankOffset (b : Bank) : Int := toSigned 32 (b.num Obj.LT_STATION_OFFSET)

/-- An ACCESSION taken (R246): `line` is the LINE of the switch line in RUN. -/
def State.accTaken (s : State) (a : PendingAcc) (line : Option Nat) : State :=
  let s1 := s.dropPending.exchange
  let s2 := (s1.setFlag Obj.FOL_STATUS 3 false).setFlag Obj.FOL_STATUS 6 false
  let s3 := match line with
    | some n => s2.setReg Obj.FOL_SWITCH_LINE (n % 2 ^ 32)
    | none => s2
  ((s3.bump Obj.FOL_ACC_DONE).life 6).event 0x1103 a.folio

/-- The switch (R246, R247): taken or missed. -/
def State.accSwitch (s : State) (a : PendingAcc) (line : Option Nat) : State :=
  match s.accFails a with
  | some c => s.accMissed a c
  | none => s.accTaken a line

/-- In READY the model station position reaches SWITCH_POS (R248). -/
def State.accReady (s : State) : State :=
  match s.fol.waiting with
  | some a => if s.tile.state = .ready ∧ atOrBeyond s.station (countPos a.pos) = true then s.accSwitch a none else s
  | none => s

/-- Has a line at or beyond a position already triggered in this RUN (R245)? -/
def State.accLate (s : State) (a : PendingAcc) : Bool :=
  match s.tile.state, s.lt.high with
  | .run, some h => atOrBeyond (boundaryPos h) (countPos a.pos)
  | _, _ => false

/-- An ACCESSION refused (R242, R248). -/
def State.accRefused (s : State) : State := (s.bump Obj.FOL_ACC_REFUSED).event 0x1106 0

/-- A new ACC_ID (R243): it becomes the last one processed, and a pending ACCESSION is replaced. -/
def State.accNew (s : State) (a : PendingAcc) : State :=
  let s1 := State.setReg { s with fol := { s.fol with lastAcc := some a.accId } } Obj.FOL_ACC_LAST_ID a.accId.toNat
  if s.fol.waiting.isSome then (s1.dropPending.bump Obj.FOL_ACC_REPLACED).event 0x1105 a.accId.toNat else s1

/-- An ACCESSION payload received (R242-R248). -/
def State.accession (s : State) (payload : List Byte) : State :=
  let flags := leAt payload 0x20 4
  let pos := leAt payload 8 8
  if payload.length ≠ 40 ∨ 2 ≤ flags ∨ 2 ^ 48 ≤ pos ∨ leAt payload 0x24 4 ≠ 0 then s.accRefused
  else
    let a : PendingAcc := ⟨BitVec.ofNat 32 (leAt payload 0 4), leAt payload 4 4, pos, (payload.drop 0x10).take 16⟩
    if s.fol.lastAcc = some a.accId then s
    else match s.tile.state with
      | .run =>
        if flags = 1 then s.accRefused
        else
          let s1 := s.accNew a
          if s1.accLate a then s1.accMissed a ((s1.accFails a).getD 5)
          else
            let s2 := { s1 with fol := { s1.fol with waiting := some a } }
            (s2.showPending true (s2.accFails a).isNone).setReg Obj.FOL_ACC_PENDING_POS pos
      | .ready =>
        let s1 := s.accNew a
        if flags = 1 then s1.accSwitch a none
        else
          let s2 := { s1 with fol := { s1.fol with waiting := some a } }
          (s2.showPending true (s2.accFails a).isNone).setReg Obj.FOL_ACC_PENDING_POS pos
      | .linkup | .fault => (s.accNew a).accMissed a 6
      | _ => s

/-! ## Beacons and quotes (R251-R255) -/

/-- The line whose Folio a beacon reports, with its DIVERGENT (R253): in RUN the last one whose trigger arrived. -/
def State.reportedLine (s : State) : Option (Nat × Bool) := if s.tile.state = .run then s.fol.lastLine else none

/-- The beacon's FLAGS (R252): NOT_CAPTURING where it reports no line. -/
def State.beaconFlags (s : State) : Nat :=
  let divergent := match s.reportedLine with
    | some l => l.2
    | none => s.flag Obj.FOL_STATUS 3
  64 * b2n (s.flag Obj.CAL_STATUS 0) + 32 * b2n (bit (s.reg Obj.ID_POSITION) 1) + 16 * b2n s.reportedLine.isNone +
    8 * b2n (s.flag Obj.FOL_STATUS 6) + 4 * b2n (s.flag Obj.FOL_STATUS 2) + 2 * b2n (decide (s.fol.staging = .sealed)) + b2n divergent

/-- LINE of a beacon (R252, R253). -/
def State.beaconLine (s : State) : Nat :=
  match s.reportedLine with
  | some l => l.1 % 2 ^ 32
  | none => 0xFFFFFFFF

/-- The number of the Staged Folio when it is sealed. -/
def State.stagedFolio (s : State) : Nat := if s.fol.staging = .sealed then s.cat.staged.num Obj.FOL_NUMBER else 0

/-- The Staged digest when the Folio is sealed. -/
def State.stagedDigest (s : State) : List Byte := if s.fol.staging = .sealed then s.cat.vol.all Obj.FOL_STAGED_DIGEST else noDigest

/-- The 64 bytes of a beacon with SEQ and TIME given (R252). -/
def State.beaconPayload (s : State) (seq time : Nat) : List Byte :=
  leBytes 4 seq ++ leBytes 1 s.tile.state.code ++ leBytes 1 s.beaconFlags ++ zeros 2 ++
    leBytes 4 (s.reg Obj.FOL_ACTIVE_NUMBER) ++ leBytes 4 s.stagedFolio ++
    sliceBytes (s.cat.vol.all Obj.FOL_ACTIVE_DIGEST) 0 8 ++ sliceBytes s.stagedDigest 0 8 ++ sliceBytes (s.cat.vol.all Obj.ID_FW_DIGEST) 0 8 ++
    leBytes 4 (s.reg Obj.CAL_GEN) ++ leBytes 4 s.beaconLine ++ leBytes 8 time ++ leBytes 4 (s.reg Obj.FOL_ACC_MISSED) ++ zeros 4

/-- The latest beacon instant at or before installation time `x`, if there was one (R251), rounded half to even to a whole ns (R7). -/
def State.beaconInstant (s : State) (x : Nat) : Option Nat :=
  let period := s.reg Obj.FOL_BEACON_PERIOD * 1000000
  let part := divHalfEvenNat (s.address * period) 4096
  if part ≤ x ∧ 0 < period then some ((x - part) / period * period + part) else none

/-- A beacon sent (R251-R253): in READY, RUN and FAULT, with a position and a port in UP, within 20 us of its instant, once. -/
def State.beacon (s : State) : State :=
  match s.tile.state with
  | .ready | .run | .fault =>
    match s.beaconInstant s.itime with
    | some i =>
      if s.positioned && (s.isUp .a || s.isUp .b) && !s.silent && Nat.ble s.itime (i + 20000) && decide (s.fol.beaconAt ≠ some i) then
        let s1 := State.bump { s with fol := { s.fol with beaconAt := some i } } Obj.FOL_BEACON_SEQ
        s1.sendHome (s1.newFrame (s.address / 64 * 64) 3 0x33 (s1.beaconPayload (s1.reg Obj.FOL_BEACON_SEQ) i))
      else s
    | none => s
  | _ => s

/-- Bytes 0x00-0xAF of a quote (R255). -/
def State.quoteFields (s : State) (nonce : List Byte) : List Byte :=
  leBytes 4 0x51505645 ++ leBytes 2 1 ++ leBytes 2 240 ++ leBytes 8 (s.reg Obj.ID_SERIAL) ++ leBytes 2 s.address ++
    leBytes 1 s.tile.state.code ++ leBytes 1 s.beaconFlags ++ leBytes 4 (s.reg Obj.CAL_GEN) ++ leBytes 4 s.beaconLine ++
    leBytes 4 (s.reg Obj.FOL_ACTIVE_NUMBER) ++ leBytes 8 s.itime ++ leBytes 4 s.stagedFolio ++ zeros 4 ++
    sliceBytes (s.cat.vol.all Obj.FOL_ACTIVE_DIGEST) 0 32 ++ sliceBytes s.stagedDigest 0 32 ++
    sliceBytes (s.cat.vol.all Obj.ID_FW_DIGEST) 0 32 ++ sliceBytes nonce 0 32

/-- A nonce written (R254): the quote's fields are taken. -/
def State.quoteNonce (s : State) (nonce : List Byte) : Status × State :=
  match s.tile.state with
  | .ready | .run | .fault =>
    if s.fol.quoting.isSome then (.busy, s)
    else if nonce.length ≠ 32 then (.length, s)
    else (.ok, State.setFlag { s with fol := { s.fol with quoting := some (s.quoteFields nonce) } } Obj.FOL_STATUS 5 true)
  | _ => (.state, s)

/-- `n` free bytes (log entry 24). -/
def State.freeBytes (s : State) (n : Nat) : List Byte := (List.range n).map (Config.freeByte s.free)

/-- The quote signed (R254, R543): the signature is a free value (log entry 24). -/
def State.quoteSigned (s : State) : State :=
  match s.fol.quoting with
  | some q =>
    let s1 := { s with fol := { s.fol with quoting := none } }
    ((s1.setBlob Obj.FOL_QUOTE (q ++ s.freeBytes 64)).drawn).setFlag Obj.FOL_STATUS 5 false
  | none => s

/-! ## The resume Folio (R256-R258) -/

/-- CAT_FOLIO_SAVE_RESUME: the status that refuses it (R256, R522). -/
def State.saveRefused (s : State) : Option Status :=
  if s.fol.hasActive = false then some .state
  else if 4194304 < (objectStream s.cat.active).length then some .length
  else if s.reg Obj.PWR_HOLDUP_ENERGY < 800 ∧ s.reg Obj.CAL_COMMIT_UNPROTECTED = 0 then some .noHoldup
  else none

/-- A save begins with the values as they stand (R256, R522). -/
def State.saveBegin (s : State) : State :=
  let d : ResumeFolio :=
    ⟨s.cat.active, s.cat.active.num Obj.FOL_NUMBER, s.cat.vol.all Obj.FOL_ACTIVE_OBJ_DIGEST, s.cat.vol.all Obj.FOL_ACTIVE_DIGEST, true⟩
  let s1 := { s with fol := { s.fol with saving := some d } }
  if s.reg Obj.PWR_HOLDUP_ENERGY < 800 then s1.event 0x1502 0 else s1

/-- FOL_RESUME_NUMBER, FOL_RESUME_DIGEST and RESUME_STORED as a stored Folio gives them. -/
def State.showResume (s : State) (d : ResumeFolio) : State :=
  ((s.setReg Obj.FOL_RESUME_NUMBER d.number).setBlob Obj.FOL_RESUME_DIGEST d.digest).setFlag Obj.FOL_STATUS 7 true

/-- The save completes (R256). -/
def State.saveDone (s : State) : State :=
  match s.fol.saving with
  | some d => (State.showResume { s with fol := { s.fol with stored := some d, saving := none } } d).event 0x1107 0
  | none => s

/-- A save cut by the loss of power: with a page written, the pages no longer agree (R257; log entry 8). -/
def State.saveCut (s : State) (elapsed : Nat) : State :=
  match s.fol.saving with
  | some d =>
    { s with fol := { s.fol with
      saving := none, stored := if Config.pagesWritten elapsed = 0 then s.fol.stored else some { d with valid := false } } }
  | none => s

/-- CAT_FOLIO_CLEAR_RESUME (R256). -/
def State.clearResume (s : State) : State :=
  let s1 := { s with fol := { s.fol with stored := none, toLoad := false } }
  ((s1.setReg Obj.FOL_RESUME_NUMBER 0).setBlob Obj.FOL_RESUME_DIGEST noDigest).setFlag Obj.FOL_STATUS 7 false

/-- CALLOAD checks the resume Folio (R257); `kernelsOk` tells that its kernel slots pass the signature checks of R540. -/
def State.checkResume (s : State) (kernelsOk : Bank → Bool) : State :=
  match s.fol.stored with
  | some d =>
    if d.valid && kernelsOk d.bank then State.showResume { s with fol := { s.fol with toLoad := true } } d
    else (s.setFlag Obj.FOL_STATUS 7 false).event 0x1108 0
  | none => s

/-- A valid resume Folio becomes Active at entry to READY (R257, R258). -/
def State.loadResume (s : State) : State :=
  match s.fol.toLoad, s.fol.stored with
  | true, some d =>
    let (b, s1) := s.versioned d.bank
    let s2 := { s1 with
      cat := { s1.cat with active := b }
      fol := { s1.fol with toLoad := false, hasActive := true, computing := true, since := s.now } }
    let s3 := ((s2.setReg Obj.FOL_ACTIVE_NUMBER d.number).setBlob Obj.FOL_ACTIVE_OBJ_DIGEST d.objDigest).setFlag Obj.FOL_STATUS 6 true
    (s3.showStaging.showPool).event 0x1109 0
  | _, _ => s

/-- The REF_DIGEST and Folio digest of the resumed Folio complete (R258). -/
def State.resumeDigest (s : State) : State :=
  if s.fol.computing then
    let d := s.folioDigests s.cat.active s.activeSlot
    let s1 := (s.setBlob Obj.FOL_ACTIVE_REF_DIGEST d.2.1).setBlob Obj.FOL_ACTIVE_DIGEST d.2.2
    State.showStaging { s1 with fol := { s1.fol with computing := false } }
  else s

/-! ## Transfers given up (R279, R535) -/

/-- A slot left WRITING is INVALID (R535). -/
def FwSlot.settled (x : FwSlot) : FwSlot := if x.state = .writing then { x with state := .invalid } else x

/-- An image write abandoned, or cut by power (R535). -/
def Security.settled (x : Security) : Security := { x with slot0 := x.slot0.settled, slot1 := x.slot1.settled }

/-- SET-SEG transfers given up, their objects unchanged (R279, R535); the PARAM is laid out in R583. -/
def State.abandon (s : State) (f : Transfer → Bool) : State :=
  let gone := s.cat.transfers.filter f
  let left := s.cat.transfers.filter (fun x => !(f x))
  let s1 := { s with
    cat := { s.cat with transfers := left }
    sec := if gone.any (fun x => Nat.beq x.id Obj.SEC_FW_IMAGE) then s.sec.settled else s.sec }
  let s2 := s1.setReg Obj.CAT_SEG_OPEN left.length
  gone.foldl (fun s x => (s.bump Obj.CAT_SEG_ABANDONED).event 0x1110 (256 * x.id + b2n x.staged)) s2

/-- A transfer whose last segment was accepted CAT_SEG_TIMEOUT ago or earlier is given up (R279). -/
def State.abandonLate (s : State) : State :=
  s.abandon (fun x => Nat.ble (x.lastAt + 1000000 * s.reg Obj.CAT_SEG_TIMEOUT) s.now)

end Sys2Proof.Machine
end

