-- ==== Sys2Proof/Machine/Gallery.lean ====
section
/-! DEFINITION. Contexts, frames and the pipeline of the Gallery (13 R369-R381, R389). -/

namespace Sys2Proof.Machine

/-! ## Sets (R373, R374) -/

/-- A U16 array of an object. -/
def halves (b : Bank) (o n : Nat) : List Nat := (List.range n).map (fun i => b.le o (2 * i) 2)

/-- The edit set of context `c`: what its objects hold (R373). -/
def State.editSet (s : State) (c : Nat) : GaSet :=
  let v := s.cat.vol
  { enable := Nat.beq (v.num (Obj.GA_CTX_ENABLE c)) 1
    source := v.num (Obj.GA_CTX_SOURCE c), vc := v.num (Obj.GA_CTX_VC c), dt := v.num (Obj.GA_CTX_DT c)
    width := v.num (Obj.GA_CTX_WIDTH c), height := v.num (Obj.GA_CTX_HEIGHT c)
    pattern := v.num (Obj.GA_CTX_PATTERN c), phase := v.num (Obj.GA_CTX_PHASE c)
    black := v.num (Obj.GA_CTX_BLACK c), white := v.num (Obj.GA_CTX_WHITE c)
    matrix := (halves v (Obj.GA_CTX_MATRIX c) 15).map (toSigned 16)
    tone := v.num (Obj.GA_CTX_TONE c)
    window := halves v (Obj.GA_CTX_WINDOW c) 4
    outputs := v.num (Obj.GA_CTX_OUTPUTS c)
    dSize := halves v (Obj.GA_CTX_D_SIZE c) 2, cSize := halves v (Obj.GA_CTX_C_SIZE c) 2
    cDepth := v.num (Obj.GA_CTX_C_DEPTH c)
    mMode := v.num (Obj.GA_CTX_M_MODE c)
    mWeights := halves v (Obj.GA_CTX_M_WEIGHTS c) 5
    mPlanes := (v.bytes (Obj.GA_CTX_M_PLANES c) 0 4).map BitVec.toNat
    mBin := v.num (Obj.GA_CTX_M_BIN c)
    statCh := (v.bytes (Obj.GA_CTX_STAT_CH c) 0 4).map BitVec.toNat
    frameStep := v.num (Obj.GA_CTX_FRAME_STEP c), weight := v.num (Obj.GA_CTX_WEIGHT c)
    resBlocks := v.num (Obj.GA_CTX_RES_BLOCKS c), send := Nat.beq (v.num (Obj.GA_CTX_SEND c)) 1
    timeout := v.num (Obj.GA_CTX_FRAME_TIMEOUT c)
    surveyStep := v.num (Obj.GA_CTX_SURVEY_STEP c), surveySync := Nat.beq (v.num (Obj.GA_CTX_SURVEY_SYNC c)) 1 }

/-- The set a context will process with: the pending one, else the applied one. -/
def GaCtx.coming (x : GaCtx) : GaSet := x.pending.getD x.applied

/-- The width rule of a data type (R369); `none` for a type that is not in the table. -/
def widthRule (dt : Nat) : Option Nat := match dt with | 0x1E => some 2 | 0x2A => some 1 | 0x2B => some 4 | 0x2C => some 2 | 0x2D => some 4 | _ => none

/-- Is a list of channel codes (255 unused) carried by the input? -/
def GaSet.carries (s : GaSet) (l : List Nat) : Bool := l.all (fun c => Nat.beq c 255 || s.channels.contains c)

/-- Does an output size fail check 6 (R374)? -/
def sizeFails (w h ow oh : Nat) : Bool := Nat.blt w ow || Nat.blt h oh || Nat.blt (16 * ow) w || Nat.blt (16 * oh) h

/-- The first check of R374 that the edit set of context `c` fails. Checks 6 to 8 look at the outputs the set selects (log entry 16). -/
def State.applyRefusal (s : State) (c : Nat) : Option Nat :=
  let e := s.editSet c
  let others := ((List.range 8).filter (· ≠ c)).map (fun k => (s.gaCtx k).coming)
  let (x0, y0, w, h) := e.win
  let camera := Nat.beq e.source 1 || Nat.beq e.source 2
  let clash := e.enable && others.any (fun o => o.enable && Nat.beq o.source e.source &&
    (Nat.beq e.source 3 || (camera && Nat.beq o.vc e.vc && Nat.beq o.dt e.dt)))
  let rule := match widthRule e.dt with | none => true | some m => !(Nat.beq (e.width % m) 0)
  let yuv := Nat.beq e.dt 0x1E
  let out := fun k => bit e.outputs k
  if clash then some 1
  else if rule || Nat.blt e.width 16 || Nat.blt 8192 e.width || Nat.blt e.height 16 || Nat.blt 16384 e.height then some 2
  else if (Nat.beq e.pattern 4 != Nat.beq e.source 3) || (yuv && !(Nat.beq e.pattern 0)) then some 3
  else if Nat.beq e.source 3 && !(Nat.beq (e.height % 4) 0) then some 4
  else if Nat.blt e.cols (x0 + w) || Nat.blt e.height (y0 + h) || Nat.blt w 16 || Nat.blt h 16 then some 5
  else if (out 0 && (!(Nat.beq (e.dSize.getD 0 0 % 2) 0) || sizeFails w h (e.dSize.getD 0 0) (e.dSize.getD 1 0))) ||
      (out 1 && (!(Nat.beq (e.cSize.getD 0 0 % 2) 0) || !(Nat.beq (e.cSize.getD 1 0 % 2) 0) ||
        sizeFails w h (e.cSize.getD 0 0) (e.cSize.getD 1 0))) then some 6
  else if out 2 && (!(Nat.beq (w % Nat.max 1 e.mBin) 0) || !(Nat.beq (h % Nat.max 1 e.mBin) 0)) then some 7
  else if (out 2 && (if e.mMode = 0 then (List.range 5).any (fun k => Nat.blt 0 (e.mWeights.getD k 0) && !(e.channels.contains k))
        else !(e.carries e.mPlanes))) || (out 3 && !(e.carries e.statCh)) then some 8
  else if Nat.blt (s.reg Obj.VA_RES_GALLERY) ((if e.enable then e.resBlocks else 0) +
      ((List.range 8).filter (· ≠ c)).foldl (fun a k =>
        let x := s.gaCtx k
        let r := fun (g : GaSet) => if g.enable then g.resBlocks else 0
        a + r x.applied + (match x.pending with | some g => r g - r x.applied | none => 0)) 0) then some 9
  else none

/-- A context without an open frame takes its pending set (R374); GA_CTX_FRAMES counts from there. -/
def State.takePending (s : State) (c : Nat) : State :=
  let x := s.gaCtx c
  match x.pending with
  | none => s.gaShow c
  | some g =>
    if x.frames.any (fun f => f.receiving) then s.gaShow c
    else ((s.setGaCtx c { x with applied := g, pending := none, fresh := true }).setReg (Obj.GA_CTX_FRAMES c) 0).gaShow c

/-- An accepted GA_CTX_APPLY (R374). -/
def State.gaApply (s : State) (c : Nat) : State :=
  (s.setGaCtx c { (s.gaCtx c) with pending := some (s.editSet c) }).takePending c

/-! ## The pipeline (R378-R380, R389) -/

/-- The frames the pipeline may work on: in frame mode the first started, in stripe mode every frame with a ready stripe (log entry 17). -/
def State.pipeOrders (s : State) : List Nat :=
  let all := s.ga.ctxs.flatMap (fun p => p.2.frames.filter (fun f => f.selected))
  if s.reg Obj.GA_MUX_MODE = 0 then
    match (all.map GaFrame.order).foldl (fun m o => match m with | none => some o | some x => some (Nat.min x o)) none with
    | some o => [o]
    | none => []
  else (all.filter (fun f => Nat.ble 19 f.rows.length || !f.receiving)).map GaFrame.order

/-- Work done since the last look: 1.2 pixels per ns, shared among the frames worked on. -/
def State.gaAdvance (s : State) : State :=
  let orders := s.pipeOrders
  let share := (s.now - s.ga.workAt) * 6 / 5 / Nat.max 1 orders.length
  let one := fun (f : GaFrame) => if orders.contains f.order then { f with taken := Nat.min (f.rows.length * f.set.cols) (f.taken + share) } else f
  if orders = [] then s
  else { s with ga := { s.ga with
    workAt := s.now, ctxs := s.ga.ctxs.map (fun p => (p.1, { p.2 with frames := p.2.frames.map one })) } }

/-- The items of one frame begun. -/
def State.beginFrame (s : State) (c order : Nat) : State :=
  match (s.gaCtx c).frames.find? (fun f => Nat.beq f.order order) with
  | none => s
  | some f =>
    let (s1, items) := f.toBegin.foldl (fun (a : State × List ViewItem) k =>
      let (s, i) := a.1.beginItem c f k
      (s, a.2 ++ [i])) (s, f.items)
    let x := s1.gaCtx c
    (s1.setGaCtx c { x with frames := x.frames.map (fun g => if g.order = order then { g with toBegin := [], items := items } else g) }).gaShow c

/-- The items begun of every frame the pipeline works on (R388, R389). -/
def State.gaPump (s : State) : State :=
  s.pipeOrders.foldl (fun s o =>
    (List.range 8).foldl (fun s c => s.beginFrame c o) s) s

/-- The Gallery's clock runs when there is work (R378). -/
def State.gaWork (s : State) : State :=
  { (s.setFlag Obj.GA_STATUS 0 true) with ga := { s.ga with clock := true, workAt := s.now } }

/-- PIPE_BUSY (R392). -/
def State.showPipe (s : State) : State := s.setFlag Obj.GA_STATUS 1 (!s.pipeOrders.isEmpty)

/-! ## Frames (R375-R377) -/

/-- A frame opened in context `c`. -/
def State.openFrame (s : State) (c first time folio : Nat) : State :=
  let x := s.gaCtx c
  let seq := s.reg (Obj.GA_CTX_FRAMES c)
  let sel := Nat.beq (seq % Nat.max 1 x.applied.frameStep) 0
  let f : GaFrame :=
    { set := x.applied, seq := seq, order := s.ga.started, time := time, first := first, folio := folio
      flags := if x.fresh then 128 else 0, selected := sel, toBegin := if sel then x.applied.kinds else [] }
  let s1 := s.setGaCtx c { x with frames := x.frames ++ [f], discarding := false, packetAt := s.now, fresh := if sel then false else x.fresh }
  let s2 := { s1 with ga := { s1.ga with started := s1.ga.started + 1 } }
  let s3 := (s2.bump (Obj.GA_CTX_FRAMES c)).gaShow c
  if sel then s3.gaWork.gaPump.showPipe else s3

/-- The frame that a context receives. -/
def GaCtx.open_ (x : GaCtx) : Option GaFrame := x.frames.find? (fun f => f.receiving)

/-- The open frame of a context changed. -/
def State.onOpen (s : State) (c : Nat) (g : GaFrame → GaFrame) : State :=
  let x := s.gaCtx c
  s.setGaCtx c { x with frames := x.frames.map (fun f => if f.receiving then g f else f) }

/-- The open frame of a context ended: SHORT with fewer than HEIGHT lines (R375). A frame without outputs leaves at once. -/
def State.endFrame (s : State) (c : Nat) : State :=
  match (s.gaCtx c).open_ with
  | none => s
  | some f =>
    let short := Nat.blt f.rows.length f.set.height
    let s1 := if short then (s.bump (Obj.GA_CTX_FRAMES_SHORT c)).event 0x2602 0 else s
    let s2 := s1.onOpen c (fun f => { f with receiving := false, flags := if short then f.flags + 1 else f.flags })
    let x := s2.gaCtx c
    let s3 := s2.setGaCtx c { x with frames := x.frames.filter (fun f => f.receiving || (f.selected && !f.set.kinds.isEmpty)) }
    (s3.gaPump.takePending c).showPipe

/-- A flag of the open frame set. -/
def addFrameFlag (k : Nat) (f : GaFrame) : GaFrame := { f with flags := withBit f.flags k true }

/-- A row taken into the open frame: blocks asked for, and the whole frame dropped where they are refused (R378, R381). -/
def State.addRow (s : State) (c : Nat) (row : List Nat) : State :=
  let s0 := s.gaAdvance
  match (s0.gaCtx c).open_ with
  | none => s0
  | some f =>
    let f1 := { f with rows := f.rows ++ [row] }
    let n := (s0.gaCtx c).blocks - f.blocks + f1.blocks
    if f.selected && !(s0.gaRequest c n) then ((s0.vaFail 9).dropFrame c f.order).showPipe
    else
      let lent := if (s0.gaCtx c).applied.resBlocks < n then some (f.lentAt.getD s0.now) else f.lentAt
      (s0.onOpen c (fun _ => { f1 with lentAt := lent })).gaPump.showPipe

/-! ## Camera packets (R371, R372, R375, R376) -/

/-- Are the camera ports powered (R370)? -/
def State.auxOn (s : State) (p : Nat) : Bool :=
  (match s.tile.state with | .ready | .run => true | _ => false) && Nat.beq (s.reg (Obj.GA_AUX_ENABLE p)) 1

/-- A packet's header judged: corrected, in error, or lost to a start-of-transmission error (R371). The packet goes on where it is true. -/
def State.csiHeader (s : State) (p : Nat) (h : CsiHeader) : State × Bool :=
  match h with
  | .clean => (s, true)
  | .corrected => (s.bump (Obj.GA_AUX_ECC_CORRECTED p), true)
  | .errors => ((s.bump (Obj.GA_AUX_ECC_ERRORS p)).event 0x2605 (256 * p + 1), false)
  | .sot => ((s.bump (Obj.GA_AUX_SOT_ERRORS p)).event 0x2605 (256 * p + 3), false)

/-- A packet on a camera port: nothing without power on the port, and nothing more than its header where that is in error. -/
def State.csiPacket (s : State) (p : Nat) (h : CsiHeader) (f : State → State) : State :=
  if s.auxOn p then
    let (s1, ok) := s.csiHeader p h
    if ok then f s1 else s1
  else s

/-- The enabled contexts bound to a camera port and virtual channel. -/
def State.bound (s : State) (p vc : Nat) : List Nat :=
  (List.range 8).filter (fun c => let a := (s.gaCtx c).applied; a.enable && Nat.beq a.source (p + 1) && Nat.beq a.vc vc)

/-- A packet seen on a context's binding. -/
def State.sawPacket (s : State) (c : Nat) : State := s.setGaCtx c { (s.gaCtx c) with packetAt := s.now }

/-- An unmatched packet (R372). -/
def State.unmatched (s : State) (p : Nat) : State := (s.bump (Obj.GA_AUX_UNMATCHED p)).event 0x2606 0

/-- A frame-start packet (R375). -/
def State.csiStart (s : State) (p vc number : Nat) : State :=
  let cs := s.bound p vc
  if cs = [] then s.unmatched p
  else cs.foldl (fun s c =>
    let s1 := (s.endFrame c).takePending c
    if (s1.bound p vc).contains c then s1.openFrame c (number % 65536) s1.itime 0 else s1) s

/-- A frame-end packet (R375). -/
def State.csiEnd (s : State) (p vc : Nat) : State := (s.bound p vc).foldl (fun s c => (s.sawPacket c).endFrame c) s

/-- A long packet for context `c`: one line (R375, R376). -/
def State.csiLine (s : State) (p c dt : Nat) (crcOk : Bool) (payload : List Byte) : State :=
  let x := s.gaCtx c
  match x.open_ with
  | none => if x.discarding then s else s.unmatched p
  | some f =>
    let s1 := s.sawPacket c
    let s2 := if crcOk then s1 else s1.onOpen c (addFrameFlag 4)
    if f.set.height ≤ f.rows.length then
      let s3 := if bit f.flags 1 then s2 else (s2.bump (Obj.GA_CTX_FRAMES_LONG c)).event 0x2603 0
      s3.onOpen c (addFrameFlag 1)
    else
      let l := unpackLine dt payload
      let n := f.set.cols * perPixel dt
      let s3 := if n < l.length then ((s2.bump (Obj.GA_CTX_LINES_CUT c)).event 0x2604 0).onOpen c (addFrameFlag 2)
        else if l.length < n then s2.onOpen c (addFrameFlag 3) else s2
      s3.addRow c (fitLine f.set l)

/-- A long packet on a camera port. -/
def State.csiLong (s : State) (p vc dt : Nat) (crcOk : Bool) (payload : List Byte) : State :=
  let s1 := if crcOk then s else (s.bump (Obj.GA_AUX_CRC_ERRORS p)).event 0x2605 (256 * p + 2)
  match (s1.bound p vc).find? (fun c => Nat.beq (s1.gaCtx c).applied.dt dt) with
  | none => s1.unmatched p
  | some c => s1.csiLine p c dt crcOk payload

/-- GA_CTX_FRAME_TIMEOUT without a packet ends the frame (R375). -/
def State.csiTimeout (s : State) (c : Nat) : State :=
  let x := s.gaCtx c
  match x.open_ with
  | some f => if f.set.source ≠ 3 ∧ x.packetAt + f.set.timeout * 1000000 ≤ s.now then s.endFrame c else s
  | none => s

/-! ## Survey frames (R377) -/

/-- The LINE offset, from the frame's first line, of its row `r`. -/
def surveyOffset (step r : Nat) : Nat := r / 4 * 4 * step + r % 4

/-- The rows missing before LINE offset `off` filled: the row four rows earlier, or 0 within the first group. -/
def surveyFill (c off : Nat) : Nat → State → State
  | 0, s => s
  | n + 1, s =>
    match (s.gaCtx c).open_ with
    | none => s
    | some f =>
      let r := f.rows.length
      if r < f.set.height ∧ surveyOffset (Nat.max 1 f.set.surveyStep) r < off then
        let row := if r < 4 then List.replicate 8192 0 else f.rows.getD (r - 4) []
        let s1 := if bit f.flags 5 then s else s.event 0x2608 0
        surveyFill c off n ((s1.onOpen c (addFrameFlag 5)).addRow c row)
      else s

/-- The frame of a survey context ended where it holds HEIGHT rows. -/
def State.surveyFull (s : State) (c : Nat) : State :=
  match (s.gaCtx c).open_ with
  | some f => if f.set.height ≤ f.rows.length then s.endFrame c else s
  | none => s

/-- One line offered to a survey context: its LINE, whether it carries REPEAT_START, its time and FOLIO, its samples where its survey line exists. -/
def State.surveyLine (s : State) (c : Nat) (line : BitVec 32) (starts : Bool) (time folio : Nat) (row : Option (List Nat)) : State :=
  let a := (s.gaCtx c).applied
  if a.enable && Nat.beq a.source 3 then
    let s1 := if a.surveySync && starts then s.endFrame c else s
    let x := s1.gaCtx c
    let due := x.open_.isNone && Nat.beq (line.toNat % 4) 0 &&
      (!a.surveySync || (s1.ga.repeatAt.isSome && decide (x.usedRepeat ≠ s1.ga.repeatAt)))
    let s2 := if due then
        let s3 := s1.takePending c
        (s3.setGaCtx c { (s3.gaCtx c) with usedRepeat := s3.ga.repeatAt }).openFrame c line.toNat time folio
      else s1
    match (s2.gaCtx c).open_ with
    | none => s2
    | some f =>
      let off := (line - BitVec.ofNat 32 f.first).toNat
      let s3 := surveyFill c off f.set.height s2
      match (s3.gaCtx c).open_, row with
      | some g, some l =>
        let s4 := if surveyOffset (Nat.max 1 g.set.surveyStep) g.rows.length = off then s3.addRow c l else s3
        s4.surveyFull c
      | _, _ => s3.surveyFull c
  else s

/-- A closing line, or one skipped, offered to every survey context (R377). -/
def State.survey (s : State) (number : Nat) (line : BitVec 32) (starts : Bool) (time folio : Nat) (row : Option (List Nat)) : State :=
  let s1 := if starts then { s with ga := { s.ga with repeatAt := some number } } else s
  (List.range 8).foldl (fun s c => s.surveyLine c line starts time folio row) s1

/-- Leaving RUN ends the survey frames SHORT. -/
def State.surveyStop (s : State) : State :=
  (List.range 8).foldl (fun s c => if (s.gaCtx c).applied.source = 3 then s.endFrame c else s) s

/-! ## Items done, clock stop (R378, R389) -/

/-- The pipeline finishes the item of a format of context `c`'s oldest ended frame that has it. -/
def State.itemDone (s : State) (c kind : Nat) : State :=
  let s0 := s.gaAdvance
  let x := s0.gaCtx c
  match x.frames.find? (fun f => !f.receiving && f.items.any (fun i => Nat.beq i.kind kind)) with
  | none => s0
  | some f =>
    match f.items.find? (fun i => Nat.beq i.kind kind) with
    | none => s0
    | some i =>
      let s1 := s0.endItem f i
      let y := s1.gaCtx c
      let f1 := { f with items := f.items.filter (fun j => !(Nat.beq j.kind kind)) }
      let frames := if f1.items = [] ∧ f1.toBegin = [] then y.frames.filter (fun g => !(Nat.beq g.order f.order))
        else y.frames.map (fun g => if g.order = f.order then f1 else g)
      let s2 := { (s1.setGaCtx c { y with frames := frames }) with ga := { (s1.setGaCtx c { y with frames := frames }).ga with workAt := s.now } }
      (s2.gaPump.gaShow c).showPipe

/-- The clock stops after 50 us without work. -/
def State.gaStop (s : State) : State :=
  if s.ga.clock && s.pipeOrders.isEmpty && Nat.ble (s.ga.workAt + 50000) s.now then
    { (s.setFlag Obj.GA_STATUS 0 false) with ga := { s.ga with clock := false } }
  else s

/-- The 1,024 bytes of GA_VIEW_DIR: the last 64 items, the oldest first (log entry 17). -/
def State.viewDir (s : State) : List Byte :=
  sliceBytes (((s.ga.items.take 64).reverse).flatMap (fun i => leBytes 4 i.id ++ leBytes 4 i.offset ++ leBytes 4 i.length ++ leBytes 4 i.state)) 0 1024

end Sys2Proof.Machine
end

