-- ==== Sys2Proof/Machine/Lines.lean ====
section
/-! DEFINITION. A line from its trigger to its close: the trigger fired, held or skipped, the switch of Folios, exposure, row codes, samples and header, strobe windows;
the triggers of a calibration run (03 R62-R78; 04 R83-R102; 17 R472; 19 R516). -/

namespace Sys2Proof.Machine

/-! ## Headers -/

/-- Installation time in ns at local instant `t`. -/
def State.itimeAt (s : State) (t : Nat) : Nat := fromSigned 64 ((s.rg.psAt t).fdiv 1000)

/-- The flags that PX_STATUS gives a header: IMAGE_TEMP and TEST_COL (R100). -/
def State.statusFlags (s : State) (w : Nat) : Nat :=
  addFlag (addFlag w flImageTemp (s.flag Obj.PX_STATUS 0)) flTestCol (s.flag Obj.PX_STATUS 1)

/-- The header of a line as its trigger leaves it, under the Active Folio (R99, R100). -/
def State.newHead (s : State) (line boundary index flags : Nat) : LineHead :=
  let b := s.cat.active
  { kind := 1, depth := b.num Obj.PX_TDI_DEPTH, bands := b.num Obj.PX_BAND_ENABLE, halls := b.num Obj.PX_HALL_ENABLE
    bin := binCode (b.num Obj.PX_COL_BIN), line := BitVec.ofNat 32 line, position := divHalfEvenNat boundary 256 % 2 ^ 48
    folio := b.num Obj.FOL_NUMBER % 65536, repeatIndex := index, holdDelay := 0, time := BitVec.ofNat 32 s.itime, gapBands := 0
    flags := addFlag (addFlag (addFlag flags flDivergent (s.flag Obj.FOL_STATUS 3)) flUncal (s.flag Obj.CAL_STATUS 0)) flHoldover
      (s.flag Obj.LT_STATUS 2)
    qLong := 0, qShort := 0 }

/-- A line in the window, from its trigger. -/
def Trig.record (g : Trig) (h : LineHead) (now : Nat) (samples : List (List Half)) : LineRec :=
  { number := g.number, head := h, bank := g.bank, slot := g.slot, era := g.era, boundary := g.boundary, before := g.before, ref := g.ref, cal := g.cal
    closedAt := now, samples := samples }

/-! ## Skipped lines (R68, R98, R472) -/

/-- A line without samples: a header of KIND 2 with OVERRUN or CLOCK enters the window (R98). `time` is that of its arrival. -/
def State.skipLine (s : State) (g : Trig) (flag : Nat) (time : BitVec 32) : State :=
  let h : LineHead := { g.head with kind := 2, holdDelay := 0, time := time, gapBands := 0, qLong := 0, qShort := 0, flags := Nat.lor (s.statusFlags g.head.flags) flag }
  let s1 := (s.enterWindow (g.record h s.now [])).bump Obj.LA_SKIPPED
  s1.survey g.number h.line (Nat.beq (Nat.land h.flags flRepeatStart) flRepeatStart) h.time.toNat h.folio none

/-! ## Firing (R67, R68, R69) -/

/-- A trigger fires at `t0` (R67, R68): its line is in flight, the busy window runs, gate 7 opens, the pin engines see the pulse. -/
def State.fire (s : State) (g : Trig) (held : Bool) (t0 : Nat) : State :=
  let h : LineHead := { g.head with
    time := BitVec.ofNat 32 (s.itimeAt t0)
    holdDelay := divHalfEvenNat (t0 - g.arrival) 40
    flags := addFlag g.head.flags flHeld held }
  let f : Flight := { trig := { g with head := h }, t0 := t0 }
  let starts := b2n (Nat.beq (Nat.land h.flags flRepeatStart) flRepeatStart)
  let s1 := { s with
    la := { s.la with flights := s.la.flights ++ [f] }
    lt := { s.lt with busyUntil := t0 + folioBusy g.bank, pulses := s.lt.pulses + 1, starts := s.lt.starts + starts } }
  s1.lineGate (g.number % 2 ^ 32)

/-- The held trigger fires at the end of the busy window (R68). -/
def State.heldFire (s : State) : State :=
  match s.lt.held with
  | some g =>
    if s.lt.busyUntil ≤ s.now then State.fire { s with lt := { s.lt with held := none } } g true s.lt.busyUntil else s
  | none => s

/-- Is PLL-A unlocked (R472)? -/
def State.lineClockLost (s : State) : Bool := s.flag Obj.CLK_STATUS 1

/-- A trigger that has arrived fires, is held, or gives a KIND 2 header (R68, R472). -/
def State.triggered (s : State) (g : Trig) : State :=
  if s.lineClockLost then s.skipLine g flClock g.head.time
  else if s.lt.busyUntil ≤ s.now then s.fire g false s.now
  else match s.lt.held with
    | none => State.bump { s with lt := { s.lt with held := some g } } Obj.LT_HELD
    | some _ => ((s.skipLine g flOverrun g.head.time).bump Obj.LT_OVERRUN).event 0x2101 0

/-! ## A boundary reached (R61-R66, R72-R78, R245-R250) -/

/-- The switch of a pending ACCESSION at a line whose boundary is at or beyond its position (R245, R246); whether it was taken. -/
def State.switchAt (s : State) (b line : Nat) : State × Bool :=
  match s.fol.waiting with
  | some a =>
    if atOrBeyond (boundaryPos b) (countPos a.pos) then (s.accSwitch a (some line), (s.accFails a).isNone) else (s, false)
  | none => (s, false)

/-- A repeat begun by a mark at this line (R73, R77): the mark whose origin it is, or the late one. -/
def State.startRepeat (s : State) (due : Bool) : State :=
  let s1 := if due then s.markAccepted else s
  { s1 with lt := { s1.lt with
    origins := if due then s1.lt.origins.tail else s1.lt.origins
    inRepeat := true, longDone := false, late := false, k := 0 } }

/-- LONG counted once per repeat (R76). -/
def State.countLong (s : State) (long : Bool) : State :=
  if long && !s.lt.longDone then (State.bump { s with lt := { s.lt with longDone := true } } Obj.LT_REPEAT_LONG).event 0x2109 0 else s

/-- A registration restart that is due at this line (R95). -/
def State.restartAt (s : State) (line : Nat) : State :=
  if s.la.restartDue then
    let s1 := { s with la := { s.la with restartDue := false, firstValid := line } }
    (s1.setFlag Obj.LA_STATUS 1 true).event 0x2205 0
  else s

/-- The trigger of boundary `b` arrives (R64): its Folio, index and flags are fixed, the grid moves on, and the line is captured, held or skipped. -/
def State.boundary (s : State) (b : Nat) : State :=
  let line := s.reg Obj.LT_LINE_COUNT
  let due := s.markDue
  let start := due || s.lt.late
  let before := if s.lt.high.isNone then fromSigned 56 ((b : Int) - (s.pitch : Int)) else s.lt.last
  let old := s.stationOffset
  let (s1, taken) := s.switchAt b line
  let s2 := if start then s1.startRepeat due else s1
  let (index, flags, long) := repeatFlags s2 s2.lt.k
  let flags1 := if start then Nat.lor (Nat.lor flags flRepeatStart) s2.lt.startFlags else flags
  let s3 := (s2.countLong long).restartAt line
  let h := s3.newHead line b index (addFlag flags1 flAccession taken)
  let g : Trig :=
    { head := h, number := line, bank := s3.cat.active, slot := s3.cu.slotB, era := s3.cu.era, boundary := b, before := before
      firstValid := s3.la.firstValid, ref := if Nat.land h.flags flNoRef = 0 then some index else none, arrival := s3.now
      cal := s3.calUse }
  let s4 := { s3 with
    lt := { s3.lt with
      cand := (b + s3.pitch) % 2 ^ 56, k := index + 1, lastIndex := index, high := some b, last := b
      startFlags := if start then 0 else s3.lt.startFlags }
    fol := { s3.fol with lastLine := some (line, s3.flag Obj.FOL_STATUS 3) } }
  let s5 := (s4.shiftGrid (s4.stationOffset - old)).bumpBy 64 Obj.LT_LINE_COUNT 1
  (((s5.setReg Obj.LT_REPEAT_INDEX index).triggered g).watchClock)

/-- May a boundary of the grid fire a trigger: in RUN, before STOP, with a position (R60, R64, R289)? -/
def State.triggersOn (s : State) : Bool :=
  decide (s.tile.state = .run) && s.tile.stopping.isEmpty && (s.posMaster || !s.posLost)

/-- The station position reaches the next grid boundary (R64). A trigger held until this instant fires first. -/
def State.lineTrigger (s : State) : State :=
  let s0 := s.watchMotion
  if s0.triggersOn then
    let s1 := dropGuarded s0 s0.lt.origins
    let b := s1.nextBoundary
    if atOrBeyond s1.trigPos (boundaryPos b) then s1.heldFire.boundary b else s1
  else s0

/-! ## Exposure (R33, R71) -/

/-- The long exposure of a flight. -/
def Flight.exposure (f : Flight) : Nat := f.trig.bank.num Obj.PX_EXPOSURE

/-- The first flight that `p` picks, changed; what follows it is done with the flight as it was. -/
def State.onFlight (s : State) (p : Flight → Bool) (g : Flight → Flight) (k : State → Flight → State) : State :=
  match s.la.flights.find? p with
  | some f => k { s with la := s.la.setFlight (g f) } f
  | none => s

/-- The long rows start their exposure, and the long window opens (R33, R71). -/
def State.exposureStart (s : State) : State :=
  s.onFlight (fun f => !f.exposing && Nat.ble (f.t0 + 110) s.now) (fun f => { f with exposing := true })
    (fun s f => s.openGate 1 (f.trig.number % 2 ^ 32) (some (f.t0 + 110 + f.exposure)))

/-- The short rows start theirs, and the short window opens (R33, R71). -/
def State.shortStart (s : State) : State :=
  s.onFlight
    (fun f => f.exposing && !f.shortExposing && anyDual f.trig.bank &&
      Nat.ble (f.t0 + 110 + f.exposure - f.trig.bank.num Obj.PX_EXPOSURE_SHORT) s.now)
    (fun f => { f with shortExposing := true })
    (fun s f => s.openGate 2 (f.trig.number % 2 ^ 32) (some (f.t0 + 110 + f.exposure)))

/-- The global transfer (R33). -/
def State.exposureEnd (s : State) : State :=
  s.onFlight (fun f => f.exposing && !f.ended && Nat.ble (f.t0 + 110 + f.exposure) s.now) (fun f => { f with ended := true }) (fun s _ => s)

/-! ## Row codes (R83, R516) -/

/-- Is a flight a line of a calibration run? -/
def Flight.calibrates (f : Flight) : Bool := Nat.beq f.trig.head.kind 0

/-- The row slots of a flight. -/
def State.slotsOf (s : State) (f : Flight) : Nat :=
  if f.calibrates then (match s.cal.run with | some r => runRows r.flat | none => 0) else rowCount f.trig.bank

/-- The codes of a row of a calibration run's line (R516): rows 80-103 at x1, the others at the line's gain. -/
def State.calCodes (s : State) (f : Flight) (codes : List (BitVec 12)) : State :=
  match s.cal.run with
  | none => s
  | some r =>
    let n := f.trig.number
    let row := (f.done, codes.map BitVec.toNat)
    let seen := r.lines.any (fun l => Nat.beq l.number n)
    let fresh : CalLine :=
      { number := n, gain4 := Nat.beq f.trig.head.depth 4, energy := s.energy (f.trig.bank.num Obj.LA_NORM_ACC_LONG) 1 n, rows := [row] }
    let lines := if seen then r.lines.map (fun l => if l.number = n then { l with rows := l.rows ++ [row] } else l) else r.lines ++ [fresh]
    let last := Nat.ble (runRows r.flat) (f.done + 1)
    let la := if last then { s.la with flights := s.la.flights.filter (fun x => !(Nat.beq x.trig.number n)) }
      else s.la.setFlight { f with done := f.done + 1 }
    { s with cal := { s.cal with run := some { r with lines := lines } }, la := la }

/-- The code of row slot `slot` is ready, 500 ns after the slot's start (R83, R85). -/
def State.rowReady (s : State) (slot : Nat) (codes : List (BitVec 12)) : State :=
  match s.la.converting slot with
  | some f =>
    if f.t0 + 610 + f.exposure + slot * 125 ≤ s.now ∧ slot < s.slotsOf f then
      if f.calibrates then s.calCodes f codes
      else
        let s1 := s.rowCodes f codes
        if slot + 1 = rowCount f.trig.bank then s1.testColumnsLine else s1
    else s
  | none => s

/-! ## Line close (R85, R92-R102) -/

/-- What the bands of a line came to. -/
structure LineOut where
  bands : List BandOut
  normNone : Bool
  normRange : Bool
  clamp : Bool
  deriving DecidableEq, Repr

/-- The band samples of a line with the flags of every capture that contributes (R91-R93, R100). -/
def State.lineOut (s : State) (g : Trig) : LineOut :=
  let ks := enabledBands g.bank
  let parts := ks.flatMap (s.bandParts g)
  ⟨ks.map (s.bandOut g), parts.any (fun p => (p.1.norm p.2).1), parts.any (fun p => (p.1.norm p.2).2), parts.any (fun p => p.2.fallback)⟩

/-- A count over the bands. -/
def sumBands (l : List BandOut) (f : BandOut → Nat) : Nat := l.foldl (fun a o => a + f o) 0

/-- The header of a closing line (R99, R100). -/
def State.closeHead (s : State) (g : Trig) (o : LineOut) : LineHead :=
  let gaps := bitsToNat ((List.range 8).map (fun k =>
    ((enabledBands g.bank).zip o.bands).any (fun p => Nat.beq p.1 k && p.2.gap)))
  let w1 := addFlag (addFlag g.head.flags flPartialTdi (o.bands.any BandOut.partial_)) flBandGap (Nat.blt 0 gaps)
  let w2 := addFlag (addFlag w1 flHdr (Nat.blt 0 (sumBands o.bands BandOut.hdr))) flSat
    (Nat.blt 0 (sumBands o.bands BandOut.sat + sumBands o.bands BandOut.clipped))
  let w3 := addFlag (addFlag (addFlag w2 flNormNone o.normNone) flNormRange o.normRange) flClamp o.clamp
  let c := s.la.capture g.number
  { g.head with
    gapBands := gaps, flags := s.statusFlags w3
    qLong := (c.map Capture.qLong).getD 8192
    qShort := if anyDual g.bank then (c.map Capture.qShort).getD 8192 else 0 }

/-- The counters and LA_STATUS after a line (R92, R93, R104, R105): REG_FILLING ends with the first line after the restart that has no
BAND_GAP (R95). -/
def State.countLine (s : State) (g : Trig) (h : LineHead) (o : LineOut) (extra : List BandOut) : State :=
  let on := fun (f : Nat) => decide (Nat.land h.flags f ≠ 0)
  let all_ := o.bands ++ extra
  let s1 := ((s.bumpBy 64 Obj.LA_LINES 1).bumpBy 64 Obj.LA_SAT_SAMPLES (sumBands all_ BandOut.sat)).bumpBy 64 Obj.LA_HDR_SAMPLES
    (sumBands o.bands BandOut.hdr)
  let s2 := s1.bumpBy 64 Obj.LA_CLIPPED_SAMPLES (sumBands all_ BandOut.clipped)
  let s3 := if on flPartialTdi then s2.bump Obj.LA_PARTIAL_TDI else s2
  let s4 := if on flBandGap then (s3.bump Obj.LA_BAND_GAP).event 0x2204 0
    else if s3.la.firstValid ≤ g.number then s3.setFlag Obj.LA_STATUS 1 false else s3
  let s5 := if on flNormNone then s4.bump Obj.LA_NORM_NONE else s4
  let s6 := if on flNormRange then s5.bump Obj.LA_NORM_RANGE else s5
  s6.setFlag Obj.LA_STATUS 0 (on flNormNone)

/-- 600 ns after the last row is sampled the line closes (R85): samples and header are formed, the Curator and the Gallery take them. -/
def State.lineClose (s : State) : State :=
  match s.la.flights.find? (fun f => !f.calibrates) with
  | some f =>
    let g := f.trig
    if f.ended && Nat.beq f.done (rowCount g.bank) && Nat.ble (f.t0 + 710 + f.exposure + rowCount g.bank * 125) s.now then
      let o := s.lineOut g
      let h := s.closeHead g o
      let survey := if surveyOn g.bank then some (s.surveyOut g) else none
      let s1 := { s with la := { s.la with flights := s.la.flights.filter (fun x => !(Nat.beq x.trig.number g.number)) } }
      let s2 := s1.countLine g h o survey.toList
      let l := g.record h s.now (o.bands.map (fun b => handOn g.bank b.samples))
      let s3 := s2.curate l
      let starts := Nat.beq (Nat.land h.flags flRepeatStart) flRepeatStart
      (s3.survey g.number h.line starts h.time.toNat h.folio (survey.map BandOut.samples)).countClock
    else s
  | none => s

/-! ## Lines aborted (R472, R552) -/

/-- PLL-A is lost (R472): every line in exposure or readout and the held trigger become KIND 2 headers with CLOCK, and the array is
no longer busy; a calibration run fires those lines again. -/
def State.abortLines (s : State) : State :=
  let fs := s.la.flights
  let lost := (fs.filter (fun f => !f.calibrates)).map (fun f => (f.trig, BitVec.ofNat 32 (s.itimeAt f.trig.arrival)))
  let held := s.lt.held.toList.map (fun g => (g, g.head.time))
  let redo := (fs.filter Flight.calibrates).length
  let nums := fs.map (fun f => f.trig.number)
  let s1 := { s with
    la := { s.la with flights := [], captures := s.la.captures.filter (fun c => !(nums.contains c.number)) }
    lt := { s.lt with held := none, busyUntil := Nat.min s.lt.busyUntil s.now }
    cal := { s.cal with run := s.cal.run.map (fun r => { r with
      fired := r.fired - redo, lines := r.lines.filter (fun l => !(nums.contains l.number)) }) } }
  (lost ++ held).foldl (fun (s : State) (p : Trig × BitVec 32) => s.skipLine p.1 flClock p.2) s1

/-- FAULT aborts every line in exposure or readout: it never closes and counts nowhere (R552). -/
def State.dropLines (s : State) : State :=
  { s with
    la := { s.la with flights := [], captures := [] }
    lt := { s.lt with held := none } }

/-! ## Strobe windows (R69, R472) -/

/-- Strobe window `x` of a flight: its start and its end. -/
def Flight.strobe (f : Flight) (x : Nat) : Nat × Nat :=
  let a := f.t0 + f.trig.bank.num (Obj.LT_STB_START x)
  (a, a + f.trig.bank.num (Obj.LT_STB_WIDTH x))

/-- An enabled strobe window opens (R69); none does while PLL-A is lost. -/
def State.strobeOpen (s : State) (x : Nat) : State :=
  if s.lineClockLost then s
  else
    s.onFlight
      (fun f => bit (f.trig.bank.num Obj.LT_STB_ENABLE) x && !(f.strobed.contains x) && Nat.ble (f.strobe x).1 s.now)
      (fun f => { f with strobed := x :: f.strobed })
      (fun s f => State.openGate { s with lt := { s.lt with strobes := (x, (f.strobe x).2) :: s.lt.strobes } } (3 + x) (f.trig.number % 2 ^ 32)
        (some (f.strobe x).2))

/-- An open strobe window ends (R69). -/
def State.strobeClose (s : State) (x : Nat) : State :=
  { s with lt := { s.lt with strobes := s.lt.strobes.filter (fun p => !(Nat.beq p.1 x && Nat.ble p.2 s.now)) } }

/-! ## Calibration runs (R516) -/

/-- The window of a monitor unit opens at its gate's instant (R409, R415), where the event that opens the gate has not come yet. -/
def State.windowOpen (s : State) (u : MonUnit) : State :=
  let gate := match u with | .acc i => s.reg (Obj.AM_ACC_GATE i) | .mm i => s.reg (Obj.AM_MM_GATE i)
  let due := fun (f : Flight) => match gate with
    | 1 => if f.exposing then none else some (f.t0 + 110, f.t0 + 110 + f.exposure)
    | 2 => if f.shortExposing || !(anyDual f.trig.bank) then none
      else some (f.t0 + 110 + f.exposure - f.trig.bank.num Obj.PX_EXPOSURE_SHORT, f.t0 + 110 + f.exposure)
    | 3 | 4 | 5 | 6 => if bit (f.trig.bank.num Obj.LT_STB_ENABLE) (gate - 3) && !(f.strobed.contains (gate - 3)) then some (f.strobe (gate - 3)) else none
    | _ => none
  match s.la.flights.find? (fun f => match due f with | some (a, b) => Nat.ble a s.now && Nat.blt s.now b | none => false) with
  | none => s
  | some f =>
    let close := (due f).map (fun p => p.2)
    match u with
    | .acc i => s.openAcc i gate (f.trig.number % 2 ^ 32) close
    | .mm i => s.openMm i gate (f.trig.number % 2 ^ 32) close

/-- An accepted run fires its own trigger at CAL_RUN_RATE in READY (R516). A DARK run takes its second half at x4. -/
def State.calTrigger (s : State) : State :=
  match s.cal.run with
  | none => s
  | some r =>
    let due := Nat.beq r.fired 0 || Nat.ble 1000000000 ((s.now + 1 - r.lastAt) * s.reg Obj.CAL_RUN_RATE)
    if s.tile.state = .ready ∧ r.fired < r.total ∧ due ∧ s.lineClockLost = false then
      let n := s.reg Obj.LT_LINE_COUNT
      let x4 := !r.flat && Nat.ble (r.total / 2) r.fired
      let h : LineHead := { s.newHead n 0 0 0 with kind := 0, depth := if x4 then 4 else 1 }
      let g : Trig :=
        { head := h, number := n, bank := s.cat.active, slot := s.cu.slotB, era := s.cu.era, boundary := 0, before := 0
          firstValid := n, ref := none, arrival := s.now, cal := s.calUse }
      let s1 := { s with cal := { s.cal with run := some { r with fired := r.fired + 1, lastAt := s.now } } }
      (s1.bumpBy 64 Obj.LT_LINE_COUNT 1).fire g false s.now
    else s

/-! ## Array temperature (R43) -/

/-- The array temperature rises above 70 C. -/
def State.imageHot (s : State) (temp : Int) : State :=
  let s1 := s.setReg Obj.PX_ARRAY_TEMP (fromSigned 16 temp)
  if 1120 < temp ∧ s.flag Obj.PX_STATUS 0 = false then (s1.setFlag Obj.PX_STATUS 0 true).event 0x2001 0 else s1

/-- The array temperature falls below 68 C. -/
def State.imageCool (s : State) (temp : Int) : State :=
  let s1 := s.setReg Obj.PX_ARRAY_TEMP (fromSigned 16 temp)
  if temp < 1088 ∧ s.flag Obj.PX_STATUS 0 = true then (s1.setFlag Obj.PX_STATUS 0 false).event 0x2002 0 else s1

end Sys2Proof.Machine
end

