-- ==== Sys2Proof/Machine/Faults.lean ====
section
/-! DEFINITION. Entering FAULT, further causes in FAULT, and what the boot ROM leaves (21 R550-R554, R561). -/

namespace Sys2Proof.Machine

/-! ## Who serves (R550, R552) -/

/-- Does firmware run: from SELFTEST on, but in REST, and in FAULT unless the boot ROM serves it? -/
def State.firmware (s : State) : Bool :=
  match s.tile.state with
  | .off | .boot | .rest => false
  | .fault => decide (s.tile.server ≠ .bootRom)
  | _ => true

/-- Does the boot ROM serve FAULT? -/
def State.romFault (s : State) : Bool := decide (s.tile.state = .fault) && decide (s.tile.server = .bootRom)

/-- The code that serves FAULT on a cause (R550). -/
def faultServer (cause : Nat) (before : TileState) : Server :=
  if cause = 5 then .alwaysOn
  else if cause = 1 ∨ (6 ≤ cause ∧ cause ≤ 8) ∨ (cause = 9 ∧ before = .boot) then .bootRom
  else .firmware

/-- The boot ROM takes over: what firmware had in hand stops where it stands, and the mirror is no longer written (R552, R557). -/
def State.romTakes (s : State) : State :=
  let started := match s.cat.long with
    | some l => l.started
    | none => s.now
  let s1 := s.commitCut.saveCut (s.now - started)
  let s2 := { s1 with
    cat := { s1.cat with
      queue := [], transfers := [], completed := [], long := none
      mbState := if s1.cat.mbState = MbState.busy then .idle else s1.cat.mbState }
    log := { s1.log with mirror := false } }
  ((s2.setReg Obj.CAT_SEG_OPEN 0).setFlag Obj.EVT_STATUS 1 false).setFlag Obj.EVT_STATUS 2 true

/-- FAULT is served by `v`. -/
def State.serveFault (s : State) (v : Server) : State :=
  let s1 := if v = .bootRom then s.romTakes else s
  { s1 with tile := { s1.tile with server := v } }

/-! ## What FAULT stops (R552) -/

/-- Every Gallery context without frames; `stop` also disables it. -/
def State.gaHalt (s : State) (stop : Bool) : State :=
  let items := s.ga.items.map (fun (i : ViewItem) => if i.state = 0 then { i with state := 3 } else i)
  let ctxs := s.ga.ctxs.map (fun (p : Nat × GaCtx) =>
    (p.1, { p.2 with frames := [], discarding := false, applied := { p.2.applied with enable := p.2.applied.enable && !stop } }))
  let s1 := { s with ga := { s.ga with items := items, ctxs := ctxs } }
  (s1.ga.ctxs.map Prod.fst).foldl (fun s c => s.gaShow c) s1

/-- The time in RUN so far added to the present hour. -/
def State.bankRun (s : State) : State :=
  if s.tile.state = .run then { s with tile := { s.tile with runPart := s.tile.runPart + (s.now - s.tile.runAt), runAt := s.now } } else s

/-- Lines, tasks, tokens, a pending ACCESSION, pin engines, Gallery contexts and a calibration run end (R552). -/
def State.stopWork (s : State) : State :=
  let s1 := s.bankRun.dropLines.clearWindow.dropPending.stopPins
  let s2 := ((s1.gaHalt true).setFlag Obj.CAL_STATUS 2 false).abandon (fun _ => s.readyOrRunning)
  { s2 with cal := { s2.cal with run := none }, tile := { s2.tile with stopping := [] } }

/-- The entries held while the control core could not write, written when it can again (R555). -/
def State.coreAwake (s : State) : State := if s.log.live then s else s.flushHeld

/-- Ports that sleep as repeaters or end in idle come back to RECOVERY (R327). -/
def State.portsAwake (s : State) : State :=
  let one := fun (s : State) (p : Port) =>
    match (s.port p).state with
    | .pass | .idleEnd => s.enterRecovery p
    | _ => s
  one (one s .a) .b

/-- REST entry, REST and a wake are over. -/
def State.leaveRest (s : State) : State :=
  if s.tile.phase = .none then s
  else
    let s1 := s.coreAwake.portsAwake
    { s1 with tile := { s1.tile with phase := .none } }

/-! ## FAULT (R550-R553) -/

/-- The lifetime counter of a cause (R561). -/
def State.lifeCause (s : State) (cause : Nat) : State :=
  match cause with
  | 6 => s.life 8
  | 7 => s.life 9
  | 10 => s.life 10
  | 9 => s.life 11
  | _ => s

/-- The PARAM of EVT_FAULT (R552). -/
def faultParam (cause detail : Nat) : Nat := cause * 2 ^ 24 + detail % 2 ^ 24

/-- EVT_FAULT_CAUSE and EVT_FAULT_DETAIL. -/
def State.setCause (s : State) (cause detail : Nat) : State :=
  (s.setReg Obj.EVT_FAULT_CAUSE cause).setReg Obj.EVT_FAULT_DETAIL (detail % 2 ^ 32)

/-- A cause that arises in FAULT (R553): recorded; in the same control-core cycle the lower code is reported; causes 6 to 8 hand FAULT to the boot ROM. -/
def State.furtherCause (s : State) (cause detail : Nat) : State :=
  let s1 := s.event 0x1701 (faultParam cause detail)
  let same := Nat.beq (s.now / 2) (s.tile.faultAt / 2) && Nat.blt cause (s.reg Obj.EVT_FAULT_CAUSE)
  let s2 := if same then
      let s3 := s1.setCause cause detail
      { s3 with recs := { s3.recs with history := match s3.recs.history with
        | r :: l => { r with cause := cause, detail := BitVec.ofNat 32 detail } :: l
        | [] => [] } }
    else s1
  if 6 ≤ cause ∧ cause ≤ 8 ∧ s.tile.server ≠ .bootRom then s2.serveFault .bootRom else s2

/-- FAULT entered with a cause and its detail, or a further cause in FAULT (R552, R553). In OFF nothing happens. -/
def State.enterFault (s : State) (cause detail : Nat) : State :=
  match s.tile.state with
  | .off => s
  | .fault => s.furtherCause cause detail
  | before =>
    let s1 := s.stopWork.leaveRest
    let s2 := (s1.serveFault (faultServer cause before)).setCause cause detail
    let s3 := ((s2.event 0x1701 (faultParam cause detail)).alert 1).life 1
    let s4 := (s3.lifeCause cause).addFaultRecord cause (detail % 2 ^ 32) before
    let s5 := s4.goto .fault
    let s6 := { s5 with tile := { s5.tile with faultAt := s.now } }
    s6.writeRecords.chanSync

/-! ## The watchdogs (R548, R551) -/

/-- The limit of a start-up state in ms (R547). -/
def stateLimit : TileState → Option Nat
  | .boot => some 200
  | .selftest => some 1000
  | .calload => some 500
  | _ => none

/-- A start-up state beyond its limit (R548). EVT_LIFE.BOOTS counts the end of CALLOAD whichever state follows (R561), with the records loaded. -/
def State.stateTimeout (s : State) : State :=
  match stateLimit s.tile.state with
  | some n =>
    if n * 1000000 < s.now - s.tile.since then
      let s1 := if s.tile.state = .calload then s.loadRecords.numberBoot.life 0 else s
      s1.enterFault 9 s.tile.state.code
    else s
  | none => s

/-- Does the control core run, so that its watchdogs do: in every state but OFF and REST? -/
def State.coreRuns (s : State) : Bool :=
  match s.tile.state with
  | .off | .rest => false
  | _ => true

/-- A control-core memory word read (R551): corrected, or uncorrectable at a word address. -/
def State.coreWord (s : State) (bad : Option Nat) : State :=
  if s.coreRuns then
    match bad with
    | some a => s.enterFault 8 a
    | none => (s.bump Obj.EVT_CORE_CE).event 0x1706 0
  else s

/-- The case has been at or above 130 degrees for 100 ms (R550). -/
def State.overtemp (s : State) (temp : Int) : State :=
  if 2080 ≤ temp then s.enterFault 10 (fromSigned 32 temp) else s

end Sys2Proof.Machine
end

