-- ==== Sys2Proof/Machine/Clocks.lean ====
section
/-! DEFINITION. The PLLs, their references and bands, loss of lock, the ramp of PLL-C, the temperature limit and the clock outputs (17 R465-R479, R584). -/

namespace Sys2Proof.Machine

/-! ## PLLs (R468, R469) -/

/-- The LOST bit of a PLL in CLK_STATUS (R486). -/
def lostBit : Pll → Nat
  | .a => 1
  | .b => 5
  | .c => 2
  | .l => 3
  | .x => 4

/-- The PLLs. -/
def allPlls : List Pll := [.a, .b, .c, .l, .x]

/-- Does a PLL run in the tile's state (R469)? -/
def State.pllOn (s : State) (p : Pll) : Bool :=
  match s.tile.state with
  | .off | .rest => false
  | .boot => (match p with | .a | .b => true | _ => false)
  | _ => true

/-- Is a PLL out of lock? -/
def State.pllLost (s : State) (p : Pll) : Option LostPll := storeFind p.code s.ck.lost

/-- The VCO range of a PLL in kHz (R468). -/
def vcoRange : Pll → Nat × Nat
  | .a => (3800000, 4200000)
  | .b => (2800000, 3200000)
  | .c | .x => (2000000, 4000000)
  | .l => (6000000, 6500000)

/-- The VCO frequency that a PLL now uses; in an excursion PLL-C is tuned to its end (R476). -/
def State.vco (s : State) (p : Pll) : Nat :=
  match p with
  | .a => 4000000
  | .b => 3000000
  | .c => match s.ck.excursion with
    | some e => e.divider * e.target
    | none => s.ck.divider * s.ck.freq
  | .l => 6250000
  | .x => s.reg Obj.CLK_X_VCO

/-! ## Bands (R470) -/

/-- F_LOW and F_HIGH of the 32 entries of a table. -/
def bandsOf (l : List Byte) : List (Nat × Nat) := (List.range 32).map (fun k => (leAt l (8 * k) 4, leAt l (8 * k + 4) 4))

/-- Does an entry in use cover a frequency? -/
def bandCovers (b : Nat × Nat) (v : Nat) : Bool := !(Nat.beq b.1 0 && Nat.beq b.2 0) && Nat.ble b.1 v && Nat.ble v b.2

/-- The band for a VCO frequency: the one in use while it covers it, otherwise the lowest that does. -/
def bandFor (l : List (Nat × Nat)) (inUse v : Nat) : Option Nat :=
  if bandCovers (l.getD inUse (0, 0)) v then some inUse else l.findIdx? (fun b => bandCovers b v)

/-- The band table of a PLL. -/
def State.bands (s : State) (p : Pll) : List (Nat × Nat) := bandsOf (s.cat.work.all (Obj.CLK_BAND_TABLE p.code))

/-- Is a written band table refused (R470)? -/
def State.tableRefused (s : State) (p : Pll) (l : List Byte) : Bool :=
  let bs := bandsOf l
  let (lo, hi) := vcoRange p
  bs.any (fun b => !(Nat.beq b.1 0 && Nat.beq b.2 0) && (Nat.ble b.2 b.1 || Nat.blt b.1 lo || Nat.blt hi b.2)) ||
    !(bs.any (fun b => bandCovers b (s.vco p)))

/-- CLK_BAND_IN_USE of a PLL. -/
def State.showBand (s : State) (p : Pll) (k : Nat) : State := s.patchBlob Obj.CLK_BAND_IN_USE p.code (leBytes 1 k)

/-! ## PLL-C (R474-R476, R584) -/

/-- The frequency of the PLL-C domains shown and judged (R199, R475). -/
def State.showFreq (s : State) : State :=
  (s.setReg Obj.CLK_C_FREQ (if s.flag Obj.CLK_STATUS 8 then 250000 else s.ck.freq)).watchClock

/-- C_BYPASS set or cleared. -/
def State.setBypass (s : State) (b : Bool) : State := (s.setFlag Obj.CLK_STATUS 8 b).showFreq

/-- A point of the profile: RATE and FREQ. -/
def profilePoints (l : List Byte) : List (Nat × Nat) :=
  (List.range (l.length / 8)).map (fun k => (leAt l (8 * k) 4, leAt l (8 * k + 4) 4))

/-- Is a written profile refused with RANGE (R474)? -/
def profileRefused (l : List Byte) : Bool :=
  let ps := profilePoints l
  ps.any (fun p => Nat.blt p.2 250000 || Nat.blt 1000000 p.2) ||
    (ps.zip ps.tail).any (fun p => Nat.ble p.2.1 p.1.1)

/-- FREQ at the line rate `n / d` Hz (R474): `below` is the point before. -/
def profileAt (n d : Nat) : Nat × Nat → List (Nat × Nat) → Nat
  | p, [] => p.2
  | p, q :: r =>
    if q.1 * d ≤ n then profileAt n d q r
    else
      let x : Int := (p.2 : Int) * ((q.1 : Int) - p.1) * d + ((n : Int) - (p.1 * d : Nat)) * ((q.2 : Int) - p.2)
      (divHalfEven x ((q.1 - p.1) * d)).toNat

/-- The target of PLL-C (R474, R477): by default, without an Active Folio, 1,000,000 kHz. -/
def State.targetC (s : State) : Nat :=
  let raw :=
    if s.act Obj.CLK_C_MODE = 1 then
      match profilePoints (s.cat.active.all Obj.CLK_RAMP_PROFILE) with
      | [] => 1000000
      | p :: r =>
        let n := s.lt.model.speed.natAbs * 256
        let d := s.act Obj.LT_LINE_PITCH
        if n ≤ p.1 * d then p.2 else profileAt n d p r
    else s.act Obj.CLK_C_FIXED
  if s.flag Obj.CLK_STATUS 7 then Nat.min raw (s.reg Obj.CLK_HOT_FREQ) else raw

/-- The divider for a set frequency (R476). -/
def State.dividerFor (s : State) (f : Nat) : Nat :=
  if f = 500000 then (if s.ck.divider = 4 then 4 else 8) else if 500000 < f then 4 else 8

/-- The divider and band that make a set frequency, if any do (R476, R584). -/
def State.tuneFor (s : State) (f : Nat) : Option (Nat × Nat) :=
  let d := s.dividerFor f
  match bandFor (s.bands .c) s.ck.band (d * f) with
  | some b => some (d, b)
  | none =>
    if f = 500000 then (bandFor (s.bands .c) s.ck.band ((12 - d) * f)).map (fun b => (12 - d, b)) else none

/-- The set frequencies between `a` and `b` that a band covers with a divider: the least and greatest. -/
def coveredIn (a b : Nat) (l : List (Nat × Nat)) : List (Nat × Nat) :=
  l.flatMap (fun e => [(4, 500000, 1000000), (8, 250000, 500000)].filterMap (fun (x : Nat × Nat × Nat) =>
    let lo := Nat.max (Nat.max (ceilDiv e.1 x.1) x.2.1) a
    let hi := Nat.min (Nat.min (e.2 / x.1) x.2.2) b
    if lo ≤ hi ∧ 0 < e.2 then some (lo, hi) else none))

/-- The nearest covered set frequency towards a target, not beyond it (R584). -/
def State.nearestCovered (s : State) (target : Nat) : Option Nat :=
  let f := s.ck.freq
  if f < target then
    (coveredIn (f + 1) target (s.bands .c)).foldl (fun m x => some (match m with | none => x.1 | some y => Nat.min x.1 y)) none
  else if target < f then
    (coveredIn target (f - 1) (s.bands .c)).foldl (fun m x => some (match m with | none => x.2 | some y => Nat.max x.2 y)) none
  else none

/-- An excursion to a set frequency begins (R476). -/
def State.excursionBegin (s : State) (f d b : Nat) : State :=
  let s1 := { s with ck := { s.ck with excursion := some ⟨f, d, b, s.now⟩ } }
  (s1.bump Obj.CLK_BYPASS_COUNT).setBypass true

/-- One step of the ramp towards the target (R475, R476, R584). -/
def State.rampStep (s : State) (target : Nat) : State :=
  let f := s.ck.freq
  let next := if f < target then Nat.min target (f + 244) else Nat.max target (f - 244)
  if next = f then s
  else match s.tuneFor next with
    | some (d, b) =>
      if d = s.ck.divider ∧ b = s.ck.band then State.showFreq { s with ck := { s.ck with freq := next } }
      else s.excursionBegin next d b
    | none => match s.nearestCovered target with
      | some g => match s.tuneFor g with
        | some (d, b) => s.excursionBegin g d b
        | none => s
      | none => s

/-- CLK_RAMP_INTERVAL (R474, R475): the target computed, and a step in lock and outside an excursion. -/
def State.rampInterval (s : State) : State :=
  if s.pllOn .c && Nat.ble (s.ck.rampAt + 1000 * s.reg Obj.CLK_RAMP_INTERVAL) s.now then
    let g := s.targetC
    let s1 := State.setReg { s with ck := { s.ck with rampAt := s.now } } Obj.CLK_C_TARGET g
    if s.ck.excursion.isNone && (s.pllLost .c).isNone then s1.rampStep g else s1
  else s

/-- The set frequency of an excursion comes into use. -/
def State.excursionEnd (s : State) : State :=
  match s.ck.excursion with
  | some e =>
    State.showBand { s with ck := { s.ck with excursion := none, freq := e.target, divider := e.divider, band := e.band } } .c e.band
  | none => s

/-- An excursion ends after lock and 20 us more (R476); a loss of lock in it is handled by R471. -/
def State.excursionDone (s : State) : State :=
  match s.ck.excursion with
  | some e => if (s.pllLost .c).isNone && Nat.ble (e.since + 20000) s.now then s.excursionEnd.setBypass false else s
  | none => s

/-! ## Loss of lock (R471-R473) -/

/-- What a PLL's domains do at its loss (R468, R471-R473). -/
def State.lossOf (s : State) (p : Pll) : State :=
  match p with
  | .a => s.abortLines.chanSync
  | .b =>
    let s1 := (s.ga.ctxs.flatMap (fun (x : Nat × GaCtx) => x.2.frames.map (fun f => (x.1, f.order)))).foldl (fun s x => s.dropFrame x.1 x.2) s
    if s1.flag Obj.CLK_STATUS 8 then s1.watchClock else s1
  | .c => s.setBypass true
  | .l =>
    let one := fun (s : State) (q : Port) => if (s.port q).carries then s.enterRecovery q else s
    one (one s .a) .b
  | .x => s

/-- A PLL loses lock (R471). -/
def State.lockGone (s : State) (p : Pll) : State :=
  if s.pllOn p && (s.pllLost p).isNone then
    let s1 := { s with ck := { s.ck with lost := storeInsert p.code ⟨s.now, 0⟩ s.ck.lost } }
    let s2 := (s1.bumpEntry Obj.CLK_LOCK_LOSSES p.code).setFlag Obj.CLK_STATUS (lostBit p) true
    (s2.lossOf p).event 0x1301 p.code
  else s

/-- When the attempt that follows `n` failed ones ends, after the loss (R471): back to back up to the 100th, then one every 100 ms. -/
def attemptEnd (n : Nat) : Nat := if n < 100 then (n + 1) * 1000000 else 100000000 * (n - 98) + 1000000

/-- A relock attempt fails; the 100th is recorded (R471). -/
def State.relockFail (s : State) (p : Pll) : State :=
  match s.pllLost p with
  | some l =>
    if l.since + attemptEnd l.failed ≤ s.now then
      let s1 := { s with ck := { s.ck with lost := storeInsert p.code { l with failed := l.failed + 1 } s.ck.lost } }
      if l.failed + 1 = 100 then s1.event 0x130A 0 else s1
    else s
  | none => s

/-- A PLL has held lock for 20 us: its domains return (R471, R472, R479). -/
def State.relocked (s : State) (p : Pll) : State :=
  match s.pllLost p with
  | some l =>
    if l.since + 20000 ≤ s.now then
      let s1 := { s with ck := { s.ck with lost := storeErase p.code s.ck.lost } }
      let s2 := s1.setFlag Obj.CLK_STATUS (lostBit p) false
      let s3 := match p with
        | .a => s2.chanSync
        | .c => s2.excursionEnd.setBypass false
        | .x => { s2 with ck := { s2.ck with retuneX := none } }
        | _ => s2
      s3.event 0x1302 0
    else s
  | none =>
    match p, s.ck.retuneX with
    | .x, some t => if t + 20000 ≤ s.now then { s with ck := { s.ck with retuneX := none } } else s
    | _, _ => s

/-! ## References (R465-R467) -/

/-- PLL-A, PLL-C, PLL-L and PLL-X locked to another reference: one relock of each (R466, R482). -/
def State.useRef (s : State) (recovered : Bool) : State :=
  let s1 := (s.setReg Obj.CLK_REF_ACTIVE (b2n recovered)).setFlag Obj.CLK_STATUS 0 recovered
  [Pll.a, .c, .l, .x].foldl State.lockGone s1

/-- The recovered reference fails (R466). -/
def State.refFallback (s : State) : State :=
  if s.reg Obj.CLK_REF_ACTIVE = 1 then ((s.setFlag Obj.CLK_STATUS 6 true).useRef false).event 0x1303 0 else s

/-- CLK_REF_SEL written in READY (R465, R466): the recovered reference is of use while port A is in UP. -/
def State.selectRef (s : State) (v : Nat) : State :=
  let s1 := (s.setReg Obj.CLK_REF_SEL v).setFlag Obj.CLK_STATUS 6 false
  let s2 := { s1 with ck := { s1.ck with waitRef := false } }
  if v = 1 ∧ s.isUp .a = false then (s2.setFlag Obj.CLK_STATUS 6 true).event 0x1303 0
  else if v = s.reg Obj.CLK_REF_ACTIVE then s2
  else s2.useRef (Nat.beq v 1)

/-- After a wake the recovered reference is taken up once port A is in UP, if the tile is still in READY (R482). -/
def State.watchRef (s : State) : State :=
  if s.ck.waitRef then
    let s1 := { s with ck := { s.ck with waitRef := false } }
    if s.tile.state ≠ .ready then s1 else if s.isUp .a then s1.useRef true else s
  else s

/-- The crystal stops (R467). -/
def State.xtalFail (s : State) : State :=
  match s.tile.state with
  | .off => s
  | _ => (s.event 0x130C 0).enterFault 5 0

/-! ## Starting and stopping the PLLs (R469, R476, R482) -/

/-- The bands of the PLLs that start (R470). -/
def State.showBands (s : State) : State :=
  [Pll.a, .b, .l, .x].foldl (fun s p =>
    match bandFor (s.bands p) 0 (s.vco p) with
    | some k => s.showBand p k
    | none => s) s

/-- PLL-C, PLL-L and PLL-X start; PLL-C at 500,000 kHz with divider 8 (R476). -/
def State.startPlls (s : State) : State :=
  let b := (bandFor (s.bands .c) 32 4000000).getD 0
  let s1 := { s with ck := { s.ck with lost := [], freq := 500000, divider := 8, band := b, excursion := none, rampAt := s.now, retuneX := none } }
  (s1.showBands.showBand .c b).setBypass false

/-- On wake PLL-C goes to the target of the Active Folio by an excursion (R482). -/
def State.wakePlls (s : State) : State :=
  let s1 := s.startPlls
  let g := s1.targetC
  let s2 := s1.setReg Obj.CLK_C_TARGET g
  let s3 := { s2 with ck := { s2.ck with waitRef := Nat.beq (s.reg Obj.CLK_REF_SEL) 1 } }
  if g = 500000 then s3
  else match s3.tuneFor g with
    | some (d, b) => s3.excursionBegin g d b
    | none => match s3.nearestCovered g with
      | some f => match s3.tuneFor f with
        | some (d, b) => s3.excursionBegin f d b
        | none => s3
      | none => s3

/-- Every PLL off (R469): in REST. -/
def State.stopPlls (s : State) : State :=
  let s1 := { s with ck := { s.ck with lost := [], excursion := none, retuneX := none, waitRef := false } }
  let s2 := allPlls.foldl (fun s p => s.setFlag Obj.CLK_STATUS (lostBit p) false) s1
  ((s2.setFlag Obj.CLK_STATUS 8 false).setFlag Obj.CLK_STATUS 0 false).setReg Obj.CLK_REF_ACTIVE 0

/-! ## Temperature (R477) -/

/-- CLK_CASE_TEMP read, and the hot limit. -/
def State.caseTemp (s : State) (temp : Int) : State :=
  let s1 := s.setReg Obj.CLK_CASE_TEMP (fromSigned 16 temp)
  let hot := s.flag Obj.CLK_STATUS 7
  if 1760 < temp ∧ hot = false then (s1.setFlag Obj.CLK_STATUS 7 true).event 0x1305 0
  else if temp < 1680 ∧ hot = true then (s1.setFlag Obj.CLK_STATUS 7 false).event 0x1306 0
  else s1

/-! ## Clock outputs (R478, R479) -/

/-- DIV of a configuration word. -/
def outDiv (w : Nat) : Nat := w / 4096 % 1024

/-- FORMAT of a configuration word. -/
def outFormat (w : Nat) : Nat := w / 256 % 8

/-- Is a written configuration word refused (R478)? -/
def State.outRefused (s : State) (w : Nat) : Bool :=
  let d := outDiv w
  let f := outFormat w
  let limit := if Nat.ble 3 f then 200000 else 500000
  Nat.ble (2 ^ 22) w || Nat.blt 0 (w / 2 % 128) || Nat.blt d 2 || Nat.blt 4 f || (Nat.blt 0 f && Nat.blt (limit * d) (s.reg Obj.CLK_X_VCO))

/-- CLK_X_VCO written: PLL-X retunes. -/
def State.retuneX (s : State) (v : Nat) : State :=
  let s1 := s.setReg Obj.CLK_X_VCO v
  let s2 := if s.pllOn .x then { s1 with ck := { s1.ck with retuneX := some s.now } } else s1
  match bandFor (s.bands .x) (s.cat.vol.byte Obj.CLK_BAND_IN_USE 4).toNat v with
  | some k => s2.showBand .x k
  | none => s2

/-- The frequency of a clock output as a division of kHz, or held low (R479). -/
def State.clockOut (s : State) (n : Nat) : Option (Nat × Nat) :=
  let w := s.reg (Obj.CLK_OUT_CFG n)
  if !(bit w 0) || Nat.beq (outFormat w) 0 || !(s.pllOn .x) then none
  else if (s.pllLost .x).isSome || s.ck.retuneX.isSome then (if bit w 11 then some (250000, outDiv w) else none)
  else some (s.reg Obj.CLK_X_VCO, outDiv w)

end Sys2Proof.Machine
end

