-- ==== Sys2Proof/Machine/Secure.lean ====
section
/-! DEFINITION. Firmware slots and their verification, the SVN fuses, owner enrolment and owner authorisation (20 R530-R541). -/

namespace Sys2Proof.Machine

/-! ## Keys (R530, R537) -/

/-- The vendor public key. -/
def vendorKeyBytes : List Byte := (List.range 64).map Config.vendorKey

/-- The enrolled owner key, if there is one. -/
def Security.ownerKey (x : Security) : Option (List Byte) :=
  match x.owner0, x.owner1 with
  | .enrolled k, _ => some k
  | _, .enrolled k => some k
  | _, _ => none

/-- Is the tile in the secure configuration (R537)? -/
def State.secure (s : State) : Bool := s.sec.ownerKey.isSome

/-- Does a signature verify under the owner key or the vendor key (R537)? -/
def State.signedByEither (s : State) (covered sig : List Byte) : Bool :=
  (match s.sec.ownerKey with
    | some k => sm2Verify k covered sig
    | none => false) || sm2Verify vendorKeyBytes covered sig

/-- SEC_OWNER_KEY, SEC_OWNER_SLOTS, SEC_SVN_FUSE, ID_CONFIG and SECURE as the fuses have them. -/
def State.showKeys (s : State) : State :=
  let free := b2n (decide (s.sec.owner0 = .unused)) + b2n (decide (s.sec.owner1 = .unused))
  let s1 := ((s.setReg Obj.SEC_OWNER_SLOTS free).setReg Obj.SEC_SVN_FUSE s.sec.fuse).setReg Obj.ID_CONFIG (b2n s.secure)
  let s2 := s1.setFlag Obj.SEC_STATUS 0 s.secure
  match s.sec.ownerKey with
  | some k => s2.setBlob Obj.SEC_OWNER_KEY k
  | none => s2

/-! ## Firmware images (R532, R533) -/

/-- The fields of a firmware header. -/
def fwField (l : List Byte) (off n : Nat) : Nat := leAt l off n

/-- Do the header fields of an image of `l.length` bytes meet R532? -/
def fwHeaderOk (l : List Byte) : Bool :=
  let code := fwField l 0x18 4
  Nat.ble 128 l.length && Nat.beq (fwField l 0 4) 0x57465645 && Nat.beq (fwField l 4 2) 1 && Nat.beq (fwField l 6 2) 64 &&
    Nat.beq (fwField l 8 4) l.length && Nat.ble l.length 2097152 && Nat.beq (fwField l 0x0F 1) 0 && Nat.blt (fwField l 0x10 2) 64 &&
    Nat.beq (fwField l 0x12 2) 0 && Nat.beq (fwField l 0x14 4) 64 && Nat.beq (code % 4) 0 && Nat.beq (fwField l 0x1C 4 % 4) 0 &&
    Nat.blt (fwField l 0x1C 4) code && ((l.drop 0x22).take 22).all (fun b => decide (b = 0)) &&
    Nat.beq (fwField l 0x38 4) (64 + code) && Nat.beq (fwField l 0x38 4 + 64) l.length && Nat.beq (fwField l 0x3C 4) 64

/-- The bytes an image's signature covers. -/
def fwCovered (l : List Byte) : List Byte := l.take (l.length - 64)

/-- The cause for which an image is not admissible (R533, R534): 1 header, 2 SVN, 3 signature. -/
def fwCause (l : List Byte) (fuse : Nat) : Option Nat :=
  if !(fwHeaderOk l) then some 1
  else if fwField l 0x10 2 < fuse then some 2
  else if sm2Verify vendorKeyBytes (fwCovered l) (l.drop (l.length - 64)) then none
  else some 3

/-- The SVN of a slot's image; the factory image has SVN 0 (log entry 26). -/
def FwSlot.svn (x : FwSlot) : Nat := match x.image with | some l => fwField l 0x10 2 | none => 0

/-- The version bytes of a slot's image: firmware 4.1.0 for the factory image (R1, R545). -/
def FwSlot.version (x : FwSlot) : List Byte := match x.image with | some l => sliceBytes l 0x0C 3 | none => [4, 1, 0]

/-- The firmware digest of a slot's image (R532; log entry 26). -/
def FwSlot.digest (x : FwSlot) : List Byte := match x.image with
  | some l => sm3 (fwCovered l)
  | none => (List.range 32).map Config.factoryDigest

/-- The cause for which the boot ROM rejects a slot (R534): one that is not VALID holds no whole image. -/
def FwSlot.cause (x : FwSlot) (fuse : Nat) : Option Nat :=
  match x.state, x.image with
  | .valid, some l => fwCause l fuse
  | .valid, none => if 0 < fuse then some 2 else none
  | _, _ => some 1

/-- The state codes of SEC_FW_SLOTS. -/
def FwState.code : FwState → Nat
  | .empty => 0 | .valid => 1 | .invalid => 2 | .writing => 3

/-- Slot `k`. -/
def Security.slot (x : Security) (k : Nat) : FwSlot := if k = 0 then x.slot0 else x.slot1

/-- Slot `k` replaced. -/
def Security.setSlot (x : Security) (k : Nat) (v : FwSlot) : Security := if k = 0 then { x with slot0 := v } else { x with slot1 := v }

/-- The target slot (R535): the one that does not run, or slot 0 in recovery FAULT. -/
def Security.target (x : Security) : Nat := if x.runs then 1 - x.running else 0

/-- The 40 bytes of a slot in SEC_FW_SLOTS (R545). -/
def Security.slotBytes (x : Security) (k : Nat) : List Byte :=
  let v := x.slot k
  let held := decide (v.state = .valid)
  leBytes 1 v.state.code ++ leBytes 1 (2 * b2n (Nat.beq x.preferred k) + b2n (x.runs && Nat.beq x.running k)) ++
    (if held then leBytes 2 v.svn ++ v.version ++ [0] ++ v.digest else zeros 38)

/-- The 80 bytes of SEC_FW_SLOTS. -/
def Security.slotsBytes (x : Security) : List Byte := x.slotBytes 0 ++ x.slotBytes 1

/-! ## Verification at BOOT (R534, R540) -/

/-- A slot rejected: the event with the slot and the cause. -/
def State.fwRejected (s : State) (k c : Nat) : State := s.event 0x1601 (256 * k + c)

/-- Firmware of slot `k` runs: its version and digest are shown. -/
def State.fwRuns (s : State) (k : Nat) : State :=
  let v := s.sec.slot k
  let s1 := { s with sec := { s.sec with running := k, runs := true } }
  (s1.setBlob Obj.ID_FW_VERSION v.version).setBlob Obj.ID_FW_DIGEST v.digest

/-- Spent owner slots found at a BOOT (R540). -/
def State.tornSlots (s : State) : State :=
  if s.sec.owner0 = .spent ∨ s.sec.owner1 = .spent then (s.setFlag Obj.SEC_STATUS 5 true).event 0x1604 0 else s

/-- The boot ROM tries the preferred slot and then the other (R534): whether an image runs. -/
def State.verifySlots (s : State) : Bool × State :=
  let p := s.sec.preferred
  let s0 := s.tornSlots
  match (s.sec.slot p).cause s.sec.fuse with
  | none => (true, s0.fwRuns p)
  | some c =>
    let s1 := s0.fwRejected p c
    match (s.sec.slot (1 - p)).cause s.sec.fuse with
    | none => (true, ((s1.fwRuns (1 - p)).setFlag Obj.SEC_STATUS 1 true).event 0x1602 p)
    | some c2 => (false, (s1.fwRejected (1 - p) c2).setFlag Obj.SEC_STATUS 2 true)

/-! ## Updating firmware (R535, R536) -/

/-- An image write opens: the target slot is WRITING, and an activation pending on it is gone (R535). -/
def State.fwOpen (s0 : State) : State :=
  let s := s0.touch Obj.SEC_FW_SLOTS
  let k := s.sec.target
  let x := s.sec.setSlot k { state := .writing, image := some [] }
  if s.sec.preferred = k ∧ s.sec.runs = true then
    State.setFlag { s with sec := { x with preferred := s.sec.running } } Obj.SEC_STATUS 3 false
  else { s with sec := x }

/-- Bytes received so far lie in the target slot (R535). -/
def State.fwBytes (s : State) (l : List Byte) : State :=
  { s with sec := s.sec.setSlot s.sec.target { state := .writing, image := some l } }

/-- The image write is complete (R535): its status, and the slot VALID or INVALID. -/
def State.fwWritten (s : State) (l : List Byte) : Status × State :=
  let k := s.sec.target
  let st : Status :=
    if l.length < 12 ∨ fwField l 8 4 ≠ l.length then .length
    else match fwCause l s.sec.fuse with
      | none => .ok
      | some 3 => .auth
      | some _ => .range
  let v : FwSlot := { state := if st = .ok then .valid else .invalid, image := some l }
  let code := match st with | .ok => 0 | .length => 4 | .auth => 9 | _ => 5
  (st, State.event { (s.touch Obj.SEC_FW_SLOTS) with sec := s.sec.setSlot k v } 0x1607 (256 * k + code))

/-- SEC_FW_ACTIVATE (R536). -/
def State.fwActivate (s : State) (v : Nat) : Status × State :=
  let k := s.sec.target
  if v = 1 then
    if (s.sec.slot k).state = .valid ∧ s.sec.fuse ≤ (s.sec.slot k).svn then
      (.ok, State.setFlag { (s.touch Obj.SEC_FW_SLOTS) with sec := { s.sec with preferred := k } } Obj.SEC_STATUS 3 true)
    else (.range, s)
  else if v = 0 then
    (.ok, State.setFlag { (s.touch Obj.SEC_FW_SLOTS) with sec := { s.sec with preferred := if s.sec.runs then s.sec.running else s.sec.preferred } } Obj.SEC_STATUS 3 false)
  else (.range, s)

/-- SEC_SVN_COMMIT (R533). -/
def State.svnCommit (s : State) (v : Nat) : Status × State :=
  if v ≠ 1 then (.range, s)
  else if s.tile.state ≠ .ready then (.state, s)
  else
    let n := (s.sec.slot s.sec.running).svn
    if n ≤ s.sec.fuse then (.ok, s)
    else (.ok, (State.showKeys { s with sec := { s.sec with fuse := n } }).event 0x1608 0)

/-! ## Owner enrolment (R539, R540) -/

/-- ASCII bytes. -/
def ascii (s : String) : List Byte := s.toList.map (fun c => BitVec.ofNat 8 c.toNat)

/-- The bytes a PROOF covers. -/
def State.proofBytes (s : State) (key : List Byte) : List Byte := ascii "EVOE" ++ leBytes 8 (s.reg Obj.ID_SERIAL) ++ key

/-- SEC_OWNER_ENROL (R539): the first status that refuses it, or `none` when the enrolment begins. -/
def State.enrolRefused (s : State) (l : List Byte) : Option Status :=
  let key := l.take 64
  if s.tile.state ≠ .ready then some .state
  else if l.length ≠ 128 then some .length
  else if s.secure ∨ (s.sec.owner0 ≠ .unused ∧ s.sec.owner1 ≠ .unused) then some .denied
  else if smOnCurve (keyPoint key) = false then some .range
  else if !(sm2Verify key (s.proofBytes key) (l.drop 64)) then some .auth
  else if s.reg Obj.PWR_HOLDUP_ENERGY < 800 then some .noHoldup
  else none

/-- An accepted enrolment begins to blow the key. -/
def State.enrolBegin (s : State) (l : List Byte) : State := { s with sec := { s.sec with blowing := some (l.take 64) } }

/-- An owner slot takes a value: the lower unused one. -/
def Security.blow (x : Security) (v : OwnerSlot) : Security :=
  if x.owner0 = .unused then { x with owner0 := v, blowing := none }
  else { x with owner1 := v, blowing := none }

/-- The key and the ENROLLED fuse are blown (R539). -/
def State.enrolDone (s : State) : State :=
  match s.sec.blowing with
  | some k => (State.showKeys { s with sec := s.sec.blow (.enrolled k) }).event 0x1603 0
  | none => s

/-- An enrolment cut by power leaves its slot spent (R540). -/
def Security.cut (x : Security) : Security := if x.blowing.isSome then x.blow .spent else x

/-! ## Owner authorisation (R541) -/

/-- The requester value of a sender: its VC0 source address, or 0xFFFF for the I2CB path. -/
def requesterValue (r : Requester) : Nat := match r.path with | .vc0 _ => r.source | .i2cb => 0xFFFF

/-- Has a requester authorisation? -/
def State.authorised (s : State) (r : Requester) : Bool :=
  s.sec.grants.any (fun g => Nat.beq g.requester (requesterValue r) && Nat.blt s.now g.ends)

/-- Are challenges refused? -/
def State.lockedOut (s : State) : Bool := s.flag Obj.SEC_STATUS 4

/-- A GET of SEC_AUTH_CHALLENGE: a fresh challenge, of free bytes (log entry 24), valid for 60 s. -/
def State.newChallenge (s : State) : List Byte × State :=
  let l := s.freeBytes 32
  (l, State.drawn { s with sec := { s.sec with challenge := some (l, s.now + 60000000000) } })

/-- The bytes that a response signs. -/
def State.authBytes (s : State) (challenge : List Byte) (r : Requester) : List Byte :=
  ascii "EVAU" ++ leBytes 8 (s.reg Obj.ID_SERIAL) ++ challenge ++ leBytes 2 (requesterValue r) ++ zeros 2

/-- A response refused: counted, recorded; the eighth within 60 s locks challenges out for 60 s. -/
def State.authFailed (s : State) : State :=
  let fails := s.now :: s.sec.fails.filter (fun t => Nat.blt s.now (t + 60000000000))
  let s1 := ((State.bump { s with sec := { s.sec with fails := fails } } Obj.SEC_AUTH_FAILS).event 0x1605 0)
  if 8 ≤ fails.length then
    (State.setFlag { s1 with sec := { s1.sec with fails := [], lockedUntil := some (s.now + 60000000000) } } Obj.SEC_STATUS 4 true).event 0x1606 0
  else s1

/-- SEC_AUTH_RESPONSE (R541): the challenge is consumed, and authorisation granted or refused. At most four grants are held. -/
def State.authResponse (s : State) (r : Requester) (sig : List Byte) : Status × State :=
  match s.sec.ownerKey with
  | none => (.state, s)
  | some key =>
    if sig.length ≠ 64 then (.length, s)
    else
      let s1 := { s with sec := { s.sec with challenge := none } }
      match s.sec.challenge with
      | some (c, ends) =>
        if s.now < ends ∧ sm2Verify key (s.authBytes c r) sig = true then
          let g : Grant := ⟨(requesterValue r), s.now + 1000000000 * s.reg Obj.SEC_AUTH_TIME⟩
          let old := s.sec.grants.filter (fun x => !(Nat.beq x.requester (requesterValue r)) && Nat.blt s.now x.ends)
          (.ok, { s1 with sec := { s1.sec with grants := old.drop (old.length - 3) ++ [g] } })
        else (.auth, s1.authFailed)
      | none => (.auth, s1.authFailed)

/-- SEC_AUTH_REVOKE: every grant ends. -/
def State.authRevoke (s : State) : State := { s with sec := { s.sec with grants := [] } }

/-- The grants whose time has run out end. -/
def State.grantExpiry (s : State) : State := { s with sec := { s.sec with grants := s.sec.grants.filter (fun g => Nat.blt s.now g.ends) } }

/-- A challenge without a response for 60 s is no longer valid. -/
def State.challengeExpiry (s : State) : State :=
  match s.sec.challenge with
  | some (_, e) => if e ≤ s.now then { s with sec := { s.sec with challenge := none } } else s
  | none => s

/-- The lockout ends after 60 s. -/
def State.lockoutEnd (s : State) : State :=
  match s.sec.lockedUntil with
  | some e => if e ≤ s.now then State.setFlag { s with sec := { s.sec with lockedUntil := none } } Obj.SEC_STATUS 4 false else s
  | none => s

end Sys2Proof.Machine
end

