-- ==== Sys2Proof/Machine/Power.lean ====
section
/-! DEFINITION. The power path, the hold-up cell, the charger, SHIP and the status pins (18). -/

namespace Sys2Proof.Machine

/-! ## Codes -/

/-- Path codes (R491). -/
def PathState.code : PathState → Nat
  | .input => 1 | .handover => 2 | .cell => 3 | .shutdown => 4

/-- Charge-state codes (R508). -/
def ChgState.code : ChgState → Nat
  | .disabled => 0 | .noCell => 1 | .precharge => 2 | .cc => 3 | .cv => 4 | .done => 5
  | .suspended => 6 | .timerFault => 7 | .ntcFault => 8 | .noInput => 9

/-! ## Hold-up (R495, R496) -/

/-- Is hold-up unavailable (R496, R504)? -/
def Power.unavailable (x : Power) : Bool :=
  x.noCell || !x.connected || x.ntcFault || x.tempOut || Nat.blt x.cellMv 2800

/-- 1 mAh in mA ns. -/
def mAh : Nat := 3600000000000

/-- PWR_CELL_CAPACITY in mA ns. -/
def State.capacity (s : State) : Nat := s.wrk Obj.PWR_CELL_CAPACITY * mAh

/-- The charge that the hold-up energy counts on (R495): 5 % of the capacity while the count is not trusted and the cell is at 3.10 V or above. -/
def State.heldCharge (s : State) : Nat :=
  if s.pw.known then s.pw.charge else if 3100 ≤ s.pw.cellMv then s.capacity / 20 else 0

/-- PWR_HOLDUP_ENERGY in mJ: 0.85 x 3.2 V x the charge. -/
def State.holdupEnergy (s : State) : Nat := if s.pw.unavailable then 0 else divHalfEvenNat (272 * s.heldCharge) 100000000000

/-! ## The charger (R497-R501) -/

/-- May the charger run: enabled, in INPUT, in a state that charges (R497)? -/
def State.chargerRuns (s : State) : Bool :=
  Nat.beq (s.wrk Obj.PWR_CHG_ENABLE) 1 && decide (s.pw.path = .input) &&
    (match s.tile.state with
      | .linkup | .ready | .run | .rest | .fault => true
      | _ => false)

/-- Is charging suspended by the cell temperature (R499)? -/
def Power.coldOrHot (x : Power) : Bool := Nat.beq x.zone 0 || Nat.beq x.zone 4

/-- PWR_CHG_STATE (R508). -/
def State.chgState (s : State) : ChgState :=
  if s.pw.phase = .timerFault then .timerFault
  else if s.pw.path ≠ .input then .noInput
  else if s.chargerRuns = false then .disabled
  else if s.pw.ntcFault then .ntcFault
  else if s.pw.noCell ∨ s.pw.connected = false then .noCell
  else match s.pw.phase with
    | .done => .done
    | p => if s.pw.coldOrHot then .suspended else p

/-- The rate of the safety timer in half ns per ns (R500). -/
def State.timerRate (s : State) : Nat :=
  match s.chgState with
  | .precharge | .cc | .cv => if s.pw.zone = 2 ∧ s.pw.thermal = false ∧ s.pw.heldBack = false then 2 else 1
  | _ => 0

/-- The safety timer counted up to now. -/
def State.countTimer (s : State) : State :=
  { s with pw := { s.pw with timer := s.pw.timer + (s.now - s.pw.timerAt) * s.timerRate, timerAt := s.now } }

/-- A charge cycle starts (R497, R500). -/
def State.startCycle (s : State) : State :=
  let p : ChgState := if s.pw.cellMv < 2500 then .precharge else .cc
  State.bump { s with pw := { s.pw with phase := p, timer := 0, timerAt := s.now } } Obj.PWR_CHG_CYCLES

/-- Is there a cell to charge? -/
def Power.chargeable (x : Power) : Bool := !x.noCell && x.connected && !x.ntcFault

/-- A cycle starts where the charger runs without one. -/
def State.cycleDue (s : State) : State :=
  if s.chargerRuns && s.pw.chargeable && decide (s.pw.phase = .disabled) then s.startCycle else s

/-! ## The objects (R508, R509) -/

/-- Is the start-up input limit in force (R487)? -/
def State.bootLimit (s : State) : Bool :=
  match s.tile.state with
  | .off | .boot | .selftest | .calload => true
  | _ => false

/-- The PWR_ objects as the power path has them. -/
def State.showPower (s : State) : State :=
  let x := s.pw
  let bits : List (Nat × Bool) := [(13, s.bootLimit), (12, x.vinOver), (11, x.shipArmed), (10, x.thermal), (9, x.ntcFault),
    (8, decide (x.phase = .timerFault)), (7, x.bounceUntil.isSome), (1, x.known), (0, x.connected && !x.noCell && !x.ntcFault)]
  let s1 := s.setReg Obj.PWR_STATUS (bits.foldl (fun w b => withBit w b.1 b.2) (s.reg Obj.PWR_STATUS))
  let s2 := (s1.setReg Obj.PWR_PATH_STATE x.path.code).setReg Obj.PWR_CHG_STATE s.chgState.code
  let s3 := (s2.setReg Obj.PWR_CHG_ELAPSED (satNat 32 (x.timer / 2000000000))).setReg Obj.PWR_CELL_CHARGE (x.charge / mAh)
  (s3.setReg Obj.PWR_CELL_ZONE x.zone).setReg Obj.PWR_SHIP (b2n x.shipArmed)

/-- A change of the power path: the timer counted before it, a cycle started where one is due, the objects brought up to date after it. -/
def State.powerStep (s : State) (f : State → State) : State := (f s.countTimer).cycleDue.showPower

/-- VIN is within 18.0-36.0 V. -/
def vinGood (mv : Nat) : Bool := Nat.ble 18000 mv && Nat.ble mv 36000

/-- VIN reported: in CELL the hold-up time counts while it lies below 18.0 V (R494), and a qualification begins again outside 18.0-36.0 V (R493). -/
def State.noteVin (s : State) (mv : Nat) : State :=
  let low := if s.pw.path = .cell ∧ s.pw.vin < 18000 then s.now - s.pw.vinAt else 0
  let from_ := if s.pw.path = .cell ∧ vinGood mv = false then s.now else s.pw.qualFrom
  State.setReg { s with pw := { s.pw with vin := mv, vinAt := s.now, lowNs := s.pw.lowNs + low, qualFrom := from_ } } Obj.PWR_VIN mv

/-! ## Leaving and reaching supply (R487, R492-R494, R502-R504) -/

/-- What a loss of power leaves: the MRAM with a write in hand torn (R494, R524), the fuses, the power path, the pads. Everything else is lost. -/
def State.afterPower (s : State) (keepArchive : Bool) : State :=
  let started := match s.cat.long with
    | some l => l.started
    | none => s.now
  let s1 := s.commitCut.saveCut (s.now - started)
  let x := s1.sec.cut.settled
  { now := s1.now, free := s1.free, pending := s1.pending
    cal := { s1.cal with run := none, recordsPending := false }
    fol := { stored := s1.fol.stored }
    sec := { x with runs := false, challenge := none, grants := [], fails := [], lockedUntil := none }
    pw := { s1.pw with
      phase := .disabled, timer := 0, timerAt := s1.now, heldBack := false, need := 0, overload := false, thermal := false, supplement := none }
    pins := { pads := s1.pins.pads }
    cu := { ue := if keepArchive then s1.cu.ue else [] }
    archive := if keepArchive then s1.archive else [] }

/-- OFF entered. -/
def State.toOff (s : State) : State :=
  let s1 := s.afterPower false
  { s1 with
    tile := { since := s.now }
    pw := { s1.pw with path := .input, lowNs := 0, handovers := [], bounceUntil := none, vinOver := false, known := false, shipArmed := false } }

/-- SHIP ends and the cell is reconnected (R503): its charge is not known (R495). -/
def State.shipEnd (s : State) : State :=
  if s.pw.connected then s else { s with pw := { s.pw with connected := true, known := false } }

/-- VIN fails in INPUT (R492, R502). -/
def State.handover (s : State) (mv : Nat) : State :=
  let under := Nat.blt mv 16500
  let excess := Nat.blt 37500 mv
  if s.tile.state = .off ∨ s.pw.path ≠ .input ∨ !(under || excess) then s
  else
    let s0 := s.noteVin mv
    if s.pw.shipArmed then State.toOff { (s0.event 0x140E 0) with pw := { s0.pw with connected := false } }
    else if s.pw.unavailable then s0.toOff
    else
      let times := s.now :: s.pw.handovers.filter (fun t => Nat.blt s.now (t + 1000000000))
      let s1 := { s0 with pw := { s0.pw with path := .handover, handovers := times, supplement := none, need := 0, heldBack := false, vinOver := s0.pw.vinOver || excess } }
      let s2 := ((s1.bump Obj.PWR_HANDOVERS).life 4).event 0x1401 (if under then 1 else 2)
      let s3 := if excess then s2.event 0x140C 0 else s2
      ([2, 3, 4, 5, 6].foldl (fun (s : State) k => s.setFlag Obj.PWR_STATUS k false) s3).setReg Obj.PWR_SUPP_POWER 0

/-- CELL reached (R493): qualification starts, or the eighth HANDOVER within 1 s holds it off. -/
def State.cellReached (s : State) : State :=
  if s.pw.path = .handover then
    let s1 := { s with pw := { s.pw with path := .cell, lowNs := 0, qualFrom := s.now, vinAt := s.now } }
    if 8 ≤ (s.pw.handovers.filter (fun t => Nat.blt s.now (t + 1000000000))).length then
      (State.bump { s1 with pw := { s1.pw with bounceUntil := some (s.now + 1000000000) } } Obj.PWR_BOUNCE_HOLDS).event 0x1403 0
    else s1
  else s

/-- The end of a qualification in CELL (R493, R501). -/
def State.vinRestored (s : State) (mv : Nat) : State :=
  if s.pw.path = .cell ∧ s.pw.bounceUntil = none ∧ vinGood mv = true ∧ s.pw.qualFrom + 10000000 ≤ s.now then
    let s1 := s.noteVin mv
    let s2 := ({ s1 with pw := { s1.pw with path := .input, vinOver := false } } : State).event 0x1402 0
    if s2.chargerRuns && s2.pw.chargeable then s2.startCycle
    else { s2 with pw := { s2.pw with phase := if s2.pw.phase = .timerFault then .timerFault else .disabled } }
  else s

/-- The bounce hold ends (R493): a qualification may begin. -/
def State.bounceEnd (s : State) : State :=
  match s.pw.bounceUntil with
  | some t => if t ≤ s.now then { s with pw := { s.pw with bounceUntil := none, qualFrom := s.now } } else s
  | none => s

/-- The hold-up time has run out (R494). -/
def State.holdupOver (s : State) : State :=
  let s1 := s.noteVin s.pw.vin
  if s1.pw.path = .cell ∧ s1.wrk Obj.PWR_HOLDUP_TIME * 1000000 ≤ s1.pw.lowNs then
    ({ s1 with pw := { s1.pw with path := .shutdown } } : State).event 0x1404 0
  else s1

/-- The cell is at its end in CELL (R494): SHUTDOWN and OFF at once. -/
def State.cellCutoff (s : State) (mv : Nat) : State :=
  let s1 := ({ s with pw := { s.pw with cellMv := mv } } : State).setReg Obj.PWR_CELL_VOLTAGE mv
  if s.pw.path = .cell ∧ (mv ≤ 2800 ∨ s1.holdupEnergy = 0) then ((s1.event 0x140D 0).event 0x1404 0).toOff else s1

/-- SHUTDOWN ends in OFF once no MRAM write is in progress (R494). -/
def State.shutdownDone (s : State) : State :=
  if s.pw.path = .shutdown ∧ s.cal.commit = none ∧ s.fol.saving = none then s.toOff else s

/-! ## Demand, supplement and VSTB (R488-R490) -/

/-- VSTB limited or not: an episode counts once (R489). -/
def State.limitVstb (s : State) (b : Bool) : State :=
  if b && !(s.flag Obj.PWR_STATUS 6) then ((s.setFlag Obj.PWR_STATUS 6 true).bump Obj.PWR_VSTB_LIMITED).event 0x1406 0
  else s.setFlag Obj.PWR_STATUS 6 b

/-- The supplement power that the need and the phase allow: up to 20 W (R490). -/
def Power.suppPower (x : Power) : Nat :=
  if x.unavailable then 0
  else match x.supplement with
    | some e => if e.allowed then Nat.min 20000 x.need else 0
    | none => 0

/-- PWR_SUPP_POWER, SUPPLEMENT, DUTY_LIMIT and step 3 of R489 as supplement stands. -/
def State.showSupplement (s : State) : State :=
  let p := s.pw.suppPower
  let s1 := (s.setReg Obj.PWR_SUPP_POWER p).setFlag Obj.PWR_STATUS 2 (Nat.blt 0 p)
  let s2 := s1.setFlag Obj.PWR_STATUS 3 (match s.pw.supplement with | some e => e.periodic | none => false)
  s2.limitVstb (Nat.blt p s.pw.need)

/-- A supplement event begins when supplement power first rises above 0 (R490). -/
def State.beginSupplement (s : State) : State :=
  if Nat.blt 0 s.pw.need && !s.pw.unavailable then
    match s.pw.supplement with
    | some e => { s with pw := { s.pw with supplement := some { e with zeroFrom := none } } }
    | none => State.bump { s with pw := { s.pw with supplement := some ⟨s.now, s.now, false, true, none⟩ } } Obj.PWR_SUPP_EVENTS
  else
    { s with pw := { s.pw with supplement := s.pw.supplement.map (fun e => { e with zeroFrom := some (e.zeroFrom.getD s.now) }) } }

/-- The input limit in mA (R487, R488). -/
def State.inputLimit (s : State) : Nat := if s.bootLimit then 500 else s.wrk Obj.PWR_IIN_LIMIT

/-- Demand on the input (R488, R489): charging is reduced first, then supplement, then VSTB. -/
def State.demand (s : State) (d : PowerDemand) : State :=
  if s.pw.path = .input ∧ s.tile.state ≠ .off then
    let low := Nat.blt d.vin (s.wrk Obj.PWR_VIN_REG)
    let avail := if low then d.reg else s.inputLimit * d.vin / 1000
    let excess := Nat.blt avail (d.tile + d.vstb + d.charge)
    let s1 := (s.noteVin d.vin).setReg Obj.PWR_TILE_POWER (satNat 16 d.tile)
    let s2 := (s1.setFlag Obj.PWR_STATUS 4 low).setFlag Obj.PWR_STATUS 5 (excess && !low)
    let s3 := { s2 with pw := { s2.pw with heldBack := excess && Nat.blt 0 d.charge || (s2.pw.heldBack && Nat.blt avail (d.tile + d.vstb)), need := d.tile + d.vstb - avail } }
    s3.beginSupplement.showSupplement
  else s

/-- A phase of a supplement event ends (R490): the event ends after 10 ms without supplement; after the first 10 ms it is periodic. -/
def State.supplementPhase (s : State) : State :=
  match s.pw.supplement with
  | none => s
  | some e =>
    let idle := match e.zeroFrom with
      | some t => Nat.ble (t + 10000000) s.now
      | none => false
    if idle then State.showSupplement { s with pw := { s.pw with supplement := none } }
    else if e.phaseAt + 10000000 ≤ s.now then
      let e1 : Supplement := { e with phaseAt := e.phaseAt + 10000000, periodic := true, allowed := e.periodic && !e.allowed }
      let s1 := { s with pw := { s.pw with supplement := some e1 } }
      let s2 := if e.periodic then s1 else (s1.bump Obj.PWR_SUPP_DUTY_COUNT).event 0x1405 0
      s2.showSupplement
    else s

/-- The tile alone exceeds input and supplement for 1 ms (R489). -/
def State.overloaded (s : State) (mw : Nat) : State :=
  if s.pw.path = .input ∧ s.tile.state ≠ .off then
    let s1 := (s.setReg Obj.PWR_TILE_POWER (satNat 16 mw)).event 0x1407 0
    let s2 := s1.enterFault 4 mw
    if s.tile.state = .fault then s2 else { s2 with pw := { s2.pw with overload := true } }
  else s

/-! ## Measurements (R495, R508) -/

/-- The charge count after a current of `ma` since the last measurement (R495). -/
def State.countCharge (s : State) (ma : Int) : Nat :=
  (clampInt 0 (s.capacity : Int) ((s.pw.charge : Int) + ma * ((s.now - s.pw.measuredAt : Nat) : Int))).toNat

/-- Every 10 ms the charge is counted and PWR_HOLDUP_ENERGY recomputed (R495). -/
def State.energyUpdate (s : State) (r : PowerReading) : State :=
  if s.tile.state = .off then s
  else
    let s1 := s.noteVin r.vin
    let s2 := { s1 with pw := { s1.pw with cellMv := r.cellMv, charge := s.countCharge r.cellMa, measuredAt := s.now } }
    let s3 := ((s2.setReg Obj.PWR_IIN r.iin).setReg Obj.PWR_VSTB_CURRENT r.vstb).setReg Obj.PWR_TILE_POWER r.tile
    let s4 := (s3.setReg Obj.PWR_CELL_VOLTAGE r.cellMv).setReg Obj.PWR_CELL_CURRENT (fromSigned 16 r.cellMa)
    s4.setReg Obj.PWR_HOLDUP_ENERGY (satNat 32 s4.holdupEnergy)

/-! ## Charge phases (R497, R500, R501) -/

/-- The cell has held 2.5 V for 1 s. -/
def State.prechargeEnd (s : State) : State :=
  if s.chgState = .precharge then { s with pw := { s.pw with phase := .cc } } else s

/-- The cell reaches the voltage limit. -/
def State.voltageLimit (s : State) : State := if s.chgState = .cc then { s with pw := { s.pw with phase := .cv } } else s

/-- Termination: the charge count is full and known (R495, R500). -/
def State.chargeDone (s : State) : State :=
  if s.chgState = .cv then
    ({ s with pw := { s.pw with phase := .done, timer := 0, charge := s.capacity, known := true } } : State).event 0x1409 0
  else s

/-- The cell has been below 3.35 V for 1 s in DONE. -/
def State.rechargeStart (s : State) (mv : Nat) : State :=
  if s.chgState = .done ∧ mv < 3350 then State.startCycle { s with pw := { s.pw with cellMv := mv } } else s

/-- The safety timer runs out (R501). -/
def State.timerOut (s : State) : State :=
  if 0 < s.timerRate ∧ s.wrk Obj.PWR_CHG_TIMER * 7200000000000 ≤ s.pw.timer then
    ({ s with pw := { s.pw with phase := .timerFault } } : State).event 0x1408 0
  else s

/-- PWR_CHG_RESTART (R501). -/
def State.chargeRestart (s : State) (v : Nat) : Status × State :=
  if v ≠ 1 then (.range, s)
  else if s.chargerRuns = false then (.state, s)
  else if s.pw.chargeable then (.ok, s.powerStep State.startCycle)
  else (.ok, s.powerStep (fun s => { s with pw := { s.pw with phase := .disabled, timer := 0 } }))

/-! ## The cell's temperature (R498, R499) -/

/-- exp of `n / 10^24`, scaled by 10^24: Taylor's series to 40 terms after division of the argument by 64. -/
def expScaled (n : Int) : Int :=
  let u : Int := 1000000000000000000000000
  let x := n / 64
  let (sum, _) := (List.range 40).foldl (fun (p : Int × Int) (k : Nat) =>
    let term := p.2 * x / (u * ((k : Int) + 1))
    (p.1 + term, term)) (u, u)
  (List.range 6).foldl (fun y _ => y * y / u) sum

/-- The NTC's resistance in microohm at `t` sixteenths of a degree (R498). -/
def ntcMicroOhm (t : Int) : Int :=
  let u : Int := 1000000000000000000000000
  -- 3,380 / T - 3,380 / 298.15 with T = 273.15 + t / 16
  let a := 3380 * u * 1600 / (437040 + 100 * t) - 3380 * u * 100 / 29815
  10000000000 * expScaled a / u

/-- The temperature nearest to a resistance in ohm, in 1/16 degree, searched downwards from `hi` by halving: 12 steps cover the range. -/
def ntcSearch (ohm : Nat) : Nat → Int → Int → Int
  | 0, lo, _ => lo
  | n + 1, lo, hi =>
    let mid := (lo + hi) / 2
    if 2 * (1000000 * (ohm : Int)) ≤ ntcMicroOhm mid + ntcMicroOhm (mid + 1) then ntcSearch ohm n (mid + 1) hi else ntcSearch ohm n lo mid

/-- The temperature that an NTC resistance stands for, in 1/16 degree; `none` outside -40 to 100 degrees. -/
def ntcTemp (ohm : Nat) : Option Int :=
  if 1000000 * (ohm : Int) ≤ ntcMicroOhm (-640) ∧ ntcMicroOhm 1600 ≤ 1000000 * (ohm : Int) then some (ntcSearch ohm 12 (-640) 1600) else none

/-- The zone of a temperature by the boundaries themselves (R499). -/
def zoneOf (t : Int) : Nat := if t < 0 then 0 else if t < 160 then 1 else if t ≤ 720 then 2 else if t ≤ 880 then 3 else 4

/-- The zone after a reading (R499): farther from NORMAL at the boundary, nearer 2 degrees inside it. -/
def nextZone (cur : Nat) (t : Int) : Nat :=
  let z := zoneOf t
  if cur < 2 then (if z < cur then z else Nat.max cur (if t < 32 then 0 else if t < 192 then 1 else z))
  else if 2 < cur then (if cur < z then z else Nat.min cur (if 848 < t then 4 else if 688 < t then 3 else z))
  else z

/-- Is hold-up refused for the cell's temperature (R496)? -/
def nextTempOut (out : Bool) (t : Int) : Bool := if out then decide (t < -288 ∨ 928 < t) else decide (t < -320 ∨ 960 < t)

/-- A valid reading of the NTC: the fault clears after 1 s of them. -/
def State.ntcGood (s : State) (t : Int) : State :=
  let since := s.pw.ntcGoodFrom.getD s.now
  let cleared := s.pw.ntcFault && Nat.ble (since + 1000000000) s.now
  let z := nextZone s.pw.zone t
  let s1 := { s with pw := { s.pw with
    ntcGoodFrom := some since, ntcFault := s.pw.ntcFault && !cleared, tempOut := nextTempOut s.pw.tempOut t, zone := z
    phase := if cleared && decide (s.pw.phase ≠ ChgState.timerFault) then .disabled else s.pw.phase } }
  let s2 := s1.setReg Obj.PWR_CELL_TEMP (fromSigned 16 t)
  if z = s.pw.zone then s2 else s2.event 0x140A 0

/-- A reading outside the NTC's range. -/
def State.ntcBad (s : State) : State :=
  let s1 := { s with pw := { s.pw with
    ntcGoodFrom := none, ntcFault := true, phase := if s.pw.phase = .timerFault then .timerFault else .disabled } }
  if s.pw.ntcFault then s1 else s1.event 0x140B 0

/-- CELL_NTC read every 100 ms (R498): its resistance, `none` when it reads open, and the cell's voltage. -/
def State.ntcSample (s : State) (ohm : Option Nat) (mv : Nat) : State :=
  if s.tile.state = .off then s
  else
    let s0 := State.setReg { s with pw := { s.pw with cellMv := mv } } Obj.PWR_CELL_VOLTAGE mv
    if ohm = none ∧ mv < 1500 then
      { s0 with pw := { s0.pw with noCell := true, known := false, phase := if s.pw.phase = .timerFault then .timerFault else .disabled } }
    else
      let s1 := if s.pw.noCell then { s0 with pw := { s0.pw with noCell := false, known := false } } else s0
      match ohm.bind ntcTemp with
      | some t => s1.ntcGood t
      | none => s1.ntcBad

/-- Thermal regulation by the case temperature (R499). -/
def State.thermalReg (s : State) (t : Int) : State :=
  if 1600 ≤ t then { s with pw := { s.pw with thermal := true } }
  else if t < 1520 then { s with pw := { s.pw with thermal := false } }
  else s

/-! ## SHIP (R502) -/

/-- PWR_SHIP written. -/
def State.writeShip (s : State) (v : Nat) : Status × State :=
  if 1 < v then (.range, s)
  else if v = 1 ∧ (s.tile.state = .rest ∨ s.pw.path ≠ .input) then (.state, s)
  else (.ok, State.showPower { s with pw := { s.pw with shipArmed := Nat.beq v 1 } })

/-! ## Status pins (R505, R506) -/

/-- The patterns of ST0 and ST1. -/
inductive Pattern where
  | off | steady | hz1 | hz4 | double
  deriving DecidableEq, Repr

/-- The path that the status pins show: in HANDOVER they keep the pattern they had. -/
def State.shown (s : State) : State :=
  if s.pw.path = .handover then { s with pw := { s.pw with path := .input, vinOver := false } } else s

/-- ST0 shows the charger. -/
def State.st0 (s : State) : Pattern :=
  if s.tile.state = .off then .off
  else match s.shown.chgState with
    | .timerFault | .ntcFault => .double
    | .suspended => .hz4
    | .precharge | .cc | .cv => .hz1
    | .done => .steady
    | _ => .off

/-- ST1 shows the power path. -/
def State.st1 (s : State) : Pattern :=
  let x := s.shown.pw
  if s.tile.state = .off then .off
  else if x.path = .shutdown ∨ x.vinOver = true ∨ (s.tile.state = .fault ∧ x.overload = true) then .double
  else if x.path = .cell then (if x.bounceUntil.isSome then .hz4 else .hz1)
  else .steady

end Sys2Proof.Machine
end

