-- ==== Sys2Proof/Machine/Boot.lean ====
section
/-! DEFINITION. Start-up from OFF to READY, RUN and back, RESET, the hours counted (01 R18-R21; 19 R514; 21 R547-R561). -/

namespace Sys2Proof.Machine

/-! ## BOOT (R487, R534, R547, R554, R556) -/

/-- EVT_BOOT as it is first written: the reason, and the number of this boot not yet known (R556). -/
def bootParam (reason : Nat) : Nat := reason * 2 ^ 24 + 0xFFFFFF

/-- BOOT entered: 1 after power-on, 2 by RESET. Every volatile value is at its default (R265), the log is empty (R557). -/
def State.enterBoot (s : State) (reason : Nat) : State :=
  let old := s.tile.state
  let s1 := s.afterPower (Nat.beq reason 2)
  let s2 := { s1 with
    tile := { state := .boot, since := s.now, bootAt := s.now, onAt := if reason = 2 then s.tile.onAt else s.now, runPart := s.tile.runPart }
    pw := { s1.pw with known := s1.pw.known && Nat.beq reason 2, shipArmed := false } }
  let s3 := ((s2.setReg Obj.EVT_BOOT_REASON reason).showKeys).event 0x1702 (bootParam reason)
  (s3.event 0x1703 (16 * old.code + 1)).powerStep (fun s => s.noteVin s.pw.vin)

/-- VIN is qualified in OFF (R487). -/
def State.vinQualified (s : State) (mv : Nat) : State :=
  if s.tile.state = .off ∧ vinGood mv = true then
    let s1 := s.shipEnd
    State.enterBoot { s1 with pw := { s1.pw with vin := mv, vinAt := s.now } } 1
  else s

/-- Firmware verified and started, or no slot admissible (R534). -/
def State.bootVerify (s : State) : State :=
  if s.tile.state = .boot then
    let (ok, s1) := s.verifySlots
    if ok then (s1.goto .selftest).startPlls else s1.enterFault 1 0
  else s

/-- RESET in FAULT (R289, R554). -/
def State.resetTile (s : State) : State := if s.tile.state = .fault then s.enterBoot 2 else s

/-! ## SELFTEST (R514, R549, R557) -/

/-- The end of the Archive test (R216, R557): both slots read 0xFF, every word is correct, the mirror holds every entry since BOOT. -/
def State.archiveTested (s : State) : State :=
  let s1 := { s with archive := [], cu := { s.cu with ue := [] }, log := { s.log with mirror := true } }
  (s1.log.slots.foldl (fun (s : State) p => s.archWrite (mirrorBase + 16 * p.1) p.2.bytes) s1).setFlag Obj.EVT_STATUS 1 true

/-- What trimming did (R514): the bank with its changes, the columns mapped and the columns dead. -/
structure Trimmed where
  bank : Bank
  mapped : List Nat := []
  dead : List Nat := []

/-- Entry `i` of a spare map. -/
def spareEntry (b : Bank) (i : Nat) : Nat := b.le Obj.CAL_SPARE_MAP (2 * i) 2

/-- The active column that a failed physical column serves, if any: its own unless a spare serves it, or the one a spare is mapped to. -/
def servedBy (b : Bank) (p : Nat) : Option Nat :=
  if 16 ≤ p ∧ p < 8208 then
    (if (List.range 8).any (fun i => Nat.beq (spareEntry b (8 * ((p - 16) / 1024) + i)) (p - 16)) then none else some (p - 16))
  else if 8224 ≤ p ∧ p < 8288 then
    (let k := spareEntry b (p - 8224)
     if k < 8192 then some k else none)
  else none

/-- A failed readout chain: the lowest unmapped spare of its hall that passes is mapped to its column, or the column is dead. -/
def trimChain (failed : List Nat) (ver : BitVec 32) (t : Trimmed) (p : Nat) : Trimmed :=
  match servedBy t.bank p with
  | none => t
  | some k =>
    let h := k / 1024
    let b := if 8224 ≤ p then t.bank.patchBlob Obj.CAL_SPARE_MAP (2 * (p - 8224)) (leBytes 2 0xFFFF) ver else t.bank
    match (List.range 8).find? (fun i => Nat.beq (spareEntry b (8 * h + i)) 0xFFFF && !(failed.contains (8224 + 8 * h + i))) with
    | some i => { t with bank := b.patchBlob Obj.CAL_SPARE_MAP (2 * (8 * h + i)) (leBytes 2 k) ver, mapped := t.mapped ++ [k] }
    | none => { t with bank := b, dead := t.dead ++ [k] }

/-- The trim word of an ADC switched to its other comparator. -/
def trimAdc (ver : BitVec 32) (b : Bank) (x : AdcSwitch) : Bank :=
  let o := 4 * (4 * x.column + x.adc)
  let other := !(bit (b.le Obj.CAL_ADC_TRIM o 4) 31)
  b.patchBlob Obj.CAL_ADC_TRIM o (leBytes 4 (b2n other * 2 ^ 31 + x.segments % 2 ^ 24)) ver

/-- A calibration bank after SELFTEST's changes (R514). -/
def trimmed (ver : BitVec 32) (b : Bank) (r : SelfTestReport) : Trimmed :=
  r.failedChains.foldl (trimChain r.failedChains ver) { bank := r.switched.foldl (trimAdc ver) b }

/-- SELFTEST's changes are found and recorded; the working copy takes them when the set is loaded. -/
def State.trimFound (s : State) (r : SelfTestReport) : State :=
  let b := match s.cal.generation with
    | some g => s.cal.loaded g
    | none => {}
  let t := trimmed 0 b r
  let s1 := { s with tile := { s.tile with trim := some r } }
  let s2 := t.mapped.foldl (fun s k => s.event 0x1506 k) s1
  let s3 := t.dead.foldl (fun s k => s.event 0x1507 k) s2
  let s4 := r.switched.foldl (fun s x => s.event 0x1508 x.column) s3
  let s5 := s4.setFlag Obj.CAL_STATUS 5 (!(t.mapped.isEmpty && t.dead.isEmpty && r.switched.isEmpty))
  let s6 := if t.dead.isEmpty then s5 else (s5.setBlob Obj.CAL_DEAD_MAP (bitmapOf 1024 (fun k => t.dead.contains k))).setFlag Obj.CAL_STATUS 6 true
  s6.setBlob Obj.CAL_ADC_DNL (sliceBytes (r.dnl.flatMap (leBytes 2)) 0 16)

/-- SELFTEST ends (R549): FAULT at the first failing test, or CALLOAD. -/
def State.selftestDone (s : State) (r : SelfTestReport) : State :=
  if s.tile.state = .selftest then
    match r.failed with
    | some n => ((if 4 < n then s.archiveTested else s).event 0x1704 n).enterFault 2 n
    | none =>
      let s1 := (s.archiveTested.trimFound r).goto .calload
      { s1 with am := { s1.am with refAt := some s.now } }
  else s

/-! ## CALLOAD (R524, R525, R556-R559) -/

/-- SELFTEST's changes in the working copy (R514). -/
def State.trimWork (s : State) : State :=
  match s.tile.trim with
  | some r =>
    let s1 := s.nextVersion
    { s1 with cat := { s1.cat with work := (trimmed s1.cat.version s1.cat.work r).bank } }
  | none => s

/-- Do the kernel slots of a Folio pass the signature checks of R540? Only the secure configuration asks for them. -/
def State.kernelsSigned (s : State) (b : Bank) : Bool :=
  !s.secure || (List.range 16).all (fun i =>
    let l := b.all (Obj.KN_KERNEL i)
    if l = [] then true
    else Nat.beq (leAt l 0x5C 4) 64 && s.signedByEither (l.take (leAt l 0x58 4)) (l.drop (leAt l 0x58 4)))

/-- Have the reference and then the self-calibrations of both converters had their time (R406, R407)? -/
def State.monitorReady (s : State) : Bool := Nat.ble ((s.am.refAt.getD 0) + 47000000) s.now

/-- The end of CALLOAD (R524, R547): BOOTS is counted whichever state follows (R561). -/
def State.calloadDone (s : State) (a b : MonCal) : State :=
  if s.tile.state = .calload ∧ (s.monitorReady = true ∨ s.cal.generation = none) then
    let r := s.loadRecords.numberBoot
    match r.cal.generation with
    | none => (r.life 0).enterFault 3 0
    | some g =>
      let s1 := ((r.loadCalibration g).trimWork).setReg Obj.LNK_RING_LENGTH s.cal.ringWord
      let s2 := s1.checkResume s1.kernelsSigned
      let s3 := (((s2.setReg Obj.AM_REF_BUFFER 1).calVerdict .a a).calVerdict .b b).showBands
      let s4 := ((s3.life 0).writeRecords).goto .linkup
      ((s4.enterDetect .a s4.rateMax false).enterDetect .b s4.rateMax false).powerStep id
  else s

/-! ## READY and RUN (R19-R21, R289) -/

/-- Every hall's clock runs and has been idle from now. -/
def State.startHalls (s : State) : State := (List.range 8).foldl (fun s h => s.setHall h { running := true, idleFrom := s.now }) s

/-- READY entered from LINKUP with a position (R19, R257). -/
def State.firstReady (s : State) : State :=
  if s.tile.state = .linkup then
    let s1 := s.goto .ready
    (State.startHalls { s1 with tile := { s1.tile with readyAt := s.now } }).loadResume.chanSync
  else s

/-- START (R21, R258, R289): RUN entered. -/
def State.startRun (s : State) : Status × State :=
  if s.tile.state ≠ .ready ∨ s.tile.phase ≠ .none ∨ s.fol.hasActive = false then (.state, s)
  else if s.fol.computing || s.cal.run.isSome then (.busy, s)
  else
    let s1 := (s.goto .run).enterGrid
    let s2 := { s1 with
      tile := { s1.tile with runAt := s.now }
      la := { s1.la with restartDue := true }
      fol := { s1.fol with lastLine := none } }
    (.ok, s2.chanSync)

/-- STOP (R289): no boundary after it fires a trigger. -/
def State.stopRun (s : State) (r : Requester) : Option Status × State :=
  if s.tile.state = .run then (none, { s with tile := { s.tile with stopping := s.tile.stopping ++ [r] } }) else (some .state, s)

/-- Have all lines triggered before STOP retired? -/
def State.linesDone (s : State) : Bool := s.la.flights.isEmpty && s.lt.held.isNone && s.cu.lines.isEmpty

/-- READY entered after STOP (R289); those to be answered. -/
def State.stopComplete (s : State) : List Requester × State :=
  if s.tile.state = .run ∧ s.tile.stopping ≠ [] ∧ s.linesDone = true then
    let s1 := s.surveyStop.bankRun.goto .ready
    (s.tile.stopping, State.chanSync { s1 with tile := { s1.tile with stopping := [] } })
  else ([], s)

/-! ## Hours (R560, R561) -/

/-- 1 h in ns. -/
def hourNs : Nat := 3600000000000

/-- A whole hour outside OFF. -/
def State.onHour (s : State) : State :=
  if s.tile.state ≠ .off ∧ s.tile.onAt + hourNs ≤ s.now then
    (State.life { s with tile := { s.tile with onAt := s.tile.onAt + hourNs } } 2).writeRecords
  else s

/-- A whole hour in RUN. -/
def State.runHour (s : State) : State :=
  let s1 := s.bankRun
  if hourNs ≤ s1.tile.runPart then State.life { s1 with tile := { s1.tile with runPart := s1.tile.runPart - hourNs } } 3 else s1

end Sys2Proof.Machine
end

