-- ==== Sys2Proof/Machine/TwoWire.lean ====
section
/-! DEFINITION. The two-wire ports (16): addresses, controller transfers, the window of I2CA, the alert line, address matching in REST. The mailbox of
I2CB is in Catalogue.lean. -/

namespace Sys2Proof.Machine

/-- A port's target. -/
def TwoWire.target (x : TwoWire) : TwPort → TwTarget
  | .i2ca => x.a
  | .i2cb => x.b

/-- A port's target replaced. -/
def TwoWire.setTarget (x : TwoWire) (p : TwPort) (v : TwTarget) : TwoWire :=
  match p with
  | .i2ca => { x with a := v }
  | .i2cb => { x with b := v }

/-- A port's target changed. -/
def State.onTarget (s : State) (p : TwPort) (f : TwTarget → TwTarget) : State :=
  { s with tw := s.tw.setTarget p (f (s.tw.target p)) }

/-! ## Addresses (R448, R449) -/

/-- Addresses that no target entry may hold or match (R449). -/
def reservedAddress (a : Nat) : Bool := Nat.blt a 8 || Nat.beq a 0x0C || (Nat.ble 0x78 a && Nat.ble a 0x7F)

/-- Does ADDR0 under a mask match `a`: all 7 bits outside the mask equal? -/
def maskedMatch (addr0 mask a : Nat) : Bool :=
  (List.range 7).all (fun k => bit mask k || decide (bit addr0 k = bit a k))

/-- Is a pair of TW_x_ADDR and TW_x_ADDR_MASK refused (R449)? -/
def addressRefused (l : List Byte) (mask : Nat) : Bool :=
  (List.range 4).any (fun i =>
    let a := leAt l i 1
    Nat.ble 0x80 a || (reservedAddress a && !(decide (a = 0) && Nat.blt 0 i))) ||
  (List.range 128).any (fun a => reservedAddress a && maskedMatch (leAt l 0 1) mask a)

/-- The addresses and the mask a port answers. -/
def State.twAddr (s : State) (p : TwPort) : List Byte × Nat :=
  (s.tw.target p).inUse.getD (s.cat.work.all (Obj.TW_ADDR p.code), s.wrk (Obj.TW_ADDR_MASK p.code))

/-- Does a port's target answer address `a` (R449)? -/
def State.twAnswers (s : State) (p : TwPort) (a : Nat) : Bool :=
  let (l, mask) := s.twAddr p
  Nat.beq (s.reg (Obj.TW_ENABLE p.code)) 1 && Nat.blt a 128 &&
    (maskedMatch (leAt l 0 1) mask a || [1, 2, 3].any (fun i => decide (leAt l i 1 ≠ 0) && Nat.beq (leAt l i 1) a))

/-- Do the ports serve (R448)? -/
def State.twServes (s : State) : Bool :=
  match s.tile.state with
  | .off | .boot | .rest => false
  | _ => true

/-- Has a START been seen on I2CA and no STOP since (R464)? -/
def State.i2caBusy (s : State) : Bool := s.flag (Obj.TW_STATUS 0) 4

/-- New addresses of a port: they hold from the next bus free on (R449). -/
def State.changeAddr (s : State) (p : TwPort) (f : State → State) : State :=
  let old := s.twAddr p
  let s1 := f s
  if p = .i2ca ∧ s.i2caBusy = true then s1.onTarget p (fun x => { x with inUse := some old }) else s1

/-! ## Controller transfers (R450-R454) -/

/-- The status bits of I2CA that follow the controller (R464). -/
def State.twShow (s : State) : State :=
  (s.setFlag (Obj.TW_STATUS 0) 1 s.tw.xfer.isSome).setFlag (Obj.TW_STATUS 0) 2 s.tw.recovering

/-- SDA has been seen high (R454). -/
def State.sdaHigh (s : State) : State := s.setFlag (Obj.TW_STATUS 0) 3 false

/-- TW_A_RESULT (R452). -/
def State.twResult (s : State) (status byteIndex attempts : Nat) (data : List Byte) : State :=
  s.setBlob Obj.TW_RESULT (leBytes 1 status ++ leBytes 1 byteIndex ++ leBytes 1 attempts ++ leBytes 1 data.length ++ zeros 4 ++ data)

/-- A STOP ends what holds the bus (R464); changed addresses hold from then on (R449). -/
def State.stopSeen (s : State) : State :=
  (s.onTarget .i2ca (fun v => { v with inUse := none })).setFlag (Obj.TW_STATUS 0) 4 false

/-- Has a transfer of this shape a byte `i` (R452)? -/
def TwXfer.has (x : TwXfer) (i : Nat) : Bool :=
  if x.rlen = 0 then Nat.ble i x.wlen else Nat.ble i (x.wlen + 1 + x.rlen) && !(Nat.beq i 0 && Nat.beq x.wlen 0)

/-- The bytes read before byte `i` of a transfer (R452). -/
def TwXfer.readBefore (x : TwXfer) (i : Nat) : Nat := i - (x.wlen + 2)

/-- The transfer that waits starts, if the bus is free and no recovery runs. -/
def State.twStart (s : State) : State :=
  match s.tw.xfer with
  | some x =>
    if x.onBus || s.tw.recovering || s.i2caBusy || s.flag (Obj.TW_STATUS 0) 3 then s
    else
      let s1 := { s with tw := { s.tw with xfer := some { x with onBus := true, attempts := x.attempts + 1 } } }
      (s1.setFlag (Obj.TW_STATUS 0) 4 true).twResult 1 0 (x.attempts + 1) []
  | none => s

/-- The transfer ends with its result. -/
def State.twEnd (s : State) (x : TwXfer) (status byteIndex : Nat) (data : List Byte) : State :=
  (({ s with tw := { s.tw with xfer := none } }).twResult status byteIndex x.attempts data).twShow

/-- TW_A_XFER written (R450). During REST entry no transfer starts (R480). -/
def State.twXfer (s : State) (l : List Byte) : Status × State :=
  let wlen := leAt l 2 1
  if l.length < 8 ∨ l.length ≠ 8 + wlen then (.length, s)
  else if 0x77 < leAt l 0 1 ∨ leAt l 1 1 ≠ 0 ∨ 64 < wlen ∨ 64 < leAt l 3 1 ∨ 15 < leAt l 4 1 ∨ leAt l 5 3 ≠ 0 then (.range, s)
  else if s.tw.xfer.isSome || s.tw.recovering then (.busy, s)
  else if s.tile.phase ≠ .none then (.state, s)
  else
    let x : TwXfer := { addr := leAt l 0 1, wlen := wlen, rlen := leAt l 3 1, retries := leAt l 4 1, data := l.drop 8, attempts := 0, onBus := false }
    let s1 := ({ s with tw := { s.tw with xfer := some x } }).twResult 1 0 0 []
    (.ok, s1.twShow.twStart)

/-- The status of a not-acknowledge in byte `i` of a transfer (R451, R452), if there is such a byte. -/
def TwXfer.nack (x : TwXfer) (i : Nat) : Option Nat :=
  if i = 0 then (if 0 < x.wlen ∨ x.rlen = 0 then some 2 else none)
  else if i ≤ x.wlen then some 3
  else if i = x.wlen + 1 ∧ 0 < x.rlen then some 2
  else none

/-- A transfer ends with a STOP (R451, R452): all of it done, with the bytes read, or not acknowledged in a byte. -/
def State.twDone (s : State) (nack : Option Nat) (data : List Byte) : State :=
  match s.tw.xfer with
  | some x =>
    if x.onBus then
      match nack with
      | none => if x.rlen = data.length then s.sdaHigh.stopSeen.twEnd x 0 0 data else s
      | some i => match x.nack i with
        | some st => s.sdaHigh.stopSeen.twEnd x st i []
        | none => s
    else s
  | none => s

/-- Arbitration lost in byte `byteIndex` (R453). The transfer waits for bus free and starts again while the attempts made do not exceed RETRIES,
also where the tile serves the winner's transfer as its target. -/
def State.arbLost (s : State) (byteIndex : Nat) : State :=
  match s.tw.xfer with
  | some x =>
    if x.onBus && x.has byteIndex then
      let s1 := (s.bump Obj.TW_ARB_LOST).event 0x2901 byteIndex
      if x.attempts ≤ x.retries then { s1 with tw := { s1.tw with xfer := some { x with onBus := false } } }
      else s1.twEnd x 4 byteIndex []
    else s
  | none => s

/-- A START or STOP where none belongs (R454), with the bytes read before it: after a STOP the bus is free, after a START it is not (R464). -/
def State.busErr (s : State) (byteIndex : Nat) (start : Bool) (data : List Byte) : State :=
  match s.tw.xfer with
  | some x =>
    if x.onBus && x.has byteIndex && Nat.beq data.length (x.readBefore byteIndex) then
      let s1 := (s.bump Obj.TW_BUS_ERR).event 0x2902 0
      (if start then s1 else s1.stopSeen).twEnd x 5 byteIndex data
    else s
  | none => s

/-- The recovery sequence begins (R454). -/
def State.recover (s : State) : State :=
  let s1 := (s.bump Obj.TW_RECOVERIES).event 0x2903 0
  ({ s1 with tw := { s1.tw with recovering := true } }).twShow

/-- SCL held low beyond TW_A_STRETCH_LIMIT (R454): the transfer ends with the bytes read so far, and a recovery follows once SCL is released. -/
def State.controllerTimeout (s : State) (byteIndex : Nat) (data : List Byte) : State :=
  match s.tw.xfer with
  | some x =>
    if x.onBus && x.has byteIndex && Nat.beq data.length (x.readBefore byteIndex) then
      (((s.bump (Obj.TW_TIMEOUTS 0)).event 0x2906 0).twEnd x 6 byteIndex data).recover
    else s
  | none => s

/-- SDA low with SCL high for 1 ms when a transfer is due (R454). An attempt that found the bus so was none. -/
def State.busHang (s : State) : State :=
  match s.tw.xfer with
  | some x =>
    if s.tw.recovering then s
    else
      let y := { x with onBus := false, attempts := if x.onBus then x.attempts - 1 else x.attempts }
      (({ s with tw := { s.tw with xfer := some y } }).twResult 1 0 y.attempts []).recover
  | none => s

/-- TW_A_RECOVER written (R454). -/
def State.writeRecover (s : State) (v : Nat) : Status × State :=
  if v ≠ 1 then (.range, s)
  else if s.tw.xfer.isSome || s.tw.recovering then (.busy, s)
  else if s.tile.phase ≠ .none then (.state, s)
  else (.ok, s.recover)

/-- The recovery sequence ends (R454): with a STOP, after which a transfer that is due starts, or STUCK. -/
def State.recovered (s : State) (high : Bool) : State :=
  if s.tw.recovering then
    let s1 := ({ s with tw := { s.tw with recovering := false } }).twShow
    if high then s1.sdaHigh.stopSeen.twStart
    else
      let s2 := (s1.event 0x2904 0).setFlag (Obj.TW_STATUS 0) 3 true
      match s2.tw.xfer with
      | some x => s2.twEnd x 7 0 []
      | none => s2
  else s

/-- Another controller's STOP and tBUF (R449, R453): changed addresses hold, and a transfer that waits starts. -/
def State.busFree (s : State) : State :=
  match s.tw.xfer with
  | some x =>
    if x.onBus then s
    else s.sdaHigh.stopSeen.twStart
  | none => s.sdaHigh.stopSeen

/-! ## The window of I2CA (R455, R456) -/

/-- Byte `a` of the window as the bus reads it. -/
def State.windowByte (s : State) (a : Nat) : Byte :=
  if a < 128 then s.cat.vol.byte Obj.TW_WINDOW_OUT a else s.cat.vol.byte Obj.TW_WINDOW_IN (a - 128)

/-- The bytes a read transfer of `n` bytes returns on I2CA. -/
def State.windowRead (s : State) (n : Nat) : List Byte :=
  (List.range n).map (fun k => s.windowByte ((s.tw.a.pointer + k) % 256))

/-- A transfer addressed to a port counted. -/
def State.twAddressed (s : State) (p : TwPort) : State := s.bump (Obj.TW_TRANSFERS p.code)

/-- Bytes of a write transfer committed to TW_A_WINDOW_IN: those that fall on 0x80-0xFF, with their places. -/
def windowCommit (ptr : Nat) (l : List Byte) : List (Nat × Byte) :=
  ((List.range l.length).zip l).filterMap (fun (x : Nat × Byte) =>
    let a := (ptr + x.1) % 256
    if a < 128 then none else some (a - 128, x.2))

/-- A write transfer to the window (R283, R456). -/
def State.windowWrite (s : State) (addr : Nat) (l : List Byte) : State :=
  if s.twServes && s.twAnswers .i2ca addr then
    let s1 := s.sdaHigh.twAddressed .i2ca
    match l with
    | [] => s1
    | b :: d =>
      let c := windowCommit b.toNat d
      let s2 := s1.onTarget .i2ca (fun x => { x with pointer := (b.toNat + d.length) % 256 })
      if c.isEmpty then s2
      else (c.foldl (fun (s : State) (x : Nat × Byte) => s.patchBlob Obj.TW_WINDOW_IN x.1 [x.2]) s2).bump Obj.TW_WINDOW_SEQ
  else s

/-- A read transfer of `n` bytes from the window (R456). -/
def State.windowTaken (s : State) (addr n : Nat) : State :=
  if s.twServes && s.twAnswers .i2ca addr then
    (s.sdaHigh.twAddressed .i2ca).onTarget .i2ca (fun x => { x with pointer := (x.pointer + n) % 256 })
  else s

/-- TW_A_WINDOW_OUT written: exactly 128 bytes. -/
def State.writeWindowOut (s : State) (l : List Byte) : Status × State :=
  if l.length = 128 then (.ok, (s.setBlob Obj.TW_WINDOW_OUT l).alert 3) else (.length, s)

/-- A START in the acknowledge slot of a byte addressed to the tile (R455). What the transfer wrote before that byte is a transfer of its own. -/
def State.rsInAck (s : State) (p : TwPort) : State :=
  if s.twServes then (s.bump (Obj.TW_RS_ACK p.code)).event 0x2905 0 else s

/-- SCL low for 35 ms during a transfer addressed to the tile (R455). -/
def State.targetTimeout (s : State) (p : TwPort) : State :=
  if s.twServes then (s.bump (Obj.TW_TIMEOUTS p.code)).event 0x2906 0 else s

/-! ## The alert line (R459, R460) -/

/-- A read of 0x0C on a port (R460). -/
def State.alertResponse (s : State) (p : TwPort) (lost : Bool) : State :=
  if s.drivesAlert && Nat.beq (s.reg Obj.TW_ALERT_PORT) p.code && Nat.beq (s.reg (Obj.TW_ENABLE p.code)) 1 then
    if lost then s.bump Obj.TW_ARA_LOST
    else s.setReg Obj.TW_ALERT_PENDING (natAnd (s.reg Obj.TW_ALERT_PENDING) (255 - s.reg Obj.TW_ALERT_MASK % 256))
  else s

/-- The byte that answers 0x0C: ADDR0 doubled. -/
def State.alertByte (s : State) (p : TwPort) : Nat := 2 * leAt (s.twAddr p).1 0 1

/-- TW_ALERT_SET written. -/
def State.alertSet (s : State) (v : Nat) : Status × State := if v = 1 then (.ok, s.alert 4) else (.range, s)

/-- TW_ALERT_CLEAR written. -/
def State.alertClear (s : State) (v : Nat) : Status × State :=
  if 32 ≤ v then (.range, s)
  else (.ok, s.setReg Obj.TW_ALERT_PENDING (natAnd (s.reg Obj.TW_ALERT_PENDING) (255 - v)))

/-! ## REST (R457, R458) -/

/-- The port's STRETCH hold ends, and TW_x_STRETCH_MAX holds the longest. -/
def State.holdEnd (s : State) (p : TwPort) : State :=
  match (s.tw.target p).holdSince with
  | some h =>
    let s1 := s.onTarget p (fun x => { x with holdSince := none })
    s1.setReg (Obj.TW_STRETCH_MAX p.code) (Nat.max (s.reg (Obj.TW_STRETCH_MAX p.code)) (Nat.min 65535 ((s.now - h) / 1000)))
  | none => s

/-- An address that matches in REST (R457): whether the tile wakes by it. -/
def State.restMatch (s : State) (p : TwPort) (addr : Nat) : Bool × State :=
  let mode := s.reg (Obj.TW_REST_MODE p.code)
  if s.tile.phase = .none ∨ mode = 2 ∨ addr = 0x0C ∨ s.twAnswers p addr = false then (false, s)
  else
    let x := s.tw.target p
    let s1 := if x.woke then s else s.bump (Obj.TW_REST_WAKES p.code)
    let hold := if mode = 1 ∧ s.tile.state = .rest ∧ x.holdSince = none then some s.now else x.holdSince
    (true, s1.onTarget p (fun x => { x with woke := true, holdSince := hold }))

/-- A STRETCH hold has lasted 450 us and the port does not serve yet (R458). -/
def State.stretchExpired (s : State) (p : TwPort) : State :=
  match (s.tw.target p).holdSince with
  | some h => if h + 450000 ≤ s.now then (s.holdEnd p).event 0x2907 0 else s
  | none => s

end Sys2Proof.Machine
end

