-- ==== Sys2Proof/Machine/Rest.lean ====
section
/-! DEFINITION. REST: the request, the drain, entry, the wake sources and the wake (01 R21-R23; 11 R323-R327; 12 R350; 17 R480-R483). -/

namespace Sys2Proof.Machine

/-- Is a port's link in use, so that a rate is to be matched? -/
def State.linked (s : State) (p : Port) : Bool := (s.port p).takes

/-- The faster of two ports at different rates is retrained at the slower rate with FALLBACK (R323). -/
def State.matchRates (s : State) : State :=
  let ra := s.portA.rate
  let rb := s.portB.rate
  if s.linked .a && s.linked .b && decide (ra ≠ rb) then
    if ra < rb then s.enterDetect .b ra true else s.enterDetect .a rb true
  else s

/-- A rest request (R21, R289, R480): refused with STATE on a master and during an entry that already runs, with BUSY during a calibration run
or a commit (R516, R523). -/
def State.restRequest (s : State) : Status × State :=
  if s.tile.state ≠ .ready ∨ s.tile.phase ≠ .none ∨ s.posMaster = true ∨ s.timeMaster = true then (.state, s)
  else if s.cal.commit.isSome || s.cal.run.isSome then (.busy, s)
  else (.ok, State.matchRates { s with tile := { s.tile with phase := .draining, phaseAt := s.now } })

/-- What a port still holds is discarded with cause 7; event 0x1217 tells it once for the tile (R350). -/
def State.discardRest (s : State) : State :=
  let one := fun (s : State) (p : Port) =>
    let n := (s.port p).queue.length
    (List.range n).foldl (fun s _ => s.countDiscard p 7) (s.onPort p (fun v => { v with queue := [] }))
  let n := s.portA.queue.length + s.portB.queue.length + s.rg.waiting.length
  let s1 := one (one s .a) .b
  let s2 := { s1 with rg := { s1.rg with waiting := [], onward := none } }
  let s3 := s.rg.waiting.foldl (fun s _ => s.countDiscard s.homePort 7) s2
  if n = 0 then s3 else s3.event 0x1217 0

/-- A port joined to the other as a repeater (R323). -/
def State.joinPort (s : State) (p : Port) : State :=
  (s.onPort p (fun v => { v.dropWire with hop := none, hopDone := false })).portTo p .pass

/-- PASS sets sent and the lanes joined (R323), or, at a chain's end, END sent and the transmitter held idle (R324). -/
def State.sendPass (s : State) : State :=
  if s.portB.everUp then ((s.joinPort .a).joinPort .b).event 0x1209 0
  else (s.enterIdleEnd .a).enterDown .b

/-- 1 ms after REST entry began (R323, R350). -/
def State.restDrained (s : State) : State :=
  if s.tile.phase = .draining ∧ s.tile.phaseAt + 1000000 ≤ s.now then
    let s1 := s.discardRest.sendPass
    { s1 with tile := { s1.tile with phase := .passing } }
  else s

/-- The position model and installation time as REST leaves them (R483). -/
def State.restTime (s : State) : State :=
  let p := s.webPos
  let s1 := { s with
    lt := { s.lt with model := ⟨p, s.itimePs, 0⟩, hold := none, fresh := true, tokenAt := none }
    rg := { s.rg with followedAt := none, firstUpAt := none, lockRun := 0 } }
  s1.setFlag Obj.LNK_STATUS 4 false

/-- What loses its supply in REST (R480, R481): Gallery, engines and monitor. -/
def State.restPower (s : State) : State :=
  let s1 := s.clearWindow.gaHalt false
  let s2 := { s1 with
    cu := { s1.cu with engines := [], halls := [] }
    ga := { s1.ga with clock := false }
    am := { s1.am with refAt := none } }
  s2.calDrop.stopPlls

/-- REST reached (R480): after a controller transfer or a recovery has ended (R451). -/
def State.restEntered (s : State) : State :=
  if s.tile.phase = .passing ∧ s.tw.xfer = none ∧ s.tw.recovering = false then
    let s1 := s.abandon (fun _ => true)
    let s2 := (State.restTime { s1 with log := { s1.log with live := false } }).restPower
    let s3 := ((s2.bump Obj.CLK_REST_COUNT).event 0x1307 0).goto .rest
    let s4 := { s3 with tile := { s3.tile with phase := .inRest } }
    s4.chanSync.powerStep id
  else s

/-- The cycle of the always-on clock in which an instant falls (R481). -/
def alwaysOnCycle (t : Nat) : Nat := t * 1024 / 1000000

/-- The code that CLK_WAKE holds replaced in its entry, which is still held (R482, R555). -/
def rewake (code : Nat) : List LogEntry → List LogEntry
  | [] => []
  | e :: r => if e.code = 0x1308 then { e with param := BitVec.ofNat 32 code } :: rewake code r else e :: rewake code r

/-- A wake source (R22, R480, R482): it wakes a tile in REST and abandons an entry. -/
def State.wake (s : State) (code : Nat) : State :=
  match s.tile.phase with
  | .none => s
  | .draining | .passing =>
    let s1 := (s.setReg Obj.CLK_WAKE_SOURCE code).event 0x1308 code
    let s2 := ((s1.bump Obj.CLK_REST_ABANDONED).event 0x1309 0).portsAwake
    let s3 := (s2.onTarget .i2ca (fun x => { x with woke := false })).onTarget .i2cb (fun x => { x with woke := false })
    { s3 with tile := { s3.tile with phase := .none } }
  | .inRest =>
    let s1 := (s.setReg Obj.CLK_WAKE_SOURCE code).event 0x1308 code
    { s1 with tile := { s1.tile with phase := .waking, phaseAt := s.now } }
  | .waking =>
    if alwaysOnCycle s.now = alwaysOnCycle s.tile.phaseAt ∧ code < s.reg Obj.CLK_WAKE_SOURCE then
      let s1 := s.setReg Obj.CLK_WAKE_SOURCE code
      { s1 with log := { s1.log with held := rewake code s1.log.held } }
    else s

/-- A woken tile is in READY (R22, R327, R482). -/
def State.wakeComplete (s : State) : State :=
  if s.tile.phase = .waking then
    let s1 := s.wakePlls.coreAwake
    let s2 := s1.goto .ready
    let s3 := { s2 with
      tile := { s2.tile with readyAt := s.now, phase := .none }
      am := { s2.am with refAt := if s.reg Obj.AM_REF_BUFFER = 1 then some (s.tile.phaseAt + 150000) else none } }
    let s4 := (s3.holdEnd .i2ca).holdEnd .i2cb
    let s5 := (s4.onTarget .i2ca (fun x => { x with woke := false })).onTarget .i2cb (fun x => { x with woke := false })
    (s5.startHalls.portsAwake.chanSync).powerStep id
  else s

/-- An electrical-idle exit on a port's receive lanes (R326): on an awake tile whose port ended in idle, the link comes back. -/
def State.idleExit (s : State) (p : Port) : State :=
  if s.tile.phase = .none then
    match (s.port p).state with
    | .idleEnd => s.enterRecovery p
    | _ => s
  else s.wake (1 + p.code)

/-- An edge on a wake pin that holds for 100 ns (R426). -/
def State.wakePin (s : State) (p : Nat) (rising : Bool) : State :=
  let w := s.pinCfg p
  if s.tile.phase ≠ .none ∧ bit w 6 = true ∧ decide (rising ≠ cfgInvert w) = !(bit w 5) then (s.seePad p rising).wake 4
  else s.seePad p rising

/-- An address that matches on a port in REST (R457). -/
def State.addressWake (s : State) (p : TwPort) (addr : Nat) : State :=
  let (wakes, s1) := s.restMatch p addr
  if wakes then s1.wake (5 + p.code) else s1

/-- The always-on timer (R481): within 2 % of CLK_REST_TIMER ms after REST was reached. -/
def State.restTimer (s : State) : State :=
  let ms := s.reg Obj.CLK_REST_TIMER
  if s.tile.phase = .inRest ∧ 0 < ms ∧ s.tile.since + 980000 * ms ≤ s.now then s.wake 8 else s

/-- Encoder motion (R50, R54): it moves the position where the line timer runs, and wakes a tile in REST. -/
def State.encoderMotion (s : State) (e : EncEdge) : State :=
  match s.tile.state with
  | .off => s
  | .rest => s.wake 3
  | _ => (s.encoderEdge e).wake 3

end Sys2Proof.Machine
end

