-- ==== Sys2Proof/Machine/Blobs.lean ====
section
/-! DEFINITION. The checks of a kernel BLOB (05 R138-R140) and of a pin program's signature (15 R438). -/

namespace Sys2Proof.Machine

/-! ## Code words (R111, R113-R118, R122, R140) -/

/-- The fields of a code word. -/
structure CodeWord where
  op : Nat
  rd : Nat
  ra : Nat
  rb : Nat
  pg : Nat
  func : Nat
  imm : Nat
  deriving DecidableEq, Repr

/-- A 32-bit word cut into its fields (R111). -/
def CodeWord.read (w : Nat) : CodeWord :=
  { op := field w 31 26, rd := field w 25 21, ra := field w 20 16, rb := field w 15 11, pg := field w 10 8, func := field w 7 0
    imm := field w 15 0 }

/-- Is every given field 0? -/
def allZero (l : List Nat) : Bool := l.all (Nat.beq 0)

/-- Does a branch or JAL at word `i` reach a word of the code of `n` words? -/
def branchInside (n i imm : Nat) : Bool :=
  let t : Int := (i : Int) + 1 + toSigned 16 imm
  decide (0 ≤ t) && decide (t < n)

/-- Are the functions and unused fields of a scalar, vector or predicate word right (R113-R118, R122)? -/
def wordShape (x : CodeWord) : Bool :=
  match x.op with
  | 0x00 => Nat.blt x.func 2 && allZero [x.rd, x.ra, x.rb, x.pg]
  | 0x01 => Nat.ble x.func 0x10 && Nat.beq x.pg 0
  | 0x02 | 0x03 | 0x04 | 0x05 | 0x07 | 0x09 | 0x0A | 0x0B | 0x0C => true
  | 0x06 => Nat.beq x.ra 0
  | 0x08 => Nat.blt (x.imm / 128) 1 && Nat.blt (x.imm / 32 % 4) 3
  | 0x0D => Nat.ble x.func 0x14 && allZero [x.ra, x.rb, x.pg]
  | 0x0E => Nat.beq x.ra 0
  | 0x0F => allZero [x.rd, x.rb, x.pg, x.func]
  | 0x10 | 0x11 | 0x12 | 0x13 | 0x14 | 0x15 => true
  | 0x16 | 0x17 => Nat.blt x.rd 8 && Nat.beq x.ra 0
  | 0x18 => Nat.blt 0 x.func && allZero [x.rd, x.rb, x.pg]
  | 0x19 => Nat.ble x.func 0x14
  | 0x1A => Nat.ble x.func 5 && Nat.blt x.rd 8
  | 0x1B => Nat.beq (x.func / 16 % 4) 0 && Nat.beq x.rb 0
  | 0x1C => allZero [x.rb, x.func]
  | 0x1D => Nat.blt x.func 32 && allZero [x.rb, x.pg]
  | 0x1E => Nat.blt x.func 16 && allZero [x.rb, x.pg]
  | 0x1F => Nat.blt x.func 16
  | 0x20 => Nat.ble x.func 5 && Nat.beq x.rb 0
  | 0x21 => Nat.beq x.pg 0 && (match x.func with
      | 0 | 1 | 2 | 3 => Nat.blt x.rd 8 && Nat.blt x.ra 8 && Nat.blt x.rb 8
      | 4 => Nat.blt x.rd 8 && Nat.blt x.ra 8 && Nat.beq x.rb 0
      | 5 => Nat.blt x.rd 8 && Nat.beq x.rb 0
      | 6 | 7 => Nat.blt x.ra 8 && Nat.beq x.rb 0
      | _ => false)
  | 0x22 => Nat.blt x.rd 4 && (match x.func with
      | 0 | 1 | 2 | 3 | 4 | 5 | 6 => true
      | 7 | 8 => Nat.beq x.rb 0
      | 9 => allZero [x.ra, x.rb]
      | _ => false)
  | 0x23 => Nat.blt x.rd 4 && Nat.blt x.func 2
  | 0x24 => Nat.blt x.ra 4 && Nat.beq x.rb 0 && Nat.ble (x.func % 64) 39 && Nat.blt x.func 128
  | 0x25 => Nat.blt x.ra 4 && Nat.beq x.rb 0 && Nat.ble x.func 39
  | 0x28 => Nat.blt x.func 16
  | 0x29 | 0x2A => Nat.beq x.rb 0
  | 0x2B | 0x2C => allZero [x.rb, x.func]
  | 0x30 => Nat.blt x.func 2 && allZero [x.ra, x.rb]
  | 0x31 | 0x32 => allZero [x.rd, x.rb, x.pg, x.func]
  | 0x33 => Nat.beq x.pg 0 && Nat.blt 0 (x.func % 8) && Nat.blt (x.func / 8) 2
  | 0x34 => Nat.blt x.func 8 && allZero [x.rd, x.ra, x.rb, x.pg]
  | 0x35 => Nat.blt x.func 64 && allZero [x.rd, x.rb, x.pg]
  | _ => false

/-- Does word `i` of a code of `n` words pass (R140)? -/
def codeWordOk (n mask i w : Nat) : Bool :=
  let x := CodeWord.read w
  wordShape x &&
    (if x.op = 0x0E ∨ (0x10 ≤ x.op ∧ x.op ≤ 0x17) then branchInside n i x.imm
    else if x.op = 0x18 then Nat.blt (i + x.func) n
    else if x.op = 0x35 then bit mask (x.func % 64)
    else true)

/-! ## Kernel BLOBs (R138, R139) -/

/-- The sections of a BLOB with bytes in them, as offset and length: header, code, constants, tables, signature. -/
def blobSections (l : List Byte) : List (Nat × Nat) :=
  [(0, 96), (leAt l 0x14 4, leAt l 0x18 4), (leAt l 0x20 4, leAt l 0x24 4), (leAt l 0x2C 4, leAt l 0x30 4), (leAt l 0x58 4, leAt l 0x5C 4)].filter
    (fun x => Nat.blt 0 x.2)

/-- Do no two of these sections overlap? -/
def sectionsApart : List (Nat × Nat) → Bool
  | [] => true
  | (a, n) :: r => r.all (fun x => Nat.ble (a + n) x.1 || Nat.ble (x.1 + x.2) a) && sectionsApart r

/-- Is a field of R138 outside its range or alignment (check 4)? -/
def blobFieldBad (l : List Byte) : Bool :=
  let f := fun o => leAt l o 4
  let id := leAt l 0x0C 2
  let m := fun (v k : Nat) => Nat.beq (v % k) 0
  !(Nat.ble 0x0100 id && Nat.ble id 0x7FFF &&
    m (f 0x18) 4 && Nat.ble 4 (f 0x18) && Nat.ble (f 0x18) 16384 && Nat.blt (f 0x1C) (f 0x18 / 4) &&
    (Nat.blt 0 (f 0x24) || Nat.beq (f 0x20) 0) && m (f 0x28) 32 &&
    (Nat.blt 0 (f 0x30) || Nat.beq (f 0x2C) 0) && m (f 0x30) 32 && Nat.ble (f 0x30) 16777216 &&
    m (f 0x34) 32 && Nat.ble 32 (f 0x34) && Nat.ble (f 0x34) 64512 && m (f 0x38) 32 &&
    m (f 0x3C) 32 && Nat.ble (f 0x3C) 16384 && m (f 0x40) 32 && Nat.ble (f 0x3C) (f 0x40) && Nat.ble (f 0x40) 65536 &&
    m (f 0x44) 4 && Nat.ble (f 0x44) 8192 && Nat.ble 64 (f 0x48) && Nat.ble (f 0x48) 16000000 &&
    Nat.ble (leAt l 0x54 2) 896 && (Nat.beq (f 0x5C) 0 || Nat.beq (f 0x5C) 64) && Nat.beq (f 0x58 + f 0x5C) (f 8))

/-- Does every code word pass (check 6)? -/
def codeOk (l : List Byte) : Bool :=
  let n := leAt l 0x18 4 / 4
  let code := sliceBytes l (leAt l 0x14 4) (4 * n)
  let mask := leAt l 0x4C 8
  (List.range n).all (fun i => codeWordOk n mask i (leAt code (4 * i) 4))

/-- The first check of R139 that a BLOB fails, with its status. An empty object is accepted: no byte of it is written (log entry 28). -/
def State.kernelCheck (s : State) (l : List Byte) : Option (Nat × Status) :=
  let f := fun o => leAt l o 4
  if l = [] then none
  else if l.length < 96 ∨ f 8 ≠ l.length then some (1, .length)
  else if f 0 ≠ 0x4E4B5645 ∨ leAt l 4 2 ≠ 1 ∨ leAt l 6 2 ≠ 96 ∨ 1 < f 0x10 ∨ leAt l 0x56 2 ≠ 0 then some (2, .range)
  else if (blobSections l).any (fun x => Nat.blt l.length (x.1 + x.2)) || !(sectionsApart (blobSections l)) then some (3, .range)
  else if blobFieldBad l then some (4, .range)
  else if f 0x34 < f 0x28 + f 0x24 ∨ (0 < f 0x3C ∧ f 0x34 < f 0x38 + f 0x3C) then some (5, .range)
  else if !(codeOk l) then some (6, .range)
  else if s.secure && Nat.beq (f 0x5C) 0 then some (7, .auth)
  else if s.secure && !(s.signedByEither (l.take (f 0x58)) (l.drop (f 0x58))) then some (8, .auth)
  else none

/-- A kernel object of the Staged Folio written whole (R139): its checks, then the new value or event 0x2315. -/
def State.writeKernel (s : State) (slot : Nat) (l : List Byte) : Status × State :=
  match s.kernelCheck l with
  | some (c, st) => (st, s.event 0x2315 (256 * Obj.KN_KERNEL slot + c))
  | none => (.ok, s.setStagedBlob (Obj.KN_KERNEL slot) l)

/-! ## Pin programs (R438, R439) -/

/-- A pin program written (R438): the first check it fails, or the program in effect. -/
def State.writeProgram (s : State) (e : Nat) (l : List Byte) : Status × State :=
  let n := l.length - leAt l 0x28 4
  let enabled := bit (s.reg Obj.PE_ENABLE) e
  let bad : Option (Nat × Status) := match programCheck l with
    | some x => some x
    | none =>
      if enabled && decide ((s.pinEngine e).tickFlag ≠ bit (leAt l 0x12 1) 0) then some (4, .busy)
      else if s.secure && Nat.beq (leAt l 0x28 4) 0 then some (5, .auth)
      else if s.secure && !(s.signedByEither (l.take n) (l.drop n)) then some (6, .auth)
      else none
  match bad with
  | some (c, st) => (st, s.event 0x2803 (256 * e + c))
  | none => (.ok, s.loadProgram e l)

end Sys2Proof.Machine
end

