-- ==== Sys2Proof/Machine/Bulk.lean ====
section
/-! DEFINITION. Bulk access to the Archive, slot clears and the patrol scrub (08 R215, R222, R223, R227-R230). -/

namespace Sys2Proof.Machine

/-! ## Responses (R273) -/

/-- The code of a status (R266). -/
def Status.code : Status → Nat
  | .ok => 0 | .noObject => 1 | .noSub => 2 | .denied => 3 | .length => 4 | .range => 5
  | .sealed => 6 | .busy => 7 | .state => 8 | .auth => 9 | .segment => 10 | .noHoldup => 11

/-- What a RESPONSE carries (R273). `bytes` is VALUE. -/
structure Answer where
  status : Status
  rtype : Nat
  id : Nat
  staged : Bool := false
  last : Bool := false
  version : Nat := 0
  total : Nat := 0
  bytes : List Byte := []
  deriving DecidableEq, Repr

/-- The payload of a RESPONSE (R273). -/
def Answer.payload (a : Answer) : List Byte :=
  pad4 (leBytes 1 a.status.code ++ leBytes 1 a.rtype ++ leBytes 1 (a.id % 256) ++ leBytes 1 (b2n a.staged + 2 * b2n a.last) ++
    leBytes 2 (a.id / 256) ++ zeros 2 ++ leBytes 4 a.bytes.length ++ leBytes 4 a.version ++ leBytes 4 a.total ++ a.bytes)

/-! ## Bulk spaces (R227, R228) -/

/-- The size of a bulk space, where there is one. -/
def spaceSize : Nat → Option Nat
  | 1 | 2 => some slotBytes
  | 3 | 5 => some (2 ^ 30)
  | 4 => some (2 ^ 20)
  | 6 => some 4096
  | _ => none

/-- The first Archive byte of a space as the roles of the slots now are. -/
def State.spaceBase (s : State) : Nat → Nat
  | 1 => s.stagedSlot
  | 2 => s.activeSlot
  | 3 => cropRingBase
  | 4 => cropDirBase
  | 5 => viewBase
  | _ => mirrorBase

/-- Are the checks of a seal running (R270)? -/
def State.sealChecking (s : State) : Bool :=
  match s.cat.long with
  | some l => (match l.op with | .sealChecks => true | _ => false)
  | none => false

/-- The first condition of R229 that refuses a bulk frame of payload `l`. -/
def State.bulkRefused (s : State) (write : Bool) (l : List Byte) : Option Status :=
  let space := leAt l 0 1
  let flags := leAt l 1 1
  let len := leAt l 4 4
  let off := leAt l 8 8
  if l.length < 16 ∨ l.length - 16 ≠ (if write then len else 0) then some .length
  else match spaceSize space with
    | none => some .range
    | some size =>
      if write && !(Nat.beq space 1) then some .denied
      else if !s.readyOrRunning then some .state
      else if write && decide (s.fol.staging ≠ .opened) then some .sealed
      else if (write && (s.oldLines || s.cu.clear.isSome || s.sealChecking)) || (!write && Nat.ble 4 s.cu.reads.length) then some .busy
      else if len % 4 ≠ 0 ∨ off % 4 ≠ 0 then some .length
      else if 16 ≤ flags ∨ leAt l 2 2 ≠ 0 ∨ (write = false ∧ len = 0) then some .range
      else if space = 3 then (if 2 ^ 30 ≤ off ∨ 2 ^ 30 < len then some .range else none)
      else if size < off + len then some .range
      else none

/-- The part of a word that a write covers in part is read first: uncorrectable words it meets are counted (R215). -/
def State.bulkStore (s : State) (a : Nat) (l : List Byte) : State :=
  let inPart := fun (w : Nat) => (Nat.blt (8 * w) (a + l.length) && Nat.blt a (8 * w + 8)) && !(Nat.ble a (8 * w) && Nat.ble (8 * w + 8) (a + l.length))
  let hit := s.cu.ue.filter inPart
  (hit.foldl (fun (s : State) w => (s.bump Obj.VA_ARCH_UE).event 0x2504 w) s).archWrite a l

/-- A BULK_WRITE frame for this tile that arrived on a port with the bytes `raw` (R229). -/
def State.bulkWrite (s : State) (p : Port) (raw : List Byte) : State :=
  let f := Frame.read raw
  match s.bulkRefused true f.payload with
  | some st => s.nak p raw st.code
  | none =>
    let data := f.payload.drop 16
    let s1 := s.bulkStore (s.spaceBase 1 + leAt f.payload 8 8) data
    if bit (leAt f.payload 1 1) 0 then
      { s1 with cu := { s1.cu with acks := s1.cu.acks ++ [⟨p, f.source, f.tag, data.length⟩] } }
    else s1

/-- The RESPONSE to the oldest write still to be acknowledged (R229). -/
def State.bulkAck (s : State) : State :=
  match s.cu.acks with
  | a :: r =>
    let n := { s.newFrame a.source 1 0x06 (Answer.payload { status := .ok, rtype := 0x10, id := 0, total := a.bytes }) with tag := a.tag }
    State.sendOn { s with cu := { s.cu with acks := r } } a.port n
  | [] => s

/-- A BULK_READ frame for this tile (R229, R230). -/
def State.bulkRead (s : State) (p : Port) (raw : List Byte) : State :=
  let f := Frame.read raw
  match s.bulkRefused false f.payload with
  | some st => s.nak p raw st.code
  | none =>
    let space := leAt f.payload 0 1
    let r : BulkRead :=
      { port := p, source := f.source, tag := f.tag, space := space, base := s.spaceBase space
        first := leAt f.payload 8 8, total := leAt f.payload 4 4, offset := leAt f.payload 8 8, left := leAt f.payload 4 4, stale := false }
    { s with cu := { s.cu with reads := s.cu.reads ++ [r] } }

/-- The most data bytes in a bulk frame. -/
def bulkMax : Nat := 16368

/-- The bytes of a read from offset `off` of its space: uncorrectable words read as ones (R230); the crop ring wraps (R228). -/
def State.bulkBytes (s : State) (r : BulkRead) (n : Nat) : List Byte :=
  (List.range n).map (fun k =>
    let o := if r.space = 3 then (r.offset + k) % 2 ^ 30 else r.offset + k
    let a := r.base + o
    if s.cu.ue.contains (a / 8) then 0xFF else memRead archiveDefault s.archive a)

/-- The Archive words that a piece of a read meets, found uncorrectable (R215, R228). -/
def State.bulkWords (s : State) (r : BulkRead) (n : Nat) (bad : List Nat) : State × Bool :=
  if r.space = 3 ∧ 2 ^ 30 < r.offset % 2 ^ 30 + n then
    let k := 2 ^ 30 - r.offset % 2 ^ 30
    let (s1, h1) := s.readWords (r.base + r.offset % 2 ^ 30) k bad
    let (s2, h2) := s1.readWords r.base (n - k) bad
    (s2, !(h1.isEmpty && h2.isEmpty))
  else
    let o := if r.space = 3 then r.offset % 2 ^ 30 else r.offset
    let (s1, h) := s.readWords (r.base + o) n bad
    (s1, !h.isEmpty)

/-- The next BULK_DATA frame of the `i`-th running read (R230); `bad` lists Archive words found uncorrectable. -/
def State.bulkData (s : State) (i : Nat) (bad : List Nat) : State :=
  match s.cu.reads[i]? with
  | none => s
  | some r =>
    let n := Nat.min bulkMax r.left
    let (s1, err) := s.bulkWords r n bad
    let isLast := Nat.beq n r.left
    let stale := isLast && r.stale
    let off := if r.space = 3 then r.offset % 2 ^ 30 else r.offset
    let head := leBytes 1 r.space ++ leBytes 1 (8 * b2n isLast + 4 * b2n err + 2 * b2n stale) ++ zeros 2 ++ leBytes 4 n ++ leBytes 8 off
    let f := { s1.newFrame r.source 1 0x12 (head ++ s1.bulkBytes r n) with tag := r.tag, last := isLast }
    let rest := if isLast then s.cu.reads.eraseIdx i else s.cu.reads.set i { r with offset := r.offset + n, left := r.left - n }
    let s2 := State.sendOn { s1 with cu := { s1.cu with reads := rest } } r.port f
    if stale then (s2.bump Obj.VA_STALE_READS).event 0x2505 0 else s2

/-! ## Slot clears (R222, R223) -/

/-- What refuses a write of VA_SLOT_CLEAR (R222, R223, R270). -/
def State.clearRefused (s : State) : Option Status :=
  if s.fol.staging ≠ .opened then some .sealed
  else if s.oldLines || s.cu.clear.isSome || s.sealChecking then some .busy
  else none

/-- A slot clear begins: over the used extent as the Staged Folio's values now define it. -/
def State.clearBegin (s : State) : State :=
  let c : SlotClear := ⟨!s.cu.slotB, refExtent s.cat.staged, s.now⟩
  State.setReg { s with cu := { s.cu with clear := some c } } Obj.VA_SLOT_STATUS 1

/-- The slot clear completes. -/
def State.clearDone (s : State) : State :=
  match s.cu.clear with
  | some c =>
    let s1 := s.archFill (slotBase c.slot) c.extent
    State.setReg { s1 with cu := { s1.cu with clear := none } } Obj.VA_SLOT_STATUS 0
  | none => s

/-! ## Patrol scrub (R215) -/

/-- A patrol pass over the Archive completes with `ce` words corrected and the words `bad` found uncorrectable. -/
def State.scrubPass (s : State) (ce : Nat) (bad : List Nat) : State :=
  if s.readyOrRunning then
    let new := distinct (bad.filter (fun w => Nat.blt (8 * w) archiveBytes && !(s.cu.ue.contains w)))
    let s1 := s.bumpBy 32 Obj.VA_ARCH_CE ce
    let s2 := { s1 with cu := { s1.cu with ue := s1.cu.ue ++ new } }
    let s3 := s2.cu.ue.foldl (fun (s : State) w => (s.bump Obj.VA_ARCH_UE).event 0x2504 w) s2
    s3.bump Obj.VA_SCRUB_PASSES
  else s

end Sys2Proof.Machine
end

