-- ==== Sys2Proof/Machine/Values.lean ====
section
/-! DEFINITION. What a GET of an object reads (R264, R274): the stored values, and the figures that the tile works out when they are asked for. -/

namespace Sys2Proof.Machine

/-- The bank that holds an object's value: a Folio's (the Active one, or the Staged one), the working calibration set, or the rest (R264, R265). -/
def bankOf (access : Access) (staged : Bool) (s : State) : Bank :=
  match access with
  | .rwf => if staged then s.cat.staged else s.cat.active
  | .rwc => s.cat.work
  | _ => s.cat.vol

/-- A whole number as a 32-bit float, rounded half to even (R10). -/
def f32OfInt (v : Int) : Nat :=
  let m := v.natAbs
  if m = 0 then 0
  else
    let e := Nat.log2 m
    let q := if e ≤ 23 then m * 2 ^ (23 - e) else divHalfEvenNat m (2 ^ (e - 23))
    (if v < 0 then 2 ^ 31 else 0) + (e + 127) * 2 ^ 23 + (q - 2 ^ 23)

/-- A figure of the Active Folio; 0 with no Active Folio. -/
def State.ofActive (s : State) (f : Bank → Nat) : Nat := if s.fol.hasActive then f s.cat.active else 0

/-- The tile's speed (R57, R58): its own count's as position master, else the model's. -/
def State.speedNow (s : State) : Int := if s.posMaster then s.masterSpeed else s.lt.model.speed

/-- The uncalibrated or dead columns of strip `e`, column 64 e + j in bit j (R204). -/
def State.uncalMask (s : State) (e : Nat) : Nat :=
  bitsToNat ((List.range 64).map (fun j => s.calUse.uncal (64 * e + j) || s.calUse.deadColumn (64 * e + j)))

/-- Numbers of the strips' objects that are worked out (R204). -/
def State.stripNum (s : State) (e sub : Nat) : Option Nat :=
  match sub with
  | 1 => some (s.stripUtil e)
  | 2 => some (s.ofActive (fun b => homePlan b e))
  | 6 => some (s.uncalMask e)
  | _ => none

/-- Numbers of the pin engines' objects that are worked out (R444, R445). PE_n_RX reads the oldest word of RX. -/
def State.pinNum (s : State) (e sub : Nat) : Option Nat :=
  match sub with
  | 9 => some ((s.pinEngine e).rx.headD 0).toNat
  | 10 => some (s.pinStatus e)
  | 11 => some (s.pinEngine e).pc
  | _ => none

/-- Numbers of a monitor channel's objects that are worked out (R402, R403). -/
def State.chanNum (s : State) (c sub : Nat) : Option Nat :=
  match sub with
  | 7 => some (satNat 64 (s.chanSamples (chanOf c)))
  | 11 => some (s.chanLatency (chanOf c))
  | _ => none

/-- The numbers that are worked out when they are read. -/
def State.liveNum (s : State) (id : Nat) : Option Nat :=
  if Nat.ble 0x30 (id / 65536) then s.stripNum ((id / 256 - 0x3000) / 16) (id % 256)
  else match id with
  | 0x10000C => some s.tile.state.code
  | 0x10000D => some (s.now - s.tile.bootAt)
  | 0x110004 => some s.cat.version.toNat
  | 0x111006 => some Obj.folio.length
  | 0x111007 => some s.sealProgress
  | 0x120701 => some s.itime
  | 0x140206 => some (satNat 32 (s.countTimer.pw.timer / 2000000000))
  | 0x150001 => some (withBit (s.reg id) 3 s.calPending)
  | 0x170002 => some s.log.next.toNat
  | 0x170005 => some (s.log.slot ((s.log.next.toNat + 255) % 256)).code.toNat
  | 0x170104 => some (satNat 32 ((s.now - s.tile.since) / 1000000))
  | 0x200105 => some (s.ofActive rowCount)
  | 0x200106 => some (s.ofActive rateLimit)
  | 0x210101 => some ((divHalfEven s.webPos 256000000000000).toNat % 2 ^ 48)
  | 0x210102 => some (f32OfInt s.speedNow)
  | 0x210604 => some (withBit (s.reg id) 6 s.reverseNow)
  | 0x220101 => some (s.ofActive (fun b => fromSigned 16 (refRow s.cat.used b)))
  | 0x220102 => some (s.ofActive (fun b => (regLines s.cat.used b).toNat))
  | 0x220103 => some (s.ofActive (fun b => (maxDelay s.cat.used b).toNat))
  | 0x230101 => some (s.ofActive planCycles)
  | 0x230102 => some (s.ofActive reqCycles)
  | 0x230103 => some (s.ofActive (fun b => (tasksPeak b).1))
  | 0x240005 => some (s.ofActive (fun b => (b.blob Obj.KN_REGION_MAP).len / 32))
  | 0x250103 => some s.lendable
  | 0x250104 => some s.vaFree
  | 0x250202 => some (s.ofActive refLineBytes)
  | 0x250303 => some s.archLoad
  | 0x270002 => some s.refOnTime
  | _ =>
    if Nat.beq (id / 65536) 0x28 && Nat.ble 0x2810 (id / 256) then s.pinNum (id / 256 - 0x2810) (id % 256)
    else if Nat.beq (id / 256) 0x2701 || Nat.beq (id / 256) 0x2702 then s.chanNum (id / 256 - 0x2701) (id % 256)
    else none

/-- LNK_PRBS_BITS, with the bits of the lanes now in sync (R320). -/
def State.prbsBits (s : State) : List Byte :=
  (List.range 8).flatMap (fun k =>
    leBytes 8 (satNat 64 (s.cat.vol.le Obj.LNK_PRBS_BITS (8 * k) 8 + s.bitsInSync (if k < 4 then .a else .b) (k % 4))))

/-- AM_MMi_RESULT of a tracker with gate 0 that has no output since it was cleared or its channel was reset, read live (R415). -/
def State.emptyTracker (s : State) (i : Nat) : Option (List Byte) :=
  if Nat.blt i 4 && Nat.beq (s.reg (Obj.AM_MM_GATE i)) 0 && Nat.beq (s.am.mm i).samples 0 then some (trackerBytes 8388607 (-8388608) 0xFFFFFFFF 0 0) else none

/-- The byte strings that are worked out when they are read. -/
def State.liveBytes (s : State) (id : Nat) : Option (List Byte) :=
  match id with
  | 0x120409 => some s.prbsBits
  | 0x160001 => some vendorKeyBytes
  | 0x160303 => some s.sec.slotsBytes
  | 0x170001 => some ((List.range 256).flatMap (fun k => (s.log.slot k).bytes))
  | 0x170003 => some (s.log.slot ((s.log.next.toNat + 255) % 256)).bytes
  | 0x170201 => some s.lifeBytes
  | 0x170202 => some s.historyBytes
  | 0x230104 => some s.hallUtil
  | 0x230306 => some s.engineMap
  | 0x250101 => some (userBytes s.held)
  | 0x250102 => some (userBytes s.borrowed)
  | 0x260006 => some s.viewDir
  | 0x280005 => some s.pinLevelBytes
  | _ =>
    if Nat.beq (id / 65536) 0x28 && Nat.ble 0x2810 (id / 256) && Nat.beq (id % 256) 12 then some (s.pinEngine (id / 256 - 0x2810)).regs
    else if Nat.beq (id / 4096) 0x272 && Nat.beq (id % 256) 5 then s.emptyTracker (id / 256 - 0x2720)
    else none

/-- The bytes of an object's value (R10, R264). -/
def State.objBytes (s : State) (row : ObjRow) (id : Nat) (staged : Bool) : List Byte :=
  let b := bankOf row.access staged s
  if row.ty.size = 0 then (s.liveBytes id).getD (b.all id)
  else leBytes row.ty.size ((s.liveNum id).getD (b.num id))

/-- The length of an object's value. -/
def State.objLen (s : State) (row : ObjRow) (id : Nat) (staged : Bool) : Nat :=
  if row.ty.size = 0 then
    match s.liveBytes id with
    | some l => l.length
    | none => ((bankOf row.access staged s).blob id).len
  else row.ty.size

/-- A part of an object's value, no longer than what is left of it from the offset. -/
def State.objPart (s : State) (row : ObjRow) (id : Nat) (staged : Bool) (off n : Nat) : List Byte :=
  match s.liveBytes id with
  | some l => (l.drop off).take n
  | none =>
    let b := bankOf row.access staged s
    b.bytes id off (Nat.min n ((b.blob id).len - off))

/-- The VERSION of an object's value (R274): 0 for a fixed-size type. -/
def State.objVersion (s : State) (row : ObjRow) (id : Nat) (staged : Bool) : BitVec 32 :=
  if row.ty.size = 0 then
    match id with
    | 0x170001 => s.log.logVersion
    | 0x170003 => s.log.latestVersion
    | _ => ((bankOf row.access staged s).blob id).version
  else 0

end Sys2Proof.Machine
end

