-- ==== Sys2Proof/Machine/Writes.lean ====
section
/-! DEFINITION. What a write of an object does (R264, R267, R268, R275): the conditions of each step of R267, and the effects that the owning
rules give. -/

namespace Sys2Proof.Machine

/-! ## Values in range (R9, R10, R275) -/

/-- Is the value of a number in its object's range? -/
def Range.admits (g : Range) (bits v : Nat) : Bool :=
  match g with
  | .any => true
  | .interval lo hi => Nat.ble lo v && Nat.ble v hi
  | .stepped lo hi k => Nat.ble lo v && Nat.ble v hi && Nat.beq (v % k) 0
  | .signed lo hi => decide (lo ≤ toSigned bits v) && decide (toSigned bits v ≤ hi)
  | .zeroOr lo hi => Nat.beq v 0 || (Nat.ble lo v && Nat.ble v hi)
  | .oneOf l => l.contains v
  | .mask m => Nat.beq (Nat.land v m) v
  | .bytesMul _ _ _ => true

/-- Does a byte string's length fit its object? -/
def Range.fits (g : Range) (n : Nat) : Bool :=
  match g with
  | .bytesMul lo hi k => Nat.ble lo n && Nat.ble n hi && Nat.beq (n % k) 0
  | _ => true

/-- The greatest length of an object's value. -/
def ObjRow.maxLen (row : ObjRow) : Nat :=
  if row.ty.size = 0 then (match row.range with | .bytesMul _ hi _ => hi | _ => row.dflt.len) else row.ty.size

/-- Is a 32-bit float a NaN? -/
def isNan (v : Nat) : Bool := Nat.beq (v / 2 ^ 23 % 256) 255 && Nat.blt 0 (v % 2 ^ 23)

/-- The continuation bytes of a UTF-8 sequence: how many are still due, and the range of the next one. -/
structure Utf8 where
  due : Nat := 0
  lo : Nat := 0x80
  hi : Nat := 0xBF
  ok : Bool := true

/-- One more byte of a UTF-8 text. -/
def Utf8.next (u : Utf8) (b : Byte) : Utf8 :=
  let n := b.toNat
  if u.due = 0 then
    if n < 0x80 then u
    else if 0xC2 ≤ n ∧ n ≤ 0xDF then { u with due := 1 }
    else if 0xE0 ≤ n ∧ n ≤ 0xEF then { u with due := 2, lo := if n = 0xE0 then 0xA0 else 0x80, hi := if n = 0xED then 0x9F else 0xBF }
    else if 0xF0 ≤ n ∧ n ≤ 0xF4 then { u with due := 3, lo := if n = 0xF0 then 0x90 else 0x80, hi := if n = 0xF4 then 0x8F else 0xBF }
    else { u with ok := false }
  else { u with due := u.due - 1, lo := 0x80, hi := 0xBF, ok := u.ok && Nat.ble u.lo n && Nat.ble n u.hi }

/-- Is a byte string valid UTF-8 (R275)? -/
def validUtf8 (l : List Byte) : Bool :=
  let u := l.foldl Utf8.next {}
  u.ok && Nat.beq u.due 0

/-- Is a value's length right (R267 step 10)? -/
def ObjRow.lengthOk (row : ObjRow) (n : Nat) : Bool := if row.ty.size = 0 then row.range.fits n else Nat.beq n row.ty.size

/-- Is a value in its table's range (R267 step 11)? -/
def ObjRow.valueOk (row : ObjRow) (l : List Byte) : Bool :=
  match row.ty with
  | .str => validUtf8 l
  | .blob => true
  | .f32 => !(isNan (leNat l)) && row.range.admits 32 (leNat l)
  | ty => row.range.admits (8 * ty.size) (leNat l)

/-! ## The tile's state (R267 step 5, R268) -/

/-- The objects that take writes in every state that serves the Catalogue (R268): those named CAT_, but for the two that R237 and R256 accept in
READY and RUN only, EVT_, LNK_, TW_, and PWR_CHG_RESTART. -/
def earlyWrite (id : Nat) : Bool :=
  (Nat.ble 0x1100 (id / 256) && Nat.ble (id / 256) 0x110F) ||
    [Obj.CAT_FOLIO_UNSEAL, Obj.CAT_FOLIO_COPY, Obj.CAT_FOLIO_CLEAR_RESUME].contains id || [0x12, 0x17, 0x29].contains (id / 65536) || Nat.beq id Obj.PWR_CHG_RESTART

/-- Does the tile's state admit a request of object `id` (R268)? -/
def State.admits (s : State) (write : Bool) (id : Nat) : Bool :=
  match s.tile.state with
  | .ready | .run => true
  | .selftest | .calload | .linkup => !write || earlyWrite id
  | .fault => !write || earlyWrite id || Nat.beq (id / 65536) 0x16 || Nat.beq id Obj.FOL_QUOTE_NONCE
  | _ => false

/-- The objects that the boot ROM serves (R534); of these it takes writes of CAT_STATE_REQUEST and the SEC_ objects (R268). -/
def romServes (write : Bool) (id : Nat) : Bool :=
  Nat.beq id Obj.CAT_STATE_REQUEST || Nat.beq (id / 65536) 0x16 || (!write && (Nat.beq (id / 65536) 0x10 || Nat.beq id Obj.EVT_LOG))

/-- The objects that may be written in READY only (R55, R213, R361, R380, R423, R465, R470, R513, R533, R539, R562). -/
def readyOnly (id : Nat) : Bool :=
  [Obj.LT_POS_MASTER, Obj.LNK_TIME_MASTER, Obj.VA_RES_STAGING, Obj.VA_RES_GALLERY, Obj.VA_RES_LINK_TX, Obj.VA_RES_CATALOGUE, Obj.VA_BORROW_LIMIT,
    Obj.GA_MUX_MODE, Obj.PE_PIN_CFG, Obj.CLK_REF_SEL, Obj.CAL_SPARE_MAP, Obj.CAL_ADC_TRIM, Obj.SEC_SVN_COMMIT, Obj.SEC_OWNER_ENROL,
    Obj.EVT_FAULT_HISTORY_CLEAR].contains id ||
  (Nat.ble (Obj.CLK_BAND_TABLE 0) id && Nat.ble id (Obj.CLK_BAND_TABLE 4))

/-- Conditions on the tile's state that the owning rule of an object adds. -/
def State.ownState (s : State) (id : Nat) (l : List Byte) : Bool :=
  let v := leNat l
  (readyOnly id && decide (s.tile.state ≠ .ready)) ||
  (Nat.beq id Obj.CAT_FOLIO_COPY && !s.fol.hasActive) ||
  (Nat.beq id Obj.CAT_FOLIO_SAVE_RESUME && !s.fol.hasActive) ||
  ((Nat.beq id Obj.CAT_FOLIO_SAVE_RESUME || Nat.beq id Obj.CAL_COMMIT) && s.mramShut) ||
  (Nat.beq id Obj.PWR_CHG_RESTART && !s.chargerRuns) ||
  (Nat.beq id Obj.PWR_SHIP && Nat.beq v 1 && decide (s.pw.path ≠ .input)) ||
  (Nat.beq id Obj.SEC_AUTH_RESPONSE && !s.secure) ||
  ((Nat.beq id Obj.TW_XFER || Nat.beq id Obj.TW_RECOVER) && decide (s.tile.phase ≠ .none)) ||
  (Nat.ble (Obj.LNK_LANE_TEST 0) id && Nat.ble id (Obj.LNK_LANE_TEST 7) && decide (s.tile.state = .run) && holdsTest v) ||
  (Nat.beq id Obj.CAT_STATE_REQUEST && (match v with
    | 1 => decide (s.tile.state ≠ .ready) || decide (s.tile.phase ≠ .none) || !s.fol.hasActive
    | 2 => decide (s.tile.state ≠ .run)
    | 3 => decide (s.tile.state ≠ .ready) || decide (s.tile.phase ≠ .none) || s.posMaster || s.timeMaster
    | 4 => decide (s.tile.state ≠ .fault)
    | _ => false))

/-! ## Authorisation and the Staged Folio's condition (steps 6 and 7) -/

/-- Does a write need owner authorisation in the secure configuration (R538)? -/
def needsAuth (id : Nat) : Bool :=
  [Obj.SEC_FW_IMAGE, Obj.SEC_FW_ACTIVATE, Obj.SEC_SVN_COMMIT, Obj.SEC_AUTH_TIME].contains id ||
    (Nat.beq (id / 65536) 0x28 && Nat.ble 0x2810 (id / 256) && (Nat.beq (id % 256) 2 || Nat.beq (id % 256) 3))

/-- Does a write ask for an open Staged Folio (R222, R236, R237, R241)? -/
def needsOpen (row : ObjRow) (id : Nat) : Bool :=
  decide (row.access = .rwf) || [Obj.CAT_FOLIO_SEAL, Obj.CAT_FOLIO_COPY, Obj.VA_SLOT_CLEAR].contains id

/-! ## Resources (step 9) -/

/-- Is object `id` the kernel that a running long operation reads (R270)? -/
def State.kernelChecking (s : State) (p : Nat → Bool) : Bool :=
  match s.cat.long with
  | some r => (match r.op with | .kernelBlob k _ => p (Obj.KN_KERNEL k) | _ => false)
  | none => false

/-- Is object `id` a kernel slot? -/
def isKernel (id : Nat) : Bool := Nat.ble (Obj.KN_KERNEL 0) id && Nat.ble id (Obj.KN_KERNEL 15)

/-- Does a completed write of object `id` start a long operation (R270)? -/
def startsLong (id : Nat) : Bool :=
  [Obj.CAT_FOLIO_SEAL, Obj.CAT_FOLIO_SAVE_RESUME, Obj.CAL_COMMIT, Obj.SEC_OWNER_ENROL].contains id || isKernel id

/-- Is what a write of object `id` needs in use (R270 and the owning rules)? `whole` tells that the write gives the whole value. -/
def State.ownBusy (s : State) (row : ObjRow) (id : Nat) (l : List Byte) (whole : Bool) : Bool :=
  let v := leNat l
  let e := id / 256 - 0x2810
  let enabled := bit (s.reg Obj.PE_ENABLE) e
  (whole && startsLong id && s.cat.long.isSome) ||
  (decide (row.access = .rwf) && (s.oldLines || s.sealChecking || s.kernelChecking (Nat.beq id))) ||
  (match id with
    | 0x111002 => s.oldLines || s.cu.clear.isSome
    | 0x111004 => s.oldLines || s.sealChecking || s.kernelChecking (fun _ => true)
    | 0x250203 => s.oldLines || s.cu.clear.isSome || s.sealChecking
    | 0x111303 => s.fol.quoting.isSome
    | 0x150003 => s.calBusy
    | 0x150101 => s.calBusy && !(Nat.beq v 1 || Nat.beq v 2)
    | 0x110003 => (Nat.beq v 1 && (s.fol.computing || s.cal.run.isSome)) || (Nat.beq v 3 && (s.cal.commit.isSome || s.cal.run.isSome))
    | 0x260101 | 0x260102 | 0x260103 => Nat.beq (s.reg (Obj.GA_AUX_ENABLE 0)) 1
    | 0x260201 | 0x260202 | 0x260203 => Nat.beq (s.reg (Obj.GA_AUX_ENABLE 1)) 1
    | 0x290111 | 0x290113 => s.tw.xfer.isSome || s.tw.recovering
    | _ => Nat.beq (id / 65536) 0x28 && Nat.ble 0x2810 (id / 256) && (match id % 256 with
        | 3 => (s.pinEngine e).injecting.isSome
        | 4 | 5 | 6 => enabled
        | 8 => Nat.ble 8 (s.pinEngine e).tx.length
        | _ => false))

/-! ## Ranges that owning rules state (step 11) -/

/-- Is a spare map refused (R513)? Entry 8 h + i may name a column of hall h, or none; no two entries name one column. -/
def spareMapRefused (l : List Byte) : Bool :=
  let e := (List.range 64).map (fun i => leAt l (2 * i) 2)
  let used := e.filter (fun x => !(Nat.beq x 0xFFFF))
  (List.range 64).any (fun i => let x := e.getD i 0; !(Nat.beq x 0xFFFF) && !(Nat.beq (x / 1024) (i / 8))) ||
    Nat.blt (distinct used).length used.length

/-- Is an ADC trim word wrong (R528)? -/
def adcTrimBad (w : Nat) : Bool :=
  !(Nat.beq (w / 2 ^ 24 % 128) 0) || (List.range 12).any (fun k => Nat.beq (w / 4 ^ k % 4) 3)

/-- Is some ADC trim word of a byte string wrong? -/
def adcTrimsBad : List Byte → Bool
  | a :: b :: c :: d :: r => adcTrimBad (leNat [a, b, c, d]) || adcTrimsBad r
  | _ => false

/-- Would a reservation make the total of the Active Folio exceed the Vault (R213)? -/
def State.reserveRefused (s : State) (id v : Nat) : Bool :=
  s.fol.hasActive && Nat.blt 6144 (totalReserve (s.cat.vol.setNum id v) s.cat.active)

/-- The preset that channel `c` would have after number `v` is put into object `id`. -/
def State.presetAfter (s : State) (c id v : Nat) : Nat := if Nat.beq id (Obj.AM_CH_PRESET c) then v else s.reg (Obj.AM_CH_PRESET c)

/-- Would a write leave an enabled accumulator of gate 1 or 2 on a slow preset (R413)? -/
def State.accRefused_ (s : State) (id v : Nat) : Bool :=
  let at_ := fun (o : Nat) => if Nat.beq o id then v else s.reg o
  (List.range 8).any (fun i =>
    Nat.beq (at_ (Obj.AM_ACC_ENABLE i)) 1 && (Nat.beq (at_ (Obj.AM_ACC_GATE i)) 1 || Nat.beq (at_ (Obj.AM_ACC_GATE i)) 2) &&
      Nat.blt 1 (at_ (Obj.AM_CH_PRESET (at_ (Obj.AM_ACC_CHANNEL i)))))

/-- The greatest frequency of a detector in mHz under a preset (R417). -/
def gzLimit (preset : Nat) : Nat := 500000000000 / presetD preset

/-- Ranges of the monitor's objects (R402, R413, R417). -/
def State.monitorRefused (s : State) (id v : Nat) : Bool :=
  if Nat.beq id (Obj.AM_CH_PRESET 0) || Nat.beq id (Obj.AM_CH_PRESET 1) then
    let c := id / 256 - 0x2701
    (Nat.beq (s.reg (Obj.AM_CH_MINPHASE c)) 1 && Nat.blt v 3) || s.accRefused_ id v ||
      (Nat.beq (s.reg (Obj.AM_GZ_ENABLE c)) 1 && Nat.blt (gzLimit v) (s.reg (Obj.AM_GZ_FREQ c)))
  else if Nat.beq id (Obj.AM_CH_MINPHASE 0) || Nat.beq id (Obj.AM_CH_MINPHASE 1) then
    Nat.beq v 1 && Nat.blt (s.reg (Obj.AM_CH_PRESET (id / 256 - 0x2701))) 3
  else if Nat.beq id (Obj.AM_GZ_FREQ 0) || Nat.beq id (Obj.AM_GZ_FREQ 1) then
    Nat.beq v 0 || Nat.blt (gzLimit (s.reg (Obj.AM_CH_PRESET (id / 256 - 0x2730)))) v
  else if Nat.ble 0x2710 (id / 256) && Nat.ble (id / 256) 0x2717 && Nat.ble (id % 256) 3 then s.accRefused_ id v
  else false

/-- Reserved words of a converter's slice factors (R528). -/
def sliceFactorsBad (l : List Byte) : Bool := [6, 14, 22, 30].any (fun o => !(Nat.beq (leAt l o 2) 0))

/-- Ranges of the pin engines' objects (R428, R439, R440). -/
def State.pinRefused (s : State) (id : Nat) (l : List Byte) : Bool :=
  let e := id / 256 - 0x2810
  let v := leNat l
  match id % 256 with
  | 2 => Nat.ble (s.pinEngine e).wordCount (v / 65536 % 32) || (pinDecode (v % 65536)).isNone
  | 3 => (pinDecode (v % 65536)).isNone
  | 5 => !(Nat.ble 1 (leAt l 1 1) && Nat.ble (leAt l 1 1) 8) || Nat.blt 1 (leAt l 4 1) || !(Nat.beq (leAt l 5 3) 0)
  | _ => false

/-- Ranges that the owning rule of an object states beyond its table's. -/
def State.ownRange (s : State) (id : Nat) (l : List Byte) : Bool :=
  let v := leNat l
  match id / 65536 with
  | 0x12 => Nat.beq id Obj.LNK_TIME_LOSS && Nat.blt v (s.reg Obj.LNK_TIME_HOLDOVER)
  | 0x13 =>
    if Nat.ble (Obj.CLK_BAND_TABLE 0) id && Nat.ble id (Obj.CLK_BAND_TABLE 4) then
      s.tableRefused (match id % 256 with | 4 => .a | 5 => .b | 6 => .c | 7 => .l | _ => .x) l
    else if Nat.beq id Obj.CLK_RAMP_PROFILE then profileRefused l
    else if Nat.ble (Obj.CLK_OUT_CFG 0) id && Nat.ble id (Obj.CLK_OUT_CFG 3) then s.outRefused v
    else false
  | 0x15 =>
    (Nat.beq id Obj.CAL_SPARE_MAP && spareMapRefused l) ||
      (Nat.beq id Obj.CAL_ADC_TRIM && adcTrimsBad l) ||
      (Nat.beq id Obj.CAL_LANE_TRIM && (List.range 8).any (fun k => !(Nat.beq (leAt l (4 * k + 2) 2) 0)))
  | 0x21 => Nat.beq id Obj.LT_POS_LOSS && Nat.blt v (s.reg Obj.LT_POS_HOLDOVER)
  | 0x25 => Nat.ble Obj.VA_RES_STAGING id && Nat.ble id Obj.VA_RES_CATALOGUE && s.reserveRefused id v
  | 0x27 => s.monitorRefused id v || ((Nat.beq id Obj.AM_SLICE_FACTORS_A || Nat.beq id Obj.AM_SLICE_FACTORS_B) && sliceFactorsBad l)
  | 0x28 => if Nat.beq id Obj.PE_PIN_CFG then s.pinCfgRefused l else Nat.ble 0x2810 (id / 256) && s.pinRefused id l
  | 0x29 =>
    if Nat.beq id (Obj.TW_ADDR 0) || Nat.beq id (Obj.TW_ADDR 1) then addressRefused l (s.wrk (id + 1))
    else if Nat.beq id (Obj.TW_ADDR_MASK 0) || Nat.beq id (Obj.TW_ADDR_MASK 1) then addressRefused (s.cat.work.all (id - 1)) v
    else false
  | _ => false

/-! ## Effects -/

/-- What a write came to: a status at once, a long operation that answers when it ends (R270), or a STOP that is answered after the last line
(R289). -/
inductive Written where
  | now (status : Status)
  | later (op : LongOp)
  | stopping

/-- A value stored under its access class (R264). -/
def State.store (s : State) (row : ObjRow) (id : Nat) (l : List Byte) : State :=
  if row.ty.size = 0 then
    match row.access with
    | .rwf => s.setStagedBlob id l
    | .rwc => s.setWorkBlob id l
    | _ => s.setBlob id l
  else
    match row.access with
    | .rwf => s.setStg id (leNat l)
    | .rwc => s.setWrk id (leNat l)
    | _ => s.setReg id (leNat l)

/-- EVT_LOG_CLEAR (R292). -/
def State.clearLog (s : State) : State :=
  let s1 := s.nextVersion.nextVersion
  let s2 := { s1 with log := { s1.log with slots := [], logVersion := s.cat.version + 1, latestVersion := s.cat.version + 2 } }
  if s.log.mirror then s2.archWrite mirrorBase (zeros 4096) else s2

/-- EVT_FAULT_HISTORY_CLEAR (R562). -/
def State.clearHistory (s : State) : State :=
  let s1 := s.touch Obj.EVT_FAULT_HISTORY
  State.writeRecords { s1 with recs := { s1.recs with history := [] } }

/-- Writes of the Catalogue control and Folio objects (R237-R241, R254, R256). -/
def State.writeFolio (s : State) (row : ObjRow) (id : Nat) (l : List Byte) : Written × State :=
  let one := fun (x : Status × State) => (Written.now x.1, x.2)
  match id with
  | 0x111002 => (.later .sealChecks, s)
  | 0x111003 => one s.unseal
  | 0x111004 => one s.copyFolio
  | 0x111303 => one (s.quoteNonce l)
  | 0x111401 => (match s.saveRefused with
    | some st => (.now st, s)
    | none => (.later .saveResume, s.saveBegin))
  | 0x111402 => (.now .ok, s.clearResume)
  | _ => (.now .ok, s.store row id l)

/-- Writes of the link's objects (R312, R317, R319, R326, R361). -/
def State.writeLink (s : State) (row : ObjRow) (id : Nat) (l : List Byte) : State :=
  let k := id - Obj.LNK_LANE_TEST 0
  match id with
  | 0x120003 => s.retrain .a
  | 0x120004 => s.retrain .b
  | 0x120008 => s.wakePort .a
  | 0x120009 => s.wakePort .b
  | 0x120302 => s.eyeAll
  | 0x120702 => s.setTimeMaster (Nat.beq (leNat l) 1)
  | _ =>
    if Nat.ble (Obj.LNK_LANE_TEST 0) id && Nat.ble id (Obj.LNK_LANE_TEST 7) then s.writeLaneTest (if k < 4 then .a else .b) (k % 4) (leNat l)
    else s.store row id l

/-- A write of CAL_COMMIT in READY or RUN with nothing in progress (R522). -/
def State.commitRequest (s : State) : Written × State :=
  let low := Nat.blt (s.reg Obj.PWR_HOLDUP_ENERGY) 800
  if low && Nat.beq (s.reg Obj.CAL_COMMIT_UNPROTECTED) 0 then (.now .noHoldup, s)
  else (.later .calCommit, (if low then s.event 0x1502 0 else s).commitBegin)

/-- Writes of the security objects (R533-R541). -/
def State.writeSecurity (s : State) (row : ObjRow) (r : Requester) (id : Nat) (l : List Byte) : Written × State :=
  let one := fun (x : Status × State) => (Written.now x.1, x.2)
  let v := leNat l
  match id with
  | 0x160003 => (match s.enrolRefused l with
    | some st => (.now st, s)
    | none => (.later .enrol, s.enrolBegin l))
  | 0x160202 => one (s.authResponse r l)
  | 0x160204 => (.now .ok, s.authRevoke)
  | 0x160301 => one ((s.fwOpen.fwBytes l).fwWritten l)
  | 0x160302 => one (s.fwActivate v)
  | 0x160305 => one (s.svnCommit v)
  | _ => (.now .ok, s.store row id l)

/-- A converter named by AM_CAL_START for which check `k` fails: the first of them (R405). -/
def State.calRefuse (s : State) (v k : Nat) : State :=
  let c := if Nat.beq k 3 then (if bit v 0 && (s.am.chan .a).calUntil.isSome then 0 else 1) else (if bit v 0 then 0 else 1)
  (s.setCalField 8 4 k).event 0x2704 (256 * c + k)

/-- AM_CAL_START (R405). -/
def State.calStart (s : State) (v : Nat) : Status × State :=
  if !s.readyOrRunning then (.state, s.calRefuse v 1)
  else if !s.refReady then (.state, s.calRefuse v 2)
  else if (bit v 0 && (s.am.chan .a).calUntil.isSome) || (bit v 1 && (s.am.chan .b).calUntil.isSome) then (.busy, s.calRefuse v 3)
  else
    let s1 := if bit v 0 then s.calBegin .a else s
    (.ok, if bit v 1 then s1.calBegin .b else s1)

/-- AM_REF_BUFFER (R397). -/
def State.writeRef (s : State) (v : Nat) : State :=
  let s1 := s.setReg Obj.AM_REF_BUFFER v
  let on := if Nat.beq v 1 then some (s.am.refAt.getD s.now) else none
  State.chanSync { s1 with am := { s1.am with refAt := on } }

/-- Writes of a monitor channel's objects (R398, R403). -/
def State.writeChan (s : State) (row : ObjRow) (id : Nat) (l : List Byte) : State :=
  let s1 := s.store row id l
  if Nat.beq (id % 256) 1 then s1.chanSync else s1.chanReset (chanOf (id / 256 - 0x2701))

/-- Writes of an input's factors reset the channel that has it selected (R403). -/
def State.writeInput (s : State) (row : ObjRow) (id : Nat) (l : List Byte) : State :=
  let s1 := s.store row id l
  let i := if id % 256 ≤ 8 then id % 256 - 1 else id % 256 - 9
  if Nat.beq (s.reg (Obj.AM_CH_INPUT (i / 4))) (i % 4) then s1.chanReset (chanOf (i / 4)) else s1

/-- Writes of the monitor's objects. -/
def State.writeMonitor (s : State) (row : ObjRow) (id : Nat) (l : List Byte) : Status × State :=
  let v := leNat l
  let i := id / 256
  let sub := id % 256
  if Nat.beq id Obj.AM_REF_BUFFER then (.ok, s.writeRef v)
  else if Nat.beq id Obj.AM_CAL_START then s.calStart v
  else if Nat.beq id Obj.AM_SYNC_RESET then
    let s1 := if bit v 0 then s.chanReset .a else s
    (.ok, if bit v 1 then s1.chanReset .b else s1)
  else if Nat.beq i 0x2701 || Nat.beq i 0x2702 then (.ok, s.writeChan row id l)
  else if Nat.beq i 0x2703 then (.ok, s.writeInput row id l)
  else if Nat.ble 0x2710 i && Nat.ble i 0x2717 && Nat.beq sub 6 then (.ok, s.trigAcc (i - 0x2710) 9)
  else if Nat.ble 0x2720 i && Nat.ble i 0x2723 then
    if Nat.beq sub 4 then (.ok, s.clearMm (i - 0x2720))
    else
      let s1 := s.store row id l
      (.ok, if Nat.beq (s1.reg (Obj.AM_MM_GATE (i - 0x2720))) 0 then s1.clearMm (i - 0x2720) else s1)
  else (.ok, s.store row id l)

/-- Writes of the pins' and pin engines' objects (R423, R438-R442). -/
def State.writePins (s : State) (row : ObjRow) (id : Nat) (l : List Byte) : Status × State :=
  let v := leNat l
  let e := id / 256 - 0x2810
  match id with
  | 0x280001 => (.ok, (s.setWorkBlob id l).acceptBanks)
  | 0x280002 => (.ok, s.setPinEnable v)
  | 0x280003 => (.ok, s.restartPins v)
  | _ => (match id % 256 with
    | 1 => s.writeProgram e l
    | 2 => (.ok, s.patchWord e (v / 65536 % 32) (v % 65536))
    | 3 => (match pinDecode (v % 65536) with
      | some (op, tick) => (.ok, s.pinInject e op tick (bit v 16))
      | none => (.range, s))
    | 8 => (.ok, s.setPinEngine e { (s.pinEngine e) with tx := (s.pinEngine e).tx ++ [BitVec.ofNat 32 v] })
    | _ => (.ok, s.store row id l))

/-- Writes of the two-wire ports' objects (R449-R459). -/
def State.writeTwoWire (s : State) (row : ObjRow) (id : Nat) (l : List Byte) : Status × State :=
  let v := leNat l
  match id with
  | 0x290003 => s.alertSet v
  | 0x290004 => s.alertClear v
  | 0x290102 | 0x290103 => (.ok, s.changeAddr .i2ca (fun s => s.store row id l))
  | 0x290202 | 0x290203 => (.ok, s.changeAddr .i2cb (fun s => s.store row id l))
  | 0x290111 => s.twXfer l
  | 0x290113 => s.writeRecover v
  | 0x290118 => s.writeWindowOut l
  | _ => (.ok, s.store row id l)

/-- Writes of the Gallery's objects (R374, R380). -/
def State.writeGallery (s : State) (row : ObjRow) (id : Nat) (l : List Byte) : Status × State :=
  let c := (id / 256 - 0x2610) / 16
  if Nat.ble 0x2610 (id / 256) && Nat.beq (id % 256) 0x1E then
    match s.applyRefusal c with
    | some k => (.range, s.event 0x2607 (256 * c + k))
    | none => (.ok, s.gaApply c)
  else if Nat.beq id Obj.GA_MUX_MODE then (.ok, (s.store row id l).gaPump)
  else (.ok, s.store row id l)

/-- CAL_RUN with 1 or 2 (R515). -/
def State.writeRun (s : State) (v : Nat) : Status × State := s.runRequest (Nat.beq v 2) s.fol.hasActive

/-- CAT_STATE_REQUEST, once its conditions of state and resources hold (R289). -/
def State.stateRequest (s : State) (r : Requester) (v : Nat) : Written × State :=
  match v with
  | 1 => (.now s.startRun.1, s.startRun.2)
  | 2 => (.stopping, (s.stopRun r).2)
  | 3 => (.now s.restRequest.1, s.restRequest.2)
  | _ => (.now .ok, s.resetTile)

/-- What a whole value written to object `id` does, once every test of R267 up to step 11 has passed. -/
def State.effect (s : State) (row : ObjRow) (r : Requester) (id : Nat) (l : List Byte) : Written × State :=
  let one := fun (x : Status × State) => (Written.now x.1, x.2)
  let v := leNat l
  match id / 65536 with
  | 0x11 => if Nat.beq id Obj.CAT_STATE_REQUEST then s.stateRequest r v else s.writeFolio row id l
  | 0x12 => (.now .ok, s.writeLink row id l)
  | 0x13 =>
    if Nat.beq id Obj.CLK_REF_SEL then (.now .ok, s.selectRef v)
    else if Nat.beq id Obj.CLK_X_VCO then (.now .ok, s.retuneX v)
    else (.now .ok, s.store row id l)
  | 0x14 =>
    if Nat.beq id Obj.PWR_CHG_RESTART then one (s.chargeRestart v)
    else if Nat.beq id Obj.PWR_SHIP then one ((s.setReg id v).writeShip v)
    else (.now .ok, s.powerStep (fun s => s.store row id l))
  | 0x15 =>
    if Nat.beq id Obj.CAL_COMMIT then s.commitRequest
    else if Nat.beq id Obj.CAL_RUN then one (s.writeRun v)
    else (.now .ok, s.store row id l)
  | 0x16 => s.writeSecurity row r id l
  | 0x17 =>
    if Nat.beq id Obj.EVT_LOG_CLEAR then (.now .ok, s.clearLog)
    else if Nat.beq id Obj.EVT_FAULT_HISTORY_CLEAR then (.now .ok, s.clearHistory)
    else (.now .ok, s.store row id l)
  | 0x21 => if Nat.beq id Obj.LT_POS_MASTER then (.now .ok, s.setPosMaster (Nat.beq v 1)) else (.now .ok, s.store row id l)
  | 0x24 => if isKernel id then (.later (.kernelBlob (id - Obj.KN_KERNEL 0) l), s) else (.now .ok, s.store row id l)
  | 0x25 => if Nat.beq id Obj.VA_SLOT_CLEAR then (.now .ok, s.clearBegin) else (.now .ok, s.store row id l)
  | 0x26 => one (s.writeGallery row id l)
  | 0x27 => one (s.writeMonitor row id l)
  | 0x28 => one (s.writePins row id l)
  | 0x29 => one (s.writeTwoWire row id l)
  | _ => (.now .ok, s.store row id l)

/-- A run or self-calibration asked for in a state that does not admit the write is still recorded as refused (R405, R515). -/
def State.noteRefused (s : State) (id : Nat) (l : List Byte) : State :=
  let v := leNat l
  if Nat.beq id Obj.CAL_RUN && Nat.beq l.length 1 && (Nat.beq v 1 || Nat.beq v 2) then (s.writeRun v).2
  else if Nat.beq id Obj.AM_CAL_START && Nat.beq l.length 1 && Nat.ble 1 v && Nat.ble v 3 then (s.calStart v).2
  else s

end Sys2Proof.Machine
end

