-- ==== Sys2Proof/Machine/Catalogue.lean ====
section
/-! DEFINITION. The Catalogue (10): how requests arrive, in what order they are tested, what they answer, and the I2CB mailbox. -/

namespace Sys2Proof

/-- Does a request come by the mailbox? -/
def Requester.mailbox (r : Requester) : Bool := match r.path with | .i2cb => true | .vc0 _ => false

/-- Was a request sent to a chain broadcast or to the installation broadcast (R271)? -/
def Requester.broadcast (r : Requester) : Bool := !r.mailbox && Nat.beq (r.dest % 64) 63

/-- The longest request payload of the path (R272, R286). -/
def Requester.payloadLimit (r : Requester) : Nat := if r.mailbox then 232 else 1024

/-- The longest value that a response can carry on the path (R273). -/
def Requester.valueLimit (r : Requester) : Nat := if r.mailbox then 212 else 1004

end Sys2Proof

namespace Sys2Proof.Machine

/-- Who holds a SET-SEG transfer (R278). -/
def originOf (r : Requester) : Source := if r.mailbox then .mailbox else .addr r.source

/-! ## Reading a request (R272, R276, R280) -/

/-- A length rounded up to a multiple of 4. -/
def ceil4 (n : Nat) : Nat := (n + 3) / 4 * 4

/-- Is some byte of a list not 0? -/
def anySet (l : List Byte) : Bool := l.any (fun b => decide (b ≠ 0))

/-- The object that a request names. -/
def payloadId (l : List Byte) : Nat := 256 * leAt l 0 2 + leAt l 2 1

/-- A GET's payload (R272). -/
def readGet (r : Requester) (l : List Byte) : CatOp :=
  let flags := leAt l 3 1
  if Nat.beq l.length 8 && Nat.beq (leAt l 4 4) 0 then .get (payloadId l) (bit flags 0) (Nat.blt 1 flags || Nat.blt 0 r.word)
  else .malformed 1 (payloadId l) (bit flags 0)

/-- A SET's payload (R272). -/
def readSetRequest (r : Requester) (l : List Byte) : CatOp :=
  let flags := leAt l 3 1
  let n := leAt l 4 4
  if Nat.ble 8 l.length && Nat.beq l.length (8 + ceil4 n) && Nat.ble l.length r.payloadLimit then
    .set (payloadId l) (bit flags 0) (Nat.blt 1 flags || Nat.blt 0 r.word || anySet (l.drop (8 + n))) ((l.drop 8).take n)
  else .malformed 2 (payloadId l) (bit flags 0)

/-- A GET-SEG's payload (R276). -/
def readGetSeg (r : Requester) (l : List Byte) : CatOp :=
  let flags := leAt l 3 1
  if Nat.beq l.length 16 then
    .getSeg (payloadId l) (bit flags 0) (Nat.blt 1 flags || Nat.blt 0 (leAt l 4 4) || Nat.blt 0 (leAt l 12 4)) r.word (leAt l 8 4)
  else .malformed 3 (payloadId l) (bit flags 0)

/-- A SET-SEG's payload (R276). -/
def readSetSegment (r : Requester) (l : List Byte) : CatOp :=
  let flags := leAt l 3 1
  let n := leAt l 8 4
  if Nat.ble 16 l.length && Nat.beq l.length (16 + ceil4 n) && Nat.ble l.length r.payloadLimit then
    .setSeg (payloadId l) (bit flags 0) (bit flags 1) (Nat.blt 3 flags || Nat.blt 0 (leAt l 12 4) || anySet (l.drop (16 + n))) r.word
      (leAt l 4 4) ((l.drop 16).take n)
  else .malformed 4 (payloadId l) (bit flags 0)

/-- A LIST's payload (R280). -/
def readList (r : Requester) (l : List Byte) : CatOp :=
  let flags := leAt l 3 1
  if Nat.beq l.length 8 then
    .list (payloadId l) (bit flags 0) (bit flags 1) (Nat.blt 3 flags || Nat.blt 0 (leAt l 6 2) || Nat.blt 0 r.word) (leAt l 4 2)
  else .malformed 5 (payloadId l) false

/-- The request that a payload of a request type makes. -/
def CatOp.read (r : Requester) (type : Nat) (l : List Byte) : CatOp :=
  match type with
  | 1 => readGet r l
  | 2 => readSetRequest r l
  | 3 => readGetSeg r l
  | 4 => readSetSegment r l
  | _ => readList r l

/-- The request type, 0x01 to 0x05. -/
def CatOp.rtype : CatOp → Nat
  | .get .. => 1
  | .set .. => 2
  | .getSeg .. => 3
  | .setSeg .. => 4
  | .list .. => 5
  | .malformed t _ _ => t

/-- The object it names. -/
def CatOp.id : CatOp → Nat
  | .get i _ _ => i
  | .set i _ _ _ => i
  | .getSeg i _ _ _ _ => i
  | .setSeg i _ _ _ _ _ _ => i
  | .list i _ _ _ _ => i
  | .malformed _ i _ => i

/-- Its STAGED flag. -/
def CatOp.staged : CatOp → Bool
  | .get _ b _ => b
  | .set _ b _ _ => b
  | .getSeg _ b _ _ _ => b
  | .setSeg _ b _ _ _ _ _ => b
  | .list .. => false
  | .malformed _ _ b => b

/-- Does it write? -/
def CatOp.writes (x : CatOp) : Bool := Nat.beq x.rtype 2 || Nat.beq x.rtype 4

/-- The answer that refuses a request. -/
def CatOp.refuse (x : CatOp) (st : Status) : Answer := { status := st, rtype := x.rtype, id := x.id, staged := x.staged }

/-- The payload of a SET of object `id` to `value` (R272). -/
def setPayload (id : Nat) (value : List Byte) : List Byte :=
  pad4 (leBytes 2 (id / 256) ++ leBytes 1 (id % 256) ++ [0] ++ leBytes 4 value.length ++ value)

/-- The payload of a GET of object `id`. -/
def getPayload (id : Nat) : List Byte := leBytes 2 (id / 256) ++ leBytes 1 (id % 256) ++ [0] ++ leBytes 4 0

/-! ## Answers (R269, R273, R282, R285, R290) -/

/-- A byte of the mailbox (R282). -/
def State.mbByte (s : State) (a : Nat) : Byte :=
  let c : Nat := match s.cat.mbState with | .idle => 0 | .busy => 1 | .done => 2 | .rejected => 3
  if a = 1 then BitVec.ofNat 8 c
  else if a = 2 then BitVec.ofNat 8 s.cat.mbSeq.toNat
  else if a = 3 then BitVec.ofNat 8 (s.cat.mbSeq.toNat / 256)
  else if a < 16 then 0
  else storeGet (fun _ => 0) s.cat.mbBytes a

/-- Mailbox bytes written from `a` up. -/
def mbWrite (m : Store Byte) : Nat → List Byte → Store Byte
  | _, [] => m
  | a, b :: r => mbWrite (storePut (fun _ => 0) m a b) (a + 1) r

/-- MB_STATE becomes DONE or REJECTED: MB_SEQ advances and the alert cause MB_DONE is latched (R282, R459). -/
def State.mbEnd (s : State) (v : MbState) : State := State.alert { s with cat := { s.cat with mbState := v, mbSeq := s.cat.mbSeq + 1 } } 0

/-- A RESPONSE written to the mailbox (R285, R286). -/
def State.mbAnswer (s : State) (r : Requester) (payload : List Byte) : State :=
  let head := [BitVec.ofNat 8 6, BitVec.ofNat 8 r.tag] ++ leBytes 2 payload.length ++ leBytes 4 r.word
  State.mbEnd { s with cat := { s.cat with mbBytes := mbWrite s.cat.mbBytes 0x10 (head ++ payload) } } .done

/-- An answer counted and sent; a broadcast is not answered (R271, R273, R290). -/
def State.answer (s : State) (r : Requester) (a : Answer) : State :=
  let s1 := if a.status = .ok then s else (s.bump Obj.CAT_ERRORS).setReg Obj.CAT_LAST_ERROR (256 * a.id + a.status.code)
  match r.path with
  | .vc0 p =>
    if r.broadcast then s1
    else s1.sendOn p { s1.newFrame r.source 0 0x06 a.payload with tag := r.tag, offset := r.word }
  | .i2cb => s1.mbAnswer r a.payload

/-! ## The tests of R267 -/

/-- Steps 2 to 4: index, subindex, access class; `write` and `seg` tell the kind of request. -/
def State.reach (s : State) (write seg : Bool) (id : Nat) : Except Status ObjRow :=
  if s.romFault && !(romServes write id) then .error .noObject
  else if !(Obj.indexDefined (id / 256)) then .error .noObject
  else match Obj.find id with
    | none => .error .noSub
    | some row =>
      let barred := if write then row.access = .ro ∨ row.access = .const else row.access = .wo
      if barred ∨ (seg = true ∧ row.ty.size ≠ 0) then .error .denied else .ok row

/-- Does a request name a descriptor of a defined index (R263)? -/
def State.descriptor (s : State) (write : Bool) (id : Nat) : Bool :=
  Nat.beq (id % 256) 0 && Obj.indexDefined (id / 256) && !(s.romFault && !(romServes write id))

/-- The bank that a write of an object goes to, as a transfer names it (R234, R264). -/
def toStaged (row : ObjRow) : Bool := decide (row.access = .rwf)

/-- Steps 5 to 7 of a write. -/
def State.writeBarred (s : State) (r : Requester) (row : ObjRow) (id : Nat) (l : List Byte) : Option Status :=
  if !(s.admits true id) || s.ownState id l then some .state
  else if s.secure && needsAuth id && !(s.authorised r) then some .auth
  else if needsOpen row id && decide (s.fol.staging ≠ .opened) then some .sealed
  else none

/-- Steps 10 and 11 of a whole value. -/
def State.valueBarred (s : State) (row : ObjRow) (id : Nat) (l : List Byte) : Option Status :=
  if !(row.lengthOk l.length) then some .length
  else if !(row.valueOk l) || s.ownRange id l then some .range
  else none

/-! ## Completing a write -/

/-- VERSION of a value just written (R273, R274). -/
def State.writtenVersion (s : State) (row : ObjRow) (id : Nat) (st : Status) : Nat :=
  if st = .ok then (s.objVersion row id (toStaged row)).toNat else 0

/-- A write of a BLOB that the tile only takes in is a write too (R274). -/
def State.touchTaken (s : State) (row : ObjRow) (id : Nat) (st : Status) : State :=
  if row.access = .wo ∧ row.ty.size = 0 ∧ st = .ok then s.touch id else s

/-- A write that has come to its end answered; `total` is TOTAL. -/
def State.finish (s : State) (r : Requester) (row : ObjRow) (rtype id : Nat) (staged : Bool) (total : Nat) (st : Status) : State :=
  let s1 := s.touchTaken row id st
  s1.answer r { status := st, rtype := rtype, id := id, staged := staged, total := total, version := s1.writtenVersion row id st }

/-- The status of the last segment of a completed transfer (R278). -/
def State.noteCompleted (s : State) (id : Nat) (staged : Bool) (src : Source) (st : Status) : State :=
  let f := fun (x : Transfer) => if x.id = id ∧ x.staged = staged ∧ x.source = src then { x with lastStatus := st } else x
  { s with cat := { s.cat with completed := s.cat.completed.map f } }

/-- The state requests that are answered before they act (R289): REST and RESET. -/
def answersFirst (id : Nat) (l : List Byte) : Bool := Nat.beq id Obj.CAT_STATE_REQUEST && (Nat.beq (leNat l) 3 || Nat.beq (leNat l) 4)

/-- A whole value carried out (step 12) and answered, at once or, for a long operation or a STOP, later (R270, R289). -/
def State.complete (s : State) (r : Requester) (row : ObjRow) (rtype id : Nat) (staged : Bool) (total : Nat) (l : List Byte) : State :=
  let (w, s1) := s.effect row r id l
  match w with
  | .now st =>
    if answersFirst id l && decide (st = .ok) then ((s.finish r row rtype id staged total .ok).effect row r id l).2
    else
      let s2 := if Nat.beq rtype 4 then s1.noteCompleted id (toStaged row) (originOf r) st else s1
      s2.finish r row rtype id staged total st
  | .later op => { s1 with cat := { s1.cat with long := some { op := op, sender := r, rtype := rtype, id := id, staged := staged, started := s.now } } }
  | .stopping => s1

/-! ## GET and SET (R272, R273) -/

/-- Is what a read of an object needs in use (R254, R442, R541)? -/
def State.readBusy (s : State) (id : Nat) : Bool :=
  (Nat.beq id Obj.FOL_QUOTE && s.fol.quoting.isSome) || (Nat.beq id Obj.SEC_AUTH_CHALLENGE && s.lockedOut) ||
    (Nat.ble 0x2810 (id / 256) && Nat.blt (id / 256) 0x2830 && Nat.beq (id % 256) 9 && (s.pinEngine (id / 256 - 0x2810)).rx.isEmpty)

/-- What a read does before its value is taken: a fresh challenge (R541). -/
def State.beforeRead (s : State) (id : Nat) : State :=
  if Nat.beq id Obj.SEC_AUTH_CHALLENGE then
    let (c, s1) := s.newChallenge
    s1.setBlob id c
  else s

/-- What a read does after its value is taken: PE_n_RX loses its oldest word (R442). -/
def State.afterRead (s : State) (id : Nat) : State :=
  if Nat.ble 0x2810 (id / 256) && Nat.blt (id / 256) 0x2830 && Nat.beq (id % 256) 9 then
    let e := id / 256 - 0x2810
    s.setPinEngine e { (s.pinEngine e) with rx := (s.pinEngine e).rx.drop 1 }
  else s

/-- A GET (R267, R273). -/
def State.serveGet (s : State) (r : Requester) (id : Nat) (staged bad : Bool) : State :=
  let no := fun st => s.answer r { status := st, rtype := 1, id := id, staged := staged }
  if s.descriptor false id then
    if !(s.admits false id) then no .state
    else if bad || staged then no .range
    else s.answer r { status := .ok, rtype := 1, id := id, total := 1, bytes := leBytes 1 (Obj.highestSub (id / 256)) }
  else match s.reach false false id with
    | .error st => no st
    | .ok row =>
      if !(s.admits false id) then no .state
      else if s.readBusy id then no .busy
      else
        let n := s.objLen row id staged
        if r.valueLimit < n then s.answer r { status := .length, rtype := 1, id := id, staged := staged, total := n }
        else if bad || (staged && !(toStaged row)) then no .range
        else
          let s1 := s.beforeRead id
          let a : Answer := { status := .ok, rtype := 1, id := id, staged := staged, bytes := s1.objBytes row id staged,
                              version := (s1.objVersion row id staged).toNat, total := n }
          (s1.afterRead id).answer r a

/-- Is a SET-SEG transfer open on an object and bank (R279)? -/
def State.transferOpen (s : State) (id : Nat) (staged : Bool) : Bool := s.cat.transfers.any (fun x => decide (x.id = id ∧ x.staged = staged))

/-- A SET (R267, R275). -/
def State.serveSet (s : State) (r : Requester) (id : Nat) (staged bad : Bool) (l : List Byte) : State :=
  let no := fun (s : State) st => s.answer r { status := st, rtype := 2, id := id, staged := staged }
  if s.descriptor true id then no s .denied
  else match s.reach true false id with
    | .error st => no s st
    | .ok row =>
      match s.writeBarred r row id l with
      | some st => no (if st = .state then s.noteRefused id l else s) st
      | none =>
        if s.ownBusy row id l true || s.transferOpen id (toStaged row) then no s .busy
        else if !(row.lengthOk l.length) then no s .length
        else if bad || (staged && !(toStaged row)) then no s .range
        else match s.valueBarred row id l with
          | some st => no s st
          | none => s.complete r row 2 id staged 0 l

/-! ## Segmented access (R276-R279) -/

/-- A GET-SEG (R277). -/
def State.serveGetSeg (s : State) (r : Requester) (id : Nat) (staged bad : Bool) (off len : Nat) : State :=
  let no := fun st => s.answer r { status := st, rtype := 3, id := id, staged := staged }
  if s.descriptor false id then no .denied
  else match s.reach false true id with
    | .error st => no st
    | .ok row =>
      if !(s.admits false id) then no .state
      else if s.readBusy id then no .busy
      else if bad || (staged && !(toStaged row)) then no .range
      else
        let s1 := if off = 0 then s.beforeRead id else s
        let n := s1.objLen row id staged
        if n < off then no .range
        else
          let b := s1.objPart row id staged off (Nat.min len r.valueLimit)
          s1.answer r { status := .ok, rtype := 3, id := id, staged := staged, last := Nat.beq (off + b.length) n, bytes := b,
                        version := (s1.objVersion row id staged).toNat, total := n }

/-- Does a transfer belong to this object, bank and source (R278)? -/
def Transfer.is (x : Transfer) (id : Nat) (staged : Bool) (src : Source) : Bool := decide (x.id = id ∧ x.staged = staged ∧ x.source = src)

/-- The open transfers replaced, with CAT_SEG_OPEN. -/
def State.setTransfers (s : State) (l : List Transfer) : State :=
  State.setReg { s with cat := { s.cat with transfers := l } } Obj.CAT_SEG_OPEN l.length

/-- TOTAL that leaves the length open (R276). -/
def totalOpen : Nat := 0xFFFFFFFF

/-- Is a segment at a non-zero offset the last one accepted, sent again (R278)? -/
def Transfer.repeated (x : Transfer) (off len : Nat) : Bool := Nat.blt 0 off && Nat.beq x.lastOffset off && Nat.beq x.lastLen len

/-- Does a segment that brings a transfer to `n` bytes complete it, under its TOTAL and LAST (R278)? -/
def completes (total n : Nat) (last : Bool) : Bool := if total = totalOpen then last else Nat.beq n total

/-- Is a segment's length or LAST against the rules of R278, the transfer staying open? -/
def segmentBad (total n len : Nat) (last : Bool) : Bool :=
  (!(Nat.beq total totalOpen) && (Nat.blt total n || (decide (last = true) != Nat.beq n total))) || (!last && !(Nat.beq (len % 4) 0))

/-- Bytes of SEC_FW_IMAGE as they are accepted (R535). -/
def State.imageBytes (s : State) (id off : Nat) (l : List Byte) : State :=
  if Nat.beq id Obj.SEC_FW_IMAGE then (if off = 0 then s.fwOpen else s).fwBytes l else s

/-- A segment accepted: the transfer so far, kept open. -/
def State.holdSegment (s : State) (x : Transfer) (src : Source) : State :=
  let rest := s.cat.transfers.filter (fun y => !(y.is x.id x.staged src))
  let done := s.cat.completed.filter (fun y => !(y.is x.id x.staged src))
  let s1 := if x.lastOffset = 0 then { s with cat := { s.cat with completed := done } } else s
  s1.setTransfers (rest ++ [x])

/-- A transfer that has ended (R278): it is open no longer, and its last segment is remembered with the status to answer again. -/
def State.endTransfer (s : State) (x : Transfer) (src : Source) : State :=
  let rest := s.cat.transfers.filter (fun y => !(y.is x.id x.staged src))
  let done := s.cat.completed.filter (fun y => !(y.is x.id x.staged src))
  State.setTransfers { s with cat := { s.cat with completed := { x with data := [], total := x.data.length } :: done } } rest

/-- A transfer that exceeds its object's length ends (R278). -/
def State.dropTransfer (s : State) (id : Nat) (staged : Bool) (src : Source) : State :=
  let s1 := s.setTransfers (s.cat.transfers.filter (fun y => !(y.is id staged src)))
  if Nat.beq id Obj.SEC_FW_IMAGE && s.cat.transfers.any (fun y => y.is id staged src) then { s1 with sec := s1.sec.settled } else s1

/-- SEC_FW_IMAGE completed: its bytes are in the slot already (R535). -/
def State.completeSegment (s : State) (r : Requester) (row : ObjRow) (id : Nat) (staged : Bool) (l : List Byte) : State :=
  if Nat.beq id Obj.SEC_FW_IMAGE then
    let (st, s1) := s.fwWritten l
    (s1.noteCompleted id (toStaged row) (originOf r) st).finish r row 4 id staged l.length st
  else s.complete r row 4 id staged l.length l

/-- A segment that has passed steps 1 to 8, in or opening the transfer whose bytes so far are `old` (R278). -/
def State.takeSegment (s : State) (r : Requester) (row : ObjRow) (id : Nat) (staged last bad : Bool) (off total : Nat) (old data : List Byte) : State :=
  let src := originOf r
  let l := old ++ data
  let no := fun (s : State) st => s.answer r { status := st, rtype := 4, id := id, staged := staged, total := old.length }
  let excess := Nat.blt row.maxLen l.length || (Nat.beq off 0 && !(Nat.beq total totalOpen) && Nat.blt row.maxLen total)
  let full := completes total l.length last
  if s.ownBusy row id l full then no s .busy
  else if excess then no (if off = 0 then s else s.dropTransfer id (toStaged row) src) .length
  else if segmentBad total l.length data.length last then no s .length
  else if bad || (staged && !(toStaged row)) then no s .range
  else
    let x : Transfer :=
      { id := id, staged := toStaged row, source := src, total := total, data := l, lastOffset := off, lastLen := data.length, lastStatus := .ok, lastAt := s.now }
    let s1 := s.imageBytes id off data
    if full then
      match s1.valueBarred row id l with
      | some st => (s1.endTransfer { x with lastStatus := st } src).finish r row 4 id staged l.length st
      | none => (s1.endTransfer { x with lastStatus := .busy } src).completeSegment r row id staged l
    else (s1.holdSegment x src).answer r { status := .ok, rtype := 4, id := id, staged := staged, total := l.length }

/-- A SET-SEG (R278). -/
def State.serveSetSeg (s : State) (r : Requester) (id : Nat) (staged last bad : Bool) (off total : Nat) (data : List Byte) : State :=
  let src := originOf r
  let no := fun (s : State) st => s.answer r { status := st, rtype := 4, id := id, staged := staged }
  if s.descriptor true id then no s .denied
  else match s.reach true true id with
    | .error st => no s st
    | .ok row =>
      match s.writeBarred r row id data with
      | some st => no s st
      | none =>
        let mine := fun (x : Transfer) => x.is id (toStaged row) src
        let again := fun (x : Transfer) (n : Nat) =>
          s.answer r { status := x.lastStatus, rtype := 4, id := id, staged := staged, total := n, version := s.writtenVersion row id x.lastStatus }
        if off = 0 then
          let others := s.cat.transfers.filter (fun x => !(mine x))
          if others.any (fun x => decide (x.id = id ∧ x.staged = toStaged row)) || Nat.ble 8 others.length then no s .busy
          else s.takeSegment r row id staged last bad off total [] data
        else match s.cat.transfers.find? mine, s.cat.completed.find? mine with
          | some x, _ =>
            if x.repeated off data.length then
              s.answer r { status := x.lastStatus, rtype := 4, id := id, staged := staged, total := x.data.length }
            else if Nat.beq off x.data.length && Nat.beq total x.total then s.takeSegment r row id staged last bad off total x.data data
            else s.answer r { status := .segment, rtype := 4, id := id, staged := staged, total := x.data.length }
          | none, some x => if x.repeated off data.length then again x x.total else no s .segment
          | none, none => no s .segment

/-! ## LIST (R280, R281) -/

/-- The letters of the bands in the order of their indices. -/
def bandLetter (k : Nat) : String := ["V", "B", "T", "G", "O", "D", "C", "N"].getD k ""

/-- The name of object `id`, which row `row` defines. -/
def objName (row : ObjRow) (id : Nat) : String :=
  let k := id % 256 - row.sub
  let i := (id / 256 - row.index) / row.stride
  let ab := fun (n : Nat) => if n = 0 then "A" else "B"
  let after := fun (n : Nat) => String.ofList (row.name.toList.drop n)
  let index := id / 256
  if index = 0x2003 ∨ (index = 0x2202 ∧ row.subs = 8) then row.name ++ "_" ++ bandLetter k
  else if index = 0x2105 ∧ 1 ≤ id % 256 ∧ id % 256 ≤ 8 then row.name ++ "_" ++ toString ((id % 256 - 1) % 4)
  else if index = 0x2401 ∨ (index = 0x1302 ∧ row.subs = 4) ∨ index = 0x2703 then row.name ++ "_" ++ toString k
  else if index = 0x1204 ∧ row.subs = 8 then row.name ++ "_" ++ ab (k / 4) ++ toString (k % 4)
  else if index = 0x1300 ∧ row.name = "CLK_BAND_TABLE" then row.name ++ "_" ++ ["A", "B", "C", "L", "X"].getD (id % 256 - 4) ""
  else if index = 0x2601 ∨ index = 0x2602 then "GA_AUX" ++ toString (index - 0x2601) ++ after 6
  else if index = 0x2701 ∨ index = 0x2702 then "AM_CH" ++ ab (index - 0x2701) ++ after 5
  else if 0x2710 ≤ index ∧ index ≤ 0x2717 then "AM_ACC" ++ toString (index - 0x2710) ++ after 6
  else if 0x2720 ≤ index ∧ index ≤ 0x2723 then "AM_MM" ++ toString (index - 0x2720) ++ after 5
  else if 0x2730 ≤ index ∧ index ≤ 0x2731 then "AM_GZ" ++ ab (index - 0x2730) ++ after 5
  else if 0x2810 ≤ index ∧ index ≤ 0x282F then "PE_" ++ toString i ++ after 3
  else if index = 0x2901 ∨ index = 0x2902 then "TW_" ++ ab (index - 0x2901) ++ after 2
  else row.name

/-- The most entries a LIST response holds (R281). -/
def listLimit (r : Requester) (names : Bool) : Nat := if r.mailbox then (if names then 4 else 12) else (if names then 20 else 62)

/-- An entry (R281). -/
def listEntry (names : Bool) (x : Nat × ObjRow) : List Byte :=
  let row := x.2
  leBytes 2 (x.1 / 256) ++ leBytes 1 (x.1 % 256) ++ leBytes 1 row.ty.code ++ leBytes 1 row.access.code ++ leBytes 1 row.persist.code ++ zeros 2 ++
    leBytes 4 row.maxLen ++ zeros 4 ++
    (if names then (let n := (ascii (objName row x.1)).take 32; n ++ zeros (32 - n.length)) else [])

/-- The objects that LIST reports: while the boot ROM serves, its restricted set alone. -/
def State.listed (s : State) : List (Nat × ObjRow) :=
  if s.romFault then Obj.all.filter (fun x => romServes false x.1 || romServes true x.1) else Obj.all

/-- A LIST (R280, R281). -/
def State.serveList (s : State) (r : Requester) (id : Nat) (names folioOnly bad : Bool) (max : Nat) : State :=
  if !(s.admits false id) then s.answer r { status := .state, rtype := 5, id := id }
  else if bad then s.answer r { status := .range, rtype := 5, id := id }
  else
    let first := if id % 256 = 0 then id + 1 else id
    let l := s.listed.filter (fun x => Nat.ble first x.1 && (!folioOnly || decide (x.2.persist = .f)))
    let n := if max = 0 then listLimit r names else Nat.min max (listLimit r names)
    let here := l.take n
    let next := match l.drop n with | x :: _ => 256 * x.1 | [] => 0xFFFFFFFF
    let b := leBytes 4 next ++ leBytes 2 here.length ++ zeros 2 ++ here.flatMap (listEntry names)
    s.answer r { status := .ok, rtype := 5, id := id, total := 1088, bytes := b }

/-! ## The queue (R268, R269, R271) -/

/-- A request carried out (R269, R290). -/
def State.serve (s : State) (q : Request) : State :=
  let s1 := s.bumpBy 64 Obj.CAT_REQUESTS 1
  let r := q.sender
  match q.op with
  | .get id st bad => s1.serveGet r id st bad
  | .set id st bad l => s1.serveSet r id st bad l
  | .getSeg id st bad off n => s1.serveGetSeg r id st bad off n
  | .setSeg id st last bad off total l => s1.serveSetSeg r id st last bad off total l
  | .list id names f bad max => s1.serveList r id names f bad max
  | .malformed .. => s1.answer r (q.op.refuse .length)

/-- The queue served from its front: all of it, or up to the request for which `stop` holds. -/
def State.serveUntil (stop : Request → Bool) : Nat → State → State
  | 0, s => s
  | n + 1, s =>
    match s.cat.queue with
    | [] => s
    | q :: l =>
      let s1 := State.serve { s with cat := { s.cat with queue := l } } q
      if stop q then s1 else State.serveUntil stop n s1

/-- The whole queue served. -/
def State.serveAll (s : State) : State := State.serveUntil (fun _ => false) (s.cat.queue.length + 1) s

/-- A request put into the queue, or refused because it is full (R269). -/
def State.queueRequest (s : State) (q : Request) : State :=
  if 32 ≤ s.cat.queue.length then ((s.bump Obj.CAT_QUEUE_FULL).event 0x1111 0).answer q.sender (q.op.refuse .busy)
  else { s with cat := { s.cat with queue := s.cat.queue ++ [q] } }

/-- Does the tile answer requests on VC0 (R18, R552)? -/
def State.servesVc0 (s : State) : Bool :=
  match s.tile.state with
  | .ready => decide (s.tile.phase = .none)
  | .run => true
  | .fault => decide (s.tile.server = .firmware)
  | _ => false

/-- A request that has arrived on VC0 in a frame whose bytes are `raw` (R269, R271, R552). -/
def State.arriveVc0 (s : State) (p : Port) (raw : List Byte) (q : Request) : State :=
  if q.sender.broadcast then
    if !s.servesVc0 then s
    else if q.op.writes then s.queueRequest q
    else s.bump Obj.CAT_BROADCAST_DISCARDED
  else if s.servesVc0 then s.queueRequest q
  else s.nak p raw 8

/-! ## The mailbox (R282-R287) -/

/-- The request that the mailbox holds (R286). -/
def State.mbRequest (s : State) : Nat × Request :=
  let at_ := fun (o n : Nat) => leNat ((List.range n).map (fun k => s.mbByte (o + k)))
  let r : Requester := { path := .i2cb, source := 0, dest := 0, tag := at_ 0x11 1, word := at_ 0x14 4 }
  let payload := (List.range (Nat.min 232 (at_ 0x12 2))).map (fun k => s.mbByte (0x18 + k))
  (at_ 0x10 1, ⟨r, CatOp.read r (at_ 0x10 1) payload⟩)

/-- EXECUTE (R285, R286): the request queued, or rejected for its head. -/
def State.execute (s : State) : State :=
  let (type, q) := s.mbRequest
  let len := leNat [s.mbByte 0x12, s.mbByte 0x13]
  if s.cat.mbState = .busy ∨ s.tile.state = .off ∨ s.tile.state = .boot then s
  else if type = 0 ∨ 5 < type ∨ 232 < len ∨ len % 4 ≠ 0 then ((s.mbEnd .rejected).bump Obj.CAT_MB_REJECTED).event 0x1112 0
  else State.queueRequest { s with cat := { s.cat with mbState := .busy } } q

/-- The mailbox request answered, after those queued before it (R285, R287). -/
def State.mailboxDone (s : State) : State :=
  if s.tile.state ≠ .rest ∧ s.cat.mbState = .busy then State.serveUntil (fun q => q.sender.mailbox) (s.cat.queue.length + 1) s else s

/-- What one byte of a write transfer does to the mailbox: bytes kept, EXECUTE, a byte ignored while BUSY (R282-R284). -/
structure MbWriting where
  bytes : Store Byte
  pointer : Nat
  run : Bool := false
  ignored : Bool := false

/-- The next byte of a write transfer. -/
def MbWriting.byte (busy : Bool) (w : MbWriting) (b : Byte) : MbWriting :=
  let a := w.pointer
  let w1 := { w with pointer := (a + 1) % 256 }
  if 0 < a ∧ a < 16 then w1
  else if busy then { w1 with ignored := true }
  else if a = 0 then { w1 with run := w.run || decide (b = 1) }
  else { w1 with bytes := storePut (fun _ => 0) w.bytes a b }

/-- A write transfer to I2CB (R283, R284). -/
def State.mailboxWrite (s : State) (addr : Nat) (l : List Byte) : State :=
  if s.twServes && s.twAnswers .i2cb addr then
    let s1 := s.twAddressed .i2cb
    match l with
    | [] => s1
    | b :: d =>
      let w := d.foldl (MbWriting.byte (decide (s.cat.mbState = .busy))) { bytes := s.cat.mbBytes, pointer := b.toNat }
      let s2 := { s1 with cat := { s1.cat with mbBytes := w.bytes, mbPointer := w.pointer } }
      let s3 := if w.ignored then s2.bump Obj.CAT_MB_IGNORED else s2
      if w.run then s3.execute else s3
  else s

/-- The bytes that a read transfer of `n` bytes returns on I2CB. -/
def State.mailboxRead (s : State) (n : Nat) : List Byte := (List.range n).map (fun k => s.mbByte ((s.cat.mbPointer + k) % 256))

/-- A read transfer of `n` bytes from I2CB (R283). -/
def State.mailboxTaken (s : State) (addr n : Nat) : State :=
  if s.twServes && s.twAnswers .i2cb addr then
    let s1 := s.twAddressed .i2cb
    { s1 with cat := { s1.cat with mbPointer := (s1.cat.mbPointer + n) % 256 } }
  else s

/-! ## Requests as commands -/

/-- A frame that carries a request. -/
def requestFrame (r : Requester) (type : Nat) (l : List Byte) : Frame :=
  { dest := r.dest, source := r.source, vc := 0, type := type, tag := r.tag, offset := r.word, payload := l }

/-- A request with its payload: one that waits in the queue is served with those before it; another arrives first, by its path. -/
def State.request (s : State) (r : Requester) (type : Nat) (l : List Byte) : State :=
  let q : Request := ⟨r, CatOp.read r type l⟩
  if s.cat.queue.contains q then State.serveUntil (fun x => decide (x = q)) (s.cat.queue.length + 1) s
  else match r.path with
    | .vc0 p => (s.arriveVc0 p (requestFrame r type l).bytes q).serveAll
    | .i2cb =>
      if s.cat.mbState = .busy ∨ s.tile.state = .off ∨ s.tile.state = .boot then s
      else
        let head := [BitVec.ofNat 8 type, BitVec.ofNat 8 r.tag] ++ leBytes 2 l.length ++ leBytes 4 r.word
        let s1 := { s with cat := { s.cat with mbBytes := mbWrite s.cat.mbBytes 0x10 (head ++ l.take 232) } }
        s1.execute.mailboxDone

/-- A SET of a value. -/
def State.setRequest (s : State) (r : Requester) (id : Nat) (l : List Byte) : State := s.request r 2 (setPayload id l)

/-- A SET of an object of `n` bytes to a number. -/
def State.setNumber (s : State) (r : Requester) (id n v : Nat) : State := s.setRequest r id (leBytes n v)

/-- The payload of a SET-SEG (R276). -/
def segPayload (id total : Nat) (last : Bool) (data : List Byte) : List Byte :=
  leBytes 2 (id / 256) ++ leBytes 1 (id % 256) ++ leBytes 1 (if last then 2 else 0) ++ leBytes 4 total ++ leBytes 4 data.length ++ zeros 4 ++ pad4 data

/-- A value sent in SET-SEG segments as long as the path takes, from offset `off` on, until one is refused (R278). -/
def State.setSegments (r : Requester) (id total : Nat) : Nat → Nat → List Byte → State → State
  | 0, _, _, s => s
  | k + 1, off, l, s =>
    let n := r.payloadLimit - 16
    let last := Nat.ble l.length n
    let s1 := s.request { r with word := off } 4 (segPayload id total last (l.take n))
    let open_ := s1.cat.transfers.any (fun x => decide (x.id = id ∧ x.source = originOf r) && Nat.beq x.data.length (off + n))
    if !last && open_ then State.setSegments r id total k (off + n) (l.drop n) s1 else s1

/-- A byte string written whole: by one SET where the path takes it, else in segments. -/
def State.setWhole (s : State) (r : Requester) (id : Nat) (l : List Byte) : State :=
  if 8 + ceil4 l.length ≤ r.payloadLimit then s.setRequest r id l else State.setSegments r id l.length (l.length / 216 + 1) 0 l s

/-! ## Long operations (R270) and STOP (R289) -/

/-- A long operation ends: what it does last, and the status it answers with. -/
def State.longEnd (s : State) (op : LongOp) : Status × State :=
  match op with
  | .sealChecks =>
    let (st, s1) := s.sealChecked
    (st, if st = .ok then s1.abandon (fun x => x.staged) else s1)
  | .saveResume => (.ok, s.saveDone)
  | .calCommit => (.ok, s.commitDone)
  | .kernelBlob k l => s.writeKernel k l
  | .enrol => (.ok, s.enrolDone)

/-- The running long operation, if it is one for which `p` holds, ends and is answered. -/
def State.longDone (s : State) (p : LongOp → Bool) : State :=
  match s.cat.long with
  | none => s
  | some x =>
    if p x.op then
      let (st, s1) := State.longEnd { s with cat := { s.cat with long := none } } x.op
      match Obj.find x.id with
      | some row =>
        let total := match x.op with | .kernelBlob _ l => if Nat.beq x.rtype 4 then l.length else 0 | _ => 0
        let s2 := if Nat.beq x.rtype 4 then s1.noteCompleted x.id (toStaged row) (originOf x.sender) st else s1
        s2.finish x.sender row x.rtype x.id x.staged total st
      | none => s1
    else s

/-- STOP has taken effect: those who asked for it are answered (R289). -/
def State.stopAnswered (s : State) : State :=
  let (l, s1) := s.stopComplete
  l.foldl (fun s r => s.answer r { status := .ok, rtype := 2, id := Obj.CAT_STATE_REQUEST }) s1

end Sys2Proof.Machine
end

