-- ==== Sys2Proof/Machine/Frames.lean ====
section
/-! DEFINITION. Frames received (12 R343-R348) and the Registrar (R352-R355). -/

namespace Sys2Proof.Machine

/-! ## The Registrar -/

/-- OP codes of ENUM (R352). -/
def opOffer : Nat := 1
def opReport : Nat := 2
def opCommit : Nat := 3

/-- An ENUM payload (R352). -/
def enumPayload (id op side chain count flags addr serial : Nat) : List Byte :=
  leBytes 4 id ++ leBytes 1 op ++ leBytes 1 side ++ leBytes 1 chain ++ leBytes 1 count ++ [0] ++ leBytes 1 flags ++ zeros 2 ++ leBytes 2 addr ++ zeros 2 ++
    leBytes 8 serial

/-- A REPORT sent to c.0 out of the port on which the OFFER arrived (R352). -/
def State.sendReport (s : State) (p : Port) (report : List Byte) : State := s.sendOn p (s.newFrame (64 * leAt report 6 1) 3 0x38 report)

/-- The OFFER that follows from a REPORT, link-local on the onward port (R352, R353). -/
def State.sendOffer (s : State) (p : Port) (report : List Byte) : State :=
  let o := enumPayload (leAt report 0 4) opOffer (leAt report 5 1) (leAt report 6 1) (leAt report 7 1) 0 0 0
  s.sendOn p { s.newFrame 0 3 0x38 o with ttl := 1 }

/-- The second REPORT, with END_OF_REACH (R353). -/
def State.reportEnd (s : State) (p : Port) (report : List Byte) : State :=
  s.sendReport p (report.take 9 ++ leBytes 1 (withBit (leAt report 9 1) 1 true) ++ report.drop 10)

/-- The OFFER passed on: after a wake of a port that faces PASS and a wait for UP, at once, or not at all (R353). -/
def State.passOffer (s : State) (p : Port) (report : List Byte) : State :=
  let o := p.other
  if s.flag Obj.LNK_STATUS (2 + o.code) then
    let s1 := s.wakePort o
    { s1 with rg := { s1.rg with onward := some ⟨o, report, s.now, p⟩ } }
  else if s.isUp o then s.sendOffer o report
  else s.reportEnd p report

/-- The wait for the onward port ends: it is in UP, or 1 ms has passed (R353). -/
def State.onwardWaitEnd (s : State) : State :=
  match s.rg.onward with
  | none => s
  | some o =>
    let s1 := { s with rg := { s.rg with onward := none } }
    if s.isUp o.port then s1.sendOffer o.port o.payload
    else if o.asked + 1000000 ≤ s.now then s1.reportEnd o.arrived o.payload
    else s

/-- A position taken (R353): ID_ADDRESS, ID_POSITION, LNK_CHAIN, LNK_ENUM_ID, FROM_B; a change of address is counted and recorded. A position taken in
LINKUP leads to READY (R19). -/
def State.takePosition (s : State) (id side chain pos : Nat) (provisional : Bool) : State :=
  let old := s.address
  let new := 64 * chain + pos
  let s1 := if s.positioned && !(Nat.beq old new) then (s.bump Obj.LNK_POSITION_CHANGES).event 0x120F (old * 65536 + new) else s
  let s2 := ((s1.setReg Obj.ID_ADDRESS new).setReg Obj.ID_POSITION (1 + 2 * b2n provisional)).setReg Obj.LNK_CHAIN chain
  let s3 := if Nat.beq (s.reg Obj.LNK_ENUM_ID) id then s2 else (s2.setReg Obj.LNK_ENUM_ID id).setFlag Obj.LNK_STATUS 0 false
  let s4 := if provisional then s3 else { s3 with rg := { s3.rg with finalUnder := some id } }
  s4.setFlag Obj.LNK_STATUS 9 (Nat.beq side 1)

/-- What an OFFER comes to (R353). -/
inductive OfferVerdict where
  | take (pos : Nat) (provisional : Bool)
  | overflow
  | drop
  | miswired
  deriving DecidableEq, Repr

/-- The verdict on an OFFER that arrives on port `p` as hop `h`. -/
def State.offerVerdict (s : State) (p : Port) (id side h : Nat) : OfferVerdict :=
  let ring := s.reg Obj.LNK_RING_LENGTH
  match side, p with
  | 0, .a => if h ≤ 62 then .take h false else .overflow
  | 1, .b =>
    if s.rg.finalUnder = some id then .drop
    else if h ≤ ring then .take (ring + 1 - h) false
    else if h ≤ 15 then .take (63 - h) true
    else .overflow
  | _, _ => .miswired

/-- An OFFER (R353). -/
def State.offer (s : State) (p : Port) (l : List Byte) : State :=
  let id := leAt l 0 4
  let side := leAt l 5 1
  let chain := leAt l 6 1
  let h := leAt l 7 1 + 1
  let report := fun (flags addr : Nat) => enumPayload id opReport side chain h flags addr (s.reg Obj.ID_SERIAL)
  match s.offerVerdict p id side h with
  | .drop => s
  | .miswired => s.event 0x1211 0
  | .overflow =>
    let r := report 4 0
    ((s.event 0x1210 0).sendReport p r).passOffer p r
  | .take pos prov =>
    let s1 := s.takePosition id side chain pos prov
    let r := report (b2n prov) s1.address
    ((s1.sendReport p r).firstReady).passOffer p r

/-- A COMMIT (R354): a tile that took a final position under its ENUM_ID stores the ring length and sets COMMITTED. -/
def State.commitRing (s : State) (l : List Byte) : State :=
  let id := leAt l 0 4
  let n := leAt l 8 1
  if s.rg.finalUnder = some id ∧ s.reg Obj.LNK_ENUM_ID = id ∧ 1 ≤ n ∧ n ≤ 62 then
    let s1 := if s.reg Obj.LNK_RING_LENGTH = n then s else (s.writeRingWord n).setReg Obj.LNK_RING_LENGTH n
    s1.setFlag Obj.LNK_STATUS 0 true
  else s

/-- An ENUM token consumed (R352): one of the wrong length or chain is ignored. -/
def State.enum (s : State) (p : Port) (l : List Byte) : State :=
  if l.length = 24 ∧ leAt l 6 1 ≤ 62 then
    match leAt l 4 1 with
    | 1 => s.offer p l
    | 3 => s.commitRing l
    | _ => s
  else s

/-! ## Consuming (R346, R348) -/

/-- A frame with DUAL set: is it a repeat, and the frames remembered with it (R348)? -/
def State.dualSeen (s : State) (f : Frame) : Bool × State :=
  if f.dual then
    let recent := s.rg.dual.filter (fun d => Nat.blt s.now (d.at_ + 10000000))
    if recent.any (fun d => decide (d.source = f.source ∧ d.tag = f.tag ∧ d.type = f.type)) then
      (true, State.bump { s with rg := { s.rg with dual := recent } } Obj.LNK_DUAL_DROPPED)
    else
      let l := recent ++ [⟨f.source, f.tag, f.type, s.now⟩]
      (false, { s with rg := { s.rg with dual := l.drop (l.length - 32) } })
  else (false, s)

/-- A token served (R243, R353, R357, R363): none while the boot ROM serves. -/
def State.consumeToken (s : State) (p : Port) (x : RxFrame) (f : Frame) : State :=
  if s.romFault then s
  else match f.type with
    | 0x30 => s.timeToken p f.hops f.payload (1000 * s.now + x.refPs)
    | 0x31 => s.positionToken f.source f.payload
    | 0x32 => s.accession f.payload
    | 0x38 => s.enum p f.payload
    | _ => s

/-- A frame served under its owning rule: requests enter the Catalogue's queue, bulk frames are checked and carried out (R229, R269). A RESPONSE, a NAK, and
what a tile itself sends to c.0 ask nothing of a tile. -/
def State.consume (s : State) (p : Port) (x : RxFrame) (f : Frame) : State :=
  match f.vc, f.type with
  | 3, _ => s.consumeToken p x f
  | 0, 0x06 | 0, 0x3F => s
  | 0, _ =>
    let r : Requester := { path := .vc0 p, source := f.source, dest := f.dest, tag := f.tag, word := f.offset }
    s.arriveVc0 p x.bytes ⟨r, CatOp.read r f.type f.payload⟩
  | 1, 0x10 => if s.romFault then s.nak p x.bytes 8 else s.bulkWrite p x.bytes
  | 1, 0x11 => if s.romFault then s.nak p x.bytes 8 else s.bulkRead p x.bytes
  | _, _ => s

/-! ## Forwarding (R333, R346, R357) -/

/-- A frame as it leaves by the other port: HOPS up, TTL down, a TIME token with its correction. -/
def State.onwardFrame (s : State) (p : Port) (x : RxFrame) (f : Frame) : Frame :=
  let payload := if f.vc = 3 ∧ f.type = 0x30 then s.timeForward p f.payload x.residence else f.payload
  { f with hops := (f.hops + 1) % 256, ttl := f.ttl - 1, payload := payload }

/-! ## Receiving (R343) -/

/-- The units a received frame uses, counted as sent by the partner (R340, R342). -/
def State.noteUnits (s : State) (p : Port) (vc words : Nat) : State :=
  s.onPort p (fun v => { v with credits := { v.credits with recvd := v.credits.recvd.set vc ((v.credits.recvd.getD vc 0 + frameUnits words) % 65536) } })

/-- The units that the partner knows to be in use on a port (R340). -/
def Credits.inUse (c : Credits) : List Nat := List.zipWith (fun r t => (r + 65536 - t) % 65536) c.recvd c.told

/-- Bytes marked as code errors counted by lane: byte k of a word travels on lane k (R300, R329). -/
def State.countMarked (s : State) (p : Port) (l : List Nat) : State :=
  l.foldl (fun (s : State) i => s.bumpEntry Obj.LNK_CODE_ERRORS (laneNo p (i % 4))) s

/-- The header's checks, steps 1 to 5: the cause of a discard and the status of its NAK, if one is due. -/
def State.headerFault (s : State) (p : Port) (x : RxFrame) (f : Frame) : Option (Nat × Option Nat) :=
  let words := statedLength x.bytes
  if !(headerOk x.bytes) || x.marked.any (fun i => Nat.blt i 16) then some (1, none)
  else if maxWords f.vc < words then some (3, some 4)
  else if !(addressValid f.dest) then some (4, none)
  else if !(typeOnVc f.type f.vc) || decide (x.token ≠ Nat.beq f.vc 3) then some (6, some 5)
  else if !(creditFits (s.port p).credits.inUse f.vc (frameUnits words)) then some (8, none)
  else none

/-- A frame discarded for its header (R343, R344). -/
def State.dropHeader (s : State) (p : Port) (x : RxFrame) (cause : Nat) (nak : Option Nat) : State :=
  let s1 := s.discard p cause
  let s2 := match nak with | some st => s1.nak p x.bytes st | none => s1
  if cause = 8 then (s2.event 0x1216 0).enterRecovery p
  else if cause = 1 then s2
  else s2.noteUnits p (Frame.read x.bytes).vc (statedLength x.bytes)

/-- Steps 7 and 8: the cause of a discard. -/
def bodyFault (x : RxFrame) (f : Frame) : Option Nat :=
  if !(Nat.beq f.payload.length (4 * statedLength x.bytes)) then some 3
  else if !(trailerOk x.bytes) || x.marked.any (fun i => Nat.ble 16 i) then some 2
  else none

/-- A whole frame consumed, unless it is a DUAL repeat. -/
def State.take (s : State) (p : Port) (x : RxFrame) (f : Frame) : State :=
  let (again, s1) := s.dualSeen f
  if again then s1 else s1.consume p x f

/-- A whole frame forwarded, consumed or both (step 9, R346). -/
def State.deliverFrame (s : State) (p : Port) (x : RxFrame) (f : Frame) (mine fwd : Bool) : State :=
  let s1 := s.bumpEntry64 Obj.LNK_FRAMES_RX p.code 1
  let s2 := if fwd then
      (if (s1.port p.other).takes then s1.enqueue p.other (s1.onwardFrame p x f) false
       else if mine then s1 else s1.discard p 7)
    else s1
  if mine then s2.take p x f else s2

/-- Does the frame layer run: not where the link is silent, nor on a port that is not in UP? -/
def State.hears (s : State) (p : Port) : Bool := !s.silent && s.isUp p

/-- A frame that ends in EOF arrives at a port (R343). -/
def State.receive (s : State) (p : Port) (x : RxFrame) : State :=
  if s.hears p then
    let s0 := s.countMarked p x.marked
    let f := Frame.read x.bytes
    match s0.headerFault p x f with
    | some (cause, nak) => s0.dropHeader p x cause nak
    | none =>
      let s1 := s0.noteUnits p f.vc (statedLength x.bytes)
      let (mine, onward) := s1.routeOf f
      let fwd := onward && Nat.blt 1 f.ttl
      if !mine && !fwd then s1.discard p 5
      else match bodyFault x f with
        | some cause =>
          let s2 := s1.discard p cause
          if f.vc = 3 ∧ fwd = true ∧ cause = 2 ∧ (s2.isUp p.other) = true then s2.onPort p.other (fun v => { v with aborts := v.aborts + 1 }) else s2
        | none => s1.deliverFrame p x f mine fwd
  else s

/-- A frame that ends in ABORT (R331, R343): its discard is counted only when its partner originated it, under the first check of its header that fails,
cause 2 where none does. -/
def State.frameAbort (s : State) (p : Port) (l : List Byte) : State :=
  if s.hears p then
    let f := Frame.read l
    let x : RxFrame := ⟨Nat.beq f.vc 3, l, [], 0, 0⟩
    if headerOk l && Nat.blt 0 f.hops then s.noteUnits p f.vc (statedLength l)
    else match s.headerFault p x f with
      | some (cause, nak) => s.dropHeader p x cause nak
      | none =>
        let s1 := s.noteUnits p f.vc (statedLength l)
        let (mine, onward) := s1.routeOf f
        s1.discard p (if mine || (onward && Nat.blt 1 f.ttl) then 2 else 5)
  else s

/-- A frame received if it is of TYPE `type`, and an ENUM of operation `op`. -/
def State.receiveType (s : State) (p : Port) (x : RxFrame) (type : Nat) (op : Option Nat) : State :=
  let f := Frame.read x.bytes
  if Nat.beq f.type type && (match op with | some k => Nat.beq (leAt f.payload 4 1) k | none => true) then s.receive p x else s

end Sys2Proof.Machine
end

