-- ==== Sys2Proof/Machine/Run.lean ====
section
/-! DEFINITION. How a command runs: at its instant, leaving the queue alone, with the status values that the spec ties to the state at every
moment brought up to date. -/

namespace Sys2Proof.Machine

/-- CU_WINDOW_FILL and CU_STATUS.WINDOW_FULL (R202, R203) as the window now is. -/
def State.showWindow (s : State) : State :=
  (s.setReg Obj.CU_WINDOW_FILL s.cu.lines.length).setFlag Obj.CU_STATUS 1 (Nat.ble 256 s.cu.lines.length)

/-- LT_STATUS.MODEL_FORCED (R64, R82) and FOL_STATUS.OLD_LINES (R197, R261) as the state now has them. -/
def State.showModes (s : State) : State :=
  (s.setFlag Obj.LT_STATUS 4 (Nat.beq (s.act Obj.LT_TRIG_MODE) 0 && !s.posMaster)).setFlag Obj.FOL_STATUS 4 s.oldLines

/-- What follows from every command: the recovered reference taken up when its port is in UP (R482), the log of the engine clock (R200), the status bits. -/
def State.settle (s : State) : State := s.watchRef.noteClock.showModes.showWindow

/-- A command of instant `t` carried out: its effect `f`, then what follows from it. The clock stands at that instant, and the waiting commands are
as they were. -/
def State.run (s : State) (t : Nat) (f : State → State) : Host.Outcome State Fault Refusal :=
  .next { (f (s.at t)).settle with now := Nat.max s.now t, pending := s.pending }

/-- A command that names a unit: one that the tile does not have stops the model. -/
def State.runOn (s : State) (exists_ : Bool) (t : Nat) (f : State → State) : Host.Outcome State Fault Refusal :=
  if exists_ then s.run t f else .fault .noSuchUnit

/-- An instruction of strip engine `e`, at the instant the clock shows. -/
def State.onStrip (s : State) (e : Nat) (f : State → State) : Host.Outcome State Fault Refusal := s.runOn (Nat.blt e 128) s.now f

end Sys2Proof.Machine
end

