-- ==== Sys2Proof/Machine/CatalogueRows.lean ====
section
/-! DEFINITION. The commands of the Archive, the Folios and the Catalogue (08, 09, 10). -/

namespace Sys2Proof.Machine

/-- A kernel written whole into slot `slot` and checked (R139, R140). -/
def execKernelBlobWrite (t : Nat) (r : Requester) (slot : Nat) (bytes : List Byte) (s : State) : Host.Outcome State Fault Refusal :=
  s.runOn (decide (slot < 16)) t (fun s =>
    (s.setWhole r (Obj.KN_KERNEL slot) bytes).longDone (fun op => match op with | .kernelBlob _ _ => true | _ => false))

/-- VA_SLOT_CLEAR written (R223). -/
def execVaSlotClear (t : Nat) (r : Requester) (v : Nat) (s : State) : Host.Outcome State Fault Refusal :=
  s.run t (fun s => s.setNumber r Obj.VA_SLOT_CLEAR 1 v)

/-- The slot clear completes (R223). -/
def execSlotClearDone (t : Nat) (s : State) : Host.Outcome State Fault Refusal :=
  s.run t (fun s => s.clearDone)

/-- A patrol pass completes (R215): `ce` words corrected, the words `bad` uncorrectable. -/
def execPatrolScrubPass (t ce : Nat) (bad : List Nat) (s : State) : Host.Outcome State Fault Refusal :=
  s.run t (fun s => s.scrubPass ce bad)

/-- A BULK_WRITE frame arrives (R229). -/
def execBulkWrite (t : Nat) (p : Port) (f : RxFrame) (s : State) : Host.Outcome State Fault Refusal :=
  s.run t (fun s => s.receiveType p f 0x10 none)

/-- The oldest acknowledged write has its data in the Archive (R229). -/
def execBulkWriteAck (t : Nat) (s : State) : Host.Outcome State Fault Refusal :=
  s.run t (fun s => s.bulkAck)

/-- A BULK_READ frame arrives (R229, R230). -/
def execBulkRead (t : Nat) (p : Port) (f : RxFrame) (s : State) : Host.Outcome State Fault Refusal :=
  s.run t (fun s => s.receiveType p f 0x11 none)

/-- The `k`-th running read sends its next frame (R230). -/
def execBulkData (t k : Nat) (bad : List Nat) (s : State) : Host.Outcome State Fault Refusal :=
  s.run t (fun s => s.bulkData k bad)

/-- CAT_FOLIO_SEAL written, and the checks of the seal carried out (R237). -/
def execCatFolioSeal (t : Nat) (r : Requester) (v : Nat) (s : State) : Host.Outcome State Fault Refusal :=
  s.run t (fun s => (s.setNumber r Obj.CAT_FOLIO_SEAL 1 v).longDone (fun op => decide (op = .sealChecks)))

/-- The three digests complete (R238). -/
def execFolSealed (t : Nat) (s : State) : Host.Outcome State Fault Refusal :=
  s.run t (fun s => s.sealDone)

/-- CAT_FOLIO_UNSEAL written (R240). -/
def execCatFolioUnseal (t : Nat) (r : Requester) (v : Nat) (s : State) : Host.Outcome State Fault Refusal :=
  s.run t (fun s => s.setNumber r Obj.CAT_FOLIO_UNSEAL 1 v)

/-- CAT_FOLIO_COPY written (R241). -/
def execCatFolioCopy (t : Nat) (r : Requester) (v : Nat) (s : State) : Host.Outcome State Fault Refusal :=
  s.run t (fun s => s.setNumber r Obj.CAT_FOLIO_COPY 1 v)

/-- An ACCESSION token arrives (R242, R243). -/
def execAccession (t : Nat) (p : Port) (f : RxFrame) (s : State) : Host.Outcome State Fault Refusal :=
  s.run t (fun s => s.receiveType p f 0x32 none)

/-- The tile's instant in a beacon period (R251). -/
def execBeacon (t : Nat) (s : State) : Host.Outcome State Fault Refusal :=
  s.run t (fun s => s.beacon)

/-- FOL_QUOTE_NONCE written (R254). -/
def execFolQuoteNonce (t : Nat) (r : Requester) (nonce : List Byte) (s : State) : Host.Outcome State Fault Refusal :=
  s.run t (fun s => s.setRequest r Obj.FOL_QUOTE_NONCE nonce)

/-- The quote is signed (R254). -/
def execQuoteSigned (t : Nat) (s : State) : Host.Outcome State Fault Refusal :=
  s.run t (fun s => s.quoteSigned)

/-- CAT_FOLIO_SAVE_RESUME written (R256). -/
def execCatFolioSaveResume (t : Nat) (r : Requester) (v : Nat) (s : State) : Host.Outcome State Fault Refusal :=
  s.run t (fun s => s.setNumber r Obj.CAT_FOLIO_SAVE_RESUME 1 v)

/-- The save of the resume Folio completes (R256). -/
def execFolResumeSaved (t : Nat) (s : State) : Host.Outcome State Fault Refusal :=
  s.run t (fun s => s.longDone (fun op => decide (op = .saveResume)))

/-- CAT_FOLIO_CLEAR_RESUME written (R256). -/
def execCatFolioClearResume (t : Nat) (r : Requester) (v : Nat) (s : State) : Host.Outcome State Fault Refusal :=
  s.run t (fun s => s.setNumber r Obj.CAT_FOLIO_CLEAR_RESUME 1 v)

/-- The digests of the resumed Folio complete (R258). -/
def execResumeDigestDone (t : Nat) (s : State) : Host.Outcome State Fault Refusal :=
  s.run t (fun s => s.resumeDigest)

/-- A GET (R272, R273). -/
def execGet (t : Nat) (r : Requester) (payload : List Byte) (s : State) : Host.Outcome State Fault Refusal :=
  s.run t (fun s => s.request r 1 payload)

/-- A SET (R272, R275). -/
def execSet (t : Nat) (r : Requester) (payload : List Byte) (s : State) : Host.Outcome State Fault Refusal :=
  s.run t (fun s => s.request r 2 payload)

/-- A GET-SEG (R276, R277). -/
def execGetSeg (t : Nat) (r : Requester) (payload : List Byte) (s : State) : Host.Outcome State Fault Refusal :=
  s.run t (fun s => s.request r 3 payload)

/-- A SET-SEG (R276, R278). -/
def execSetSeg (t : Nat) (r : Requester) (payload : List Byte) (s : State) : Host.Outcome State Fault Refusal :=
  s.run t (fun s => s.request r 4 payload)

/-- A LIST (R280, R281). -/
def execList (t : Nat) (r : Requester) (payload : List Byte) (s : State) : Host.Outcome State Fault Refusal :=
  s.run t (fun s => s.request r 5 payload)

/-- CAT_SEG_TIMEOUT has passed for an open transfer (R279). -/
def execCatSegAbandoned (t : Nat) (s : State) : Host.Outcome State Fault Refusal :=
  s.run t (fun s => s.abandonLate)

/-- The running long operation ends (R270). -/
def execLongOperationDone (t : Nat) (s : State) : Host.Outcome State Fault Refusal :=
  s.run t (fun s => s.longDone (fun _ => true))

/-- A write to an object (R264): `id` is 256 x index + subindex. -/
def execRegisterWrite (t : Nat) (r : Requester) (id : Nat) (value : List Byte) (s : State) : Host.Outcome State Fault Refusal :=
  s.runOn (decide (id < 16777216)) t (fun s => s.setWhole r id value)

/-- 0x01 written to MB_CMD (R285, R286). -/
def execExecute (t : Nat) (s : State) : Host.Outcome State Fault Refusal :=
  s.run t (fun s => s.execute)

/-- The mailbox request is answered (R285). -/
def execMailboxDone (t : Nat) (s : State) : Host.Outcome State Fault Refusal :=
  s.run t (fun s => s.mailboxDone)

/-- A write transfer to I2CB (R283): the pointer and the bytes after it. -/
def execI2cbWriteTransfer (t addr : Nat) (bytes : List Byte) (s : State) : Host.Outcome State Fault Refusal :=
  s.runOn (decide (addr < 128)) t (fun s => s.mailboxWrite addr bytes)

/-- A read transfer of `n` bytes from I2CB (R283). -/
def execI2cbReadTransfer (t addr n : Nat) (s : State) : Host.Outcome State Fault Refusal :=
  s.runOn (decide (addr < 128)) t (fun s => s.mailboxTaken addr n)

end Sys2Proof.Machine
end

