-- ==== Sys2Proof/Machine/ClockRows.lean ====
section
/-! DEFINITION. The commands of the clocks (17). -/

namespace Sys2Proof.Machine

/-- The recovered reference fails (R466). -/
def execClkRefFallback (t : Nat) (s : State) : Host.Outcome State Fault Refusal :=
  s.run t (fun s => s.refFallback)

/-- The crystal stops (R467). -/
def execClkXtalFail (t : Nat) (s : State) : Host.Outcome State Fault Refusal :=
  s.run t (fun s => s.xtalFail)

/-- A PLL loses lock (R471). -/
def execClkLockLost (t : Nat) (p : Pll) (s : State) : Host.Outcome State Fault Refusal :=
  s.run t (fun s => s.lockGone p)

/-- A relock attempt ends without lock (R471). -/
def execRelockAttemptFail (t : Nat) (p : Pll) (s : State) : Host.Outcome State Fault Refusal :=
  s.run t (fun s => s.relockFail p)

/-- A PLL holds lock for 20 us (R471). -/
def execClkRelocked (t : Nat) (p : Pll) (s : State) : Host.Outcome State Fault Refusal :=
  s.run t (fun s => s.relocked p)

/-- CLK_RAMP_INTERVAL (R475). -/
def execRampInterval (t : Nat) (s : State) : Host.Outcome State Fault Refusal :=
  s.run t (fun s => s.rampInterval)

/-- A bypass excursion ends (R476). -/
def execExcursionDone (t : Nat) (s : State) : Host.Outcome State Fault Refusal :=
  s.run t (fun s => s.excursionDone)

/-- The case temperature read, in 1/16 degree (R477, R499). -/
def execCaseTempSample (t : Nat) (temp : Int) (s : State) : Host.Outcome State Fault Refusal :=
  s.run t (fun s => (s.caseTemp temp).powerStep (fun s => s.thermalReg temp))

/-- CLK_REF_SEL written (R465). -/
def execClkRefSel (t : Nat) (r : Requester) (v : Nat) (s : State) : Host.Outcome State Fault Refusal :=
  s.run t (fun s => s.setNumber r Obj.CLK_REF_SEL 1 v)

/-- The band table of a PLL written (R470). -/
def execClkBandTable (t : Nat) (r : Requester) (p : Pll) (bytes : List Byte) (s : State) : Host.Outcome State Fault Refusal :=
  s.run t (fun s => s.setWhole r (Obj.CLK_BAND_TABLE p.code) bytes)

/-- The configuration of a clock output written (R478). -/
def execClkOutCfg (t : Nat) (r : Requester) (n v : Nat) (s : State) : Host.Outcome State Fault Refusal :=
  s.runOn (decide (n < 4)) t (fun s => s.setNumber r (Obj.CLK_OUT_CFG n) 4 v)

/-- CLK_X_VCO written (R478). -/
def execClkXVco (t : Nat) (r : Requester) (v : Nat) (s : State) : Host.Outcome State Fault Refusal :=
  s.run t (fun s => s.setNumber r Obj.CLK_X_VCO 4 v)

end Sys2Proof.Machine
end

