-- ==== Sys2Proof/Machine/GalleryRows.lean ====
section
/-! DEFINITION. The commands of the Gallery (13). -/

namespace Sys2Proof.Machine

/-- A frame-start packet on a camera port (R375). -/
def execFrameStart (t p vc number : Nat) (hdr : CsiHeader) (s : State) : Host.Outcome State Fault Refusal :=
  s.runOn (allBelow [(p, 2), (vc, 16)]) t (fun s => s.csiPacket p hdr (fun s => s.csiStart p vc number))

/-- A frame-end packet (R375). -/
def execFrameEnd (t p vc number : Nat) (hdr : CsiHeader) (s : State) : Host.Outcome State Fault Refusal :=
  s.runOn (allBelow [(p, 2), (vc, 16)]) t (fun s => s.csiPacket p hdr (fun s => s.csiEnd p vc))

/-- A long packet (R376). -/
def execLongPacket (t p vc dt : Nat) (hdr : CsiHeader) (crcOk : Bool) (payload : List Byte) (s : State) : Host.Outcome State Fault Refusal :=
  s.runOn (allBelow [(p, 2), (vc, 16)]) t (fun s => s.csiPacket p hdr (fun s => s.csiLong p vc dt crcOk payload))

/-- GA_CTX_FRAME_TIMEOUT without a packet (R375). -/
def execFrameTimeout (t c : Nat) (s : State) : Host.Outcome State Fault Refusal :=
  s.runOn (decide (c < 8)) t (fun s => s.csiTimeout c)

/-- GA_CTX_APPLY of a context written (R374). -/
def execGaCtxApply (t : Nat) (r : Requester) (c v : Nat) (s : State) : Host.Outcome State Fault Refusal :=
  s.runOn (decide (c < 8)) t (fun s => s.setNumber r (Obj.GA_CTX_APPLY c) 1 v)

/-- The pipeline finishes an item of a context (R390). -/
def execViewItemDone (t c kind : Nat) (s : State) : Host.Outcome State Fault Refusal :=
  s.runOn (allBelow [(c, 8), (kind, 7)]) t (fun s => s.itemDone c kind)

/-- 50 us without work (R378). -/
def execGalleryClockStop (t : Nat) (s : State) : Host.Outcome State Fault Refusal :=
  s.run t (fun s => s.gaStop)

end Sys2Proof.Machine
end

