-- ==== Sys2Proof/Machine/LinkRows.lean ====
section
/-! DEFINITION. The commands of the link lanes, frames, the registrar and installation time (11, 12). -/

namespace Sys2Proof.Machine

/-- A lane loses symbol lock (R300) after `errors` code errors. -/
def execLnkLockLost (t : Nat) (p : Port) (lane errors : Nat) (s : State) : Host.Outcome State Fault Refusal :=
  s.runOn (decide (lane < 4)) t (fun s => if (s.port p).carries then s.lockLost p lane errors else s)

/-- A SKP ordered set (R301). -/
def execSkpSend (t : Nat) (p : Port) (s : State) : Host.Outcome State Fault Refusal :=
  s.run t (fun s => s.skipSent p)

/-- An elastic buffer over- or underflows (R302). -/
def execLnkElasticError (t : Nat) (p : Port) (lane : Nat) (s : State) : Host.Outcome State Fault Refusal :=
  s.runOn (decide (lane < 4)) t (fun s => if (s.port p).carries then s.elasticError p lane else s)

/-- K28.5 on some lanes only (R304). -/
def execLnkDeskewError (t : Nat) (p : Port) (s : State) : Host.Outcome State Fault Refusal :=
  s.run t (fun s => if (s.port p).carries then s.deskewError p else s)

/-- RECOVERY has lasted 1 ms (R305). -/
def execRecoveryTimeout (t : Nat) (p : Port) (s : State) : Host.Outcome State Fault Refusal :=
  s.run t (fun s => s.recoveryTimeout p)

/-- A DOWN port has waited LNK_RETRAIN_INTERVAL (R312). -/
def execRetrainIntervalExpiry (t : Nat) (p : Port) (s : State) : Host.Outcome State Fault Refusal :=
  s.run t (fun s =>
    let v := s.port p
    let waited := Nat.ble (v.since + s.reg Obj.LNK_RETRAIN_INTERVAL * 1000000) s.now
    if v.state = .down ∧ waited = true ∧ s.romFault = false ∧ s.silent = false then s.enterDetect p s.rateMax false else s)

/-- Symbols 1 to 15 of a TS1 received on a lane (R306, R307). -/
def execTs1 (t : Nat) (p : Port) (lane : Nat) (l : List Byte) (s : State) : Host.Outcome State Fault Refusal :=
  s.runOn (decide (lane < 4)) t (fun s => s.onSet l (fun k => Nat.beq k 1) (fun x s => s.tsReceived p lane x))

/-- Symbols 1 to 15 of a TS2 received on a lane (R306, R307). -/
def execTs2 (t : Nat) (p : Port) (lane : Nat) (l : List Byte) (s : State) : Host.Outcome State Fault Refusal :=
  s.runOn (decide (lane < 4)) t (fun s => s.onSet l (fun k => Nat.beq k 2) (fun x s => s.tsReceived p lane x))

/-- Both sides are at the target rate (R307). -/
def execRateChangeDone (t : Nat) (p : Port) (s : State) : Host.Outcome State Fault Refusal :=
  s.run t (fun s => s.rateChanged p)

/-- A tap request unacknowledged for 20 us (R310). -/
def execTapRequestResend (t : Nat) (p : Port) (lane : Nat) (s : State) : Host.Outcome State Fault Refusal :=
  s.runOn (decide (lane < 4)) t (fun s => s.resendRequest p lane)

/-- The eye of a training step measured: width in 1/64 UI, height in mV (R311). -/
def execTrainingStepDone (t : Nat) (p : Port) (lane w h : Nat) (s : State) : Host.Outcome State Fault Refusal :=
  s.runOn (decide (lane < 4)) t (fun s => s.trainingStep p lane w h)

/-- A LOOP_ECHO received `trip` ps after its LOOP was sent (R314). -/
def execLoopEcho (t : Nat) (p : Port) (l : List Byte) (trip : Nat) (s : State) : Host.Outcome State Fault Refusal :=
  s.run t (fun s => s.onSet l (fun k => Nat.beq k 4) (fun x s => s.loopEcho p x trip))

/-- The exchange of LOOP sets ends (R314, R316). -/
def execHopMeasureDone (t : Nat) (p : Port) (s : State) : Host.Outcome State Fault Refusal :=
  s.run t (fun s => s.hopDone p)

/-- LNK_HOP_PERIOD has passed in UP (R316). -/
def execHopPeriodExpiry (t : Nat) (p : Port) (s : State) : Host.Outcome State Fault Refusal :=
  s.run t (fun s => s.hopPeriod p)

/-- 16 IDLE columns in a row (R314). -/
def execPortUp (t : Nat) (p : Port) (s : State) : Host.Outcome State Fault Refusal :=
  s.run t (fun s => s.portUp p)

/-- The eye of a lane measured (R317, R318). -/
def execEyeMeasureDone (t : Nat) (p : Port) (lane w h : Nat) (s : State) : Host.Outcome State Fault Refusal :=
  s.runOn (decide (lane < 4)) t (fun s => s.eyeMeasured p lane w h)

/-- LNK_EYE_PERIOD has passed in UP (R317). -/
def execEyePeriodExpiry (t : Nat) (p : Port) (s : State) : Host.Outcome State Fault Refusal :=
  s.run t (fun s => s.eyePeriod p)

/-- LNK_EYE_MEASURE written (R317). -/
def execLnkEyeMeasure (t : Nat) (r : Requester) (v : Nat) (s : State) : Host.Outcome State Fault Refusal :=
  s.run t (fun s => s.setNumber r Obj.LNK_EYE_MEASURE 1 v)

/-- The test word of a lane written (R319). -/
def execLnkLaneTest (t : Nat) (r : Requester) (p : Port) (lane v : Nat) (s : State) : Host.Outcome State Fault Refusal :=
  s.runOn (decide (lane < 4)) t (fun s => s.setNumber r (Obj.LNK_LANE_TEST (laneNo p lane)) 4 v)

/-- One bit of periodic injection (R321). -/
def execInjectionPeriodic (t : Nat) (p : Port) (lane : Nat) (s : State) : Host.Outcome State Fault Refusal :=
  s.runOn (decide (lane < 4)) t (fun s => s.injectPeriodic p lane)

/-- 256 errors in 1,024 bits, `errors` since the checker was last read out (R320). -/
def execLnkPrbsResync (t : Nat) (p : Port) (lane errors : Nat) (s : State) : Host.Outcome State Fault Refusal :=
  s.runOn (decide (lane < 4)) t (fun s => s.prbsResync p lane errors)

/-- LNK_RETRAIN_A written (R312). -/
def execLnkRetrainA (t : Nat) (r : Requester) (v : Nat) (s : State) : Host.Outcome State Fault Refusal :=
  s.run t (fun s => s.setNumber r Obj.LNK_RETRAIN_A 1 v)

/-- LNK_RETRAIN_B written (R312). -/
def execLnkRetrainB (t : Nat) (r : Requester) (v : Nat) (s : State) : Host.Outcome State Fault Refusal :=
  s.run t (fun s => s.setNumber r Obj.LNK_RETRAIN_B 1 v)

/-- LNK_WAKE_A written (R326). -/
def execLnkWakeA (t : Nat) (r : Requester) (v : Nat) (s : State) : Host.Outcome State Fault Refusal :=
  s.run t (fun s => s.setNumber r Obj.LNK_WAKE_A 1 v)

/-- LNK_WAKE_B written (R326). -/
def execLnkWakeB (t : Nat) (r : Requester) (v : Nat) (s : State) : Host.Outcome State Fault Refusal :=
  s.run t (fun s => s.setNumber r Obj.LNK_WAKE_B 1 v)

/-- The wake idle has lasted 4 us (R326). -/
def execWakeIdleEnd (t : Nat) (p : Port) (s : State) : Host.Outcome State Fault Refusal :=
  s.run t (fun s => s.wakeIdleEnd p)

/-- A PASS set received (R325). -/
def execPass (t : Nat) (p : Port) (l : List Byte) (s : State) : Host.Outcome State Fault Refusal :=
  s.run t (fun s => s.onSet l (fun k => Nat.beq k 5) (fun x s => if x.isEnd then s else s.passReceived p x))

/-- A PASS set or a TS1 with END received (R324). -/
def execPassEnd (t : Nat) (p : Port) (lane : Nat) (l : List Byte) (s : State) : Host.Outcome State Fault Refusal :=
  s.runOn (decide (lane < 4)) t (fun s =>
    s.onSet l (fun k => Nat.beq k 5 || Nat.beq k 1) (fun x s => if !x.isEnd then s else if x.type = 5 then s.passReceived p x else s.tsReceived p lane x))

/-- A frame arrives at a port (R343). -/
def execFrameReceive (t : Nat) (p : Port) (f : RxFrame) (s : State) : Host.Outcome State Fault Refusal :=
  s.run t (fun s => s.receive p f)

/-- A frame that ends in an ABORT column (R331). -/
def execFrameAbort (t : Nat) (p : Port) (bytes : List Byte) (s : State) : Host.Outcome State Fault Refusal :=
  s.run t (fun s => s.frameAbort p bytes)

/-- An INIT credit set received (R341, R342). -/
def execCreditInit (t : Nat) (p : Port) (l : List Byte) (marked : Bool) (s : State) : Host.Outcome State Fault Refusal :=
  s.run t (fun s => if Nat.beq (leAt l 0 1 % 2) 1 then s.creditSet p l marked else s)

/-- A credit update received (R340, R341). -/
def execCreditUpdate (t : Nat) (p : Port) (l : List Byte) (marked : Bool) (s : State) : Host.Outcome State Fault Refusal :=
  s.run t (fun s => if Nat.beq (leAt l 0 1 % 2) 0 then s.creditSet p l marked else s)

/-- 10 us without INIT_ACK (R342). -/
def execCreditInitResend (t : Nat) (p : Port) (s : State) : Host.Outcome State Fault Refusal :=
  s.run t (fun s => s.creditInitResend p)

/-- A credit update is due (R342). -/
def execCreditUpdateSend (t : Nat) (p : Port) (s : State) : Host.Outcome State Fault Refusal :=
  s.run t (fun s => s.creditUpdateSend p)

/-- A frame has waited 1 ms for a port in UP (R347). -/
def execRouteWaitTimeout (t : Nat) (s : State) : Host.Outcome State Fault Refusal :=
  s.run t (fun s => s.routeTimeout)

/-- A port leaves UP for DOWN (R349). -/
def execLnkRingBreak (t : Nat) (p : Port) (s : State) : Host.Outcome State Fault Refusal :=
  s.run t (fun s => s.ringBreak p)

/-- Both ports are back in UP (R349). -/
def execLnkRingRestored (t : Nat) (s : State) : Host.Outcome State Fault Refusal :=
  s.run t (fun s => s.ringRestored)

/-- An ENUM OFFER arrives (R353). -/
def execOffer (t : Nat) (p : Port) (f : RxFrame) (s : State) : Host.Outcome State Fault Refusal :=
  s.run t (fun s => s.receiveType p f 0x38 (some 1))

/-- The wait for the onward port ends (R353). -/
def execEnumOnwardWaitEnd (t : Nat) (s : State) : Host.Outcome State Fault Refusal :=
  s.run t (fun s => s.onwardWaitEnd)

/-- An ENUM COMMIT arrives (R354). -/
def execCommit (t : Nat) (p : Port) (f : RxFrame) (s : State) : Host.Outcome State Fault Refusal :=
  s.run t (fun s => s.receiveType p f 0x38 (some 3))

/-- A TIME token arrives (R357, R358). -/
def execTime (t : Nat) (p : Port) (f : RxFrame) (s : State) : Host.Outcome State Fault Refusal :=
  s.run t (fun s => s.receiveType p f 0x30 none)

/-- LNK_TIME_PERIOD has passed on the time master (R361). -/
def execTimeTokenSend (t : Nat) (s : State) : Host.Outcome State Fault Refusal :=
  s.run t (fun s => s.timeSend)

/-- No TIME token for LNK_TIME_HOLDOVER (R359). -/
def execLnkTimeHoldover (t : Nat) (s : State) : Host.Outcome State Fault Refusal :=
  s.run t (fun s => s.timeHoldover)

/-- No TIME token for LNK_TIME_LOSS (R359). -/
def execLnkTimeLost (t : Nat) (s : State) : Host.Outcome State Fault Refusal :=
  s.run t (fun s => s.timeLost)

/-- LNK_TIME_MASTER written (R361). -/
def execLnkTimeMasterWrite (t : Nat) (r : Requester) (v : Nat) (s : State) : Host.Outcome State Fault Refusal :=
  s.run t (fun s => s.setNumber r Obj.LNK_TIME_MASTER 1 v)

/-- The four lanes of a port are locked and aligned (R303). -/
def execDeskewAcquired (t : Nat) (p : Port) (s : State) : Host.Outcome State Fault Refusal :=
  s.run t (fun s => s.deskewed p)

/-- A LOOP set received, answered after `turnaround` ps (R314). -/
def execLoopSet (t : Nat) (p : Port) (l : List Byte) (turnaround : Nat) (s : State) : Host.Outcome State Fault Refusal :=
  s.run t (fun s => s.onSet l (fun k => Nat.beq k 3) (fun x s => s.answerLoop p x turnaround))

/-- 1,024 error-free bits (R320). -/
def execPrbsSync (t : Nat) (p : Port) (lane : Nat) (s : State) : Host.Outcome State Fault Refusal :=
  s.runOn (decide (lane < 4)) t (fun s => s.prbsSync p lane)

/-- An output port finishes a frame (R337). -/
def execFrameBoundary (t : Nat) (p : Port) (s : State) : Host.Outcome State Fault Refusal :=
  s.run t (fun s => s.frameDone p)

end Sys2Proof.Machine
end

