-- ==== Sys2Proof/Machine/MonitorRows.lean ====
section
/-! DEFINITION. The commands of the analogue monitor (14). -/

namespace Sys2Proof.Machine

/-- AM_REF_ON_TIME reaches 5,000 us (R397, R403). -/
def execReferenceReady (t : Nat) (s : State) : Host.Outcome State Fault Refusal :=
  s.run t (fun s => s.refNowReady)

/-- AM_REF_BUFFER written (R397). -/
def execAmRefBuffer (t : Nat) (r : Requester) (v : Nat) (s : State) : Host.Outcome State Fault Refusal :=
  s.run t (fun s => s.setNumber r Obj.AM_REF_BUFFER 1 v)

/-- AM_SYNC_RESET written (R403). -/
def execAmSyncReset (t : Nat) (r : Requester) (v : Nat) (s : State) : Host.Outcome State Fault Refusal :=
  s.run t (fun s => s.setNumber r Obj.AM_SYNC_RESET 1 v)

/-- A channel's configuration or an input's factors written (R398, R403): `id` is 256 x index + subindex, of 0x2701 to 0x2703. -/
def execAmChannelConfigWrite (t : Nat) (r : Requester) (id : Nat) (value : List Byte) (s : State) : Host.Outcome State Fault Refusal :=
  s.runOn ((Nat.ble 0x270101 id && Nat.ble id 0x270106) || (Nat.ble 0x270201 id && Nat.ble id 0x270206) || (Nat.ble 0x270301 id && Nat.ble id 0x270310)) t (fun s =>
    s.setRequest r id value)

/-- A channel completes its settling count (R403). -/
def execChannelSettled (t : Nat) (c : Chan) (s : State) : Host.Outcome State Fault Refusal :=
  s.run t (fun s => s.chanSettled c)

/-- AM_CAL_START written (R405). -/
def execAmCalStart (t : Nat) (r : Requester) (v : Nat) (s : State) : Host.Outcome State Fault Refusal :=
  s.run t (fun s => s.setNumber r Obj.AM_CAL_START 1 v)

/-- 42 ms after acceptance (R406), with what was measured. -/
def execAmCalVerdict (t : Nat) (c : Chan) (m : MonCal) (s : State) : Host.Outcome State Fault Refusal :=
  s.run t (fun s => s.calEnds c m)

/-- The background correction after 2^20 samples (R401), with what it estimates. -/
def execBgFactorUpdate (t : Nat) (c : Chan) (m : MonCal) (s : State) : Host.Outcome State Fault Refusal :=
  s.run t (fun s => s.bgUpdate c m)

/-- The spur estimate has stayed below the limit, or 3.0 dB above it, for 1 s (R401). -/
def execAmSpurLow (t : Nat) (c : Chan) (s : State) : Host.Outcome State Fault Refusal :=
  s.run t (fun s => s.spurJudged c)

/-- The window of a unit opens at its gate's instant (R409). -/
def execAccWindowOpen (t : Nat) (u : MonUnit) (s : State) : Host.Outcome State Fault Refusal :=
  s.run t (fun s => s.windowOpen u)

/-- One output period after the last sample of a window (R410, R415): `codes` are the converted codes behind the outputs of the window that no earlier command has carried, the first of them from slice `slice`. -/
def execAccResultLatch (t : Nat) (u : MonUnit) (slice : Nat) (codes : List (BitVec 12)) (s : State) : Host.Outcome State Fault Refusal :=
  s.run t (fun s =>
    match u with
    | .acc i => if i < 8 then s.latchAcc i slice codes else s
    | .mm i => if i < 4 then s.latchMm i slice codes else s)

/-- A rising edge at a pin (R409, R411). -/
def execAccPinTrigger (t pin : Nat) (s : State) : Host.Outcome State Fault Refusal :=
  s.runOn (decide (pin < 256)) t (fun s =>
    (List.range 8).foldl (fun s i => if s.reg (Obj.AM_ACC_PIN i) = pin then s.trigAcc i 8 else s) (s.seePad pin true))

/-- AM_ACCi_CAPTURE of accumulator `k` written (R409, R411). -/
def execAmAccCapture (t : Nat) (r : Requester) (k v : Nat) (s : State) : Host.Outcome State Fault Refusal :=
  s.runOn (decide (k < 8)) t (fun s => s.setNumber r (Obj.AM_ACC_CAPTURE k) 1 v)

/-- AM_MMi_CLEAR of tracker `k` written (R415). -/
def execAmMmClear (t : Nat) (r : Requester) (k v : Nat) (s : State) : Host.Outcome State Fault Refusal :=
  s.runOn (decide (k < 4)) t (fun s => s.setNumber r (Obj.AM_MM_CLEAR k) 1 v)

/-- A detector block completes (R416). -/
def execGzBlockDone (t : Nat) (c : Chan) (slice : Nat) (codes : List (BitVec 12)) (s : State) : Host.Outcome State Fault Refusal :=
  s.run t (fun s => s.gzBlock c slice codes)

/-- A converter produces code 0 or 4,095 (R396). -/
def execAmClip (t : Nat) (c : Chan) (s : State) : Host.Outcome State Fault Refusal :=
  s.run t (fun s => s.clipped c)

/-- The sum of an accumulator would pass its limit (R408): `codes` are those up to then that no earlier command has carried. -/
def execAmAccOverflow (t k slice : Nat) (codes : List (BitVec 12)) (s : State) : Host.Outcome State Fault Refusal :=
  s.runOn (decide (k < 8)) t (fun s => s.overflowAcc k slice codes)

end Sys2Proof.Machine
end

