-- ==== Sys2Proof/Machine/PinRows.lean ====
section
/-! DEFINITION. The commands of the pins and the pin engines (15). -/

namespace Sys2Proof.Machine

/-- The codes of the eight bank supplies measured (R422). -/
def execBankVioSample (t : Nat) (codes : List Nat) (s : State) : Host.Outcome State Fault Refusal :=
  s.run t (fun s => s.sampleBanks codes)

/-- PE_PIN_CFG written (R423). -/
def execPePinCfg (t : Nat) (r : Requester) (bytes : List Byte) (s : State) : Host.Outcome State Fault Refusal :=
  s.run t (fun s => s.setWhole r Obj.PE_PIN_CFG bytes)

/-- No operation (R430). -/
def execCtlNop (e tick : Nat) (s : State) : Host.Outcome State Fault Refusal :=
  s.runOn (allBelow [(e, 32), (tick, 4)]) s.now (fun s => s.pinInstr e tick .nop)

/-- The oldest event entry into AG and CT (R430, R434). -/
def execCtlTake (e tick : Nat) (s : State) : Host.Outcome State Fault Refusal :=
  s.runOn (allBelow [(e, 32), (tick, 4)]) s.now (fun s => s.pinInstr e tick .take)

/-- AG plus CT (R430). -/
def execCtlAdd (e tick : Nat) (s : State) : Host.Outcome State Fault Refusal :=
  s.runOn (allBelow [(e, 32), (tick, 4)]) s.now (fun s => s.pinInstr e tick .add)

/-- AG minus CT (R430). -/
def execCtlSub (e tick : Nat) (s : State) : Host.Outcome State Fault Refusal :=
  s.runOn (allBelow [(e, 32), (tick, 4)]) s.now (fun s => s.pinInstr e tick .sub)

/-- AG and CT exchanged (R430). -/
def execCtlXch (e tick : Nat) (s : State) : Host.Outcome State Fault Refusal :=
  s.runOn (allBelow [(e, 32), (tick, 4)]) s.now (fun s => s.pinInstr e tick .xch)

/-- A constant into AG, CT or SO (R430). -/
def execLdk (e tick dst k : Nat) (s : State) : Host.Outcome State Fault Refusal :=
  s.runOn (allBelow [(e, 32), (tick, 4), (dst, 3), (k, 4)]) s.now (fun s => s.pinInstr e tick (.ldk dst k))

/-- A 9-bit value into AG or CT (R430). -/
def execLdi (e tick : Nat) (ct : Bool) (v : Nat) (s : State) : Host.Outcome State Fault Refusal :=
  s.runOn (allBelow [(e, 32), (tick, 4), (v, 512)]) s.now (fun s => s.pinInstr e tick (.ldi ct v))

/-- A source through an operation into a destination (R430); `pins` are the levels at the field pins, where the source is the field. -/
def execMove (e tick dst src op : Nat) (pins : BitVec 8) (s : State) : Host.Outcome State Fault Refusal :=
  s.runOn (allBelow [(e, 32), (tick, 4), (dst, 7), (src, 8), (op, 4)]) s.now (fun s =>
    (if src = 4 then s.seeField e pins.toNat else s).pinInstr e tick (.move dst src op))

/-- Field pin levels set to a value (R430). -/
def execPinLevels (e tick v : Nat) (s : State) : Host.Outcome State Fault Refusal :=
  s.runOn (allBelow [(e, 32), (tick, 4), (v, 256)]) s.now (fun s => s.pinInstr e tick (.pin 0 v))

/-- Field pins set (R430). -/
def execPinSet (e tick v : Nat) (s : State) : Host.Outcome State Fault Refusal :=
  s.runOn (allBelow [(e, 32), (tick, 4), (v, 256)]) s.now (fun s => s.pinInstr e tick (.pin 1 v))

/-- Field pins cleared (R430). -/
def execPinClear (e tick v : Nat) (s : State) : Host.Outcome State Fault Refusal :=
  s.runOn (allBelow [(e, 32), (tick, 4), (v, 256)]) s.now (fun s => s.pinInstr e tick (.pin 2 v))

/-- Field pin directions set (R430). -/
def execPinDirections (e tick v : Nat) (s : State) : Host.Outcome State Fault Refusal :=
  s.runOn (allBelow [(e, 32), (tick, 4), (v, 256)]) s.now (fun s => s.pinInstr e tick (.pin 3 v))

/-- `n` bits out of SO (R430, R431). -/
def execShout (e tick dst n : Nat) (s : State) : Host.Outcome State Fault Refusal :=
  s.runOn (allBelow [(e, 32), (tick, 4), (dst, 4), (n, 33), (0, n)]) s.now (fun s => s.pinInstr e tick (.shout dst n))

/-- `n` bits into SI (R430, R431); `pins` are the levels at the field pins, where the source is the field. -/
def execShin (e tick src n : Nat) (pins : BitVec 8) (s : State) : Host.Outcome State Fault Refusal :=
  s.runOn (allBelow [(e, 32), (tick, 4), (src, 4), (n, 33), (0, n)]) s.now (fun s =>
    (if src = 0 then s.seeField e pins.toNat else s).pinInstr e tick (.shin src n))

/-- SO from TX, or from AG (R430, R431). -/
def execFill (e tick : Nat) (ifReady block : Bool) (s : State) : Host.Outcome State Fault Refusal :=
  s.runOn (allBelow [(e, 32), (tick, 4)]) s.now (fun s => s.pinInstr e tick (.fill ifReady block))

/-- SI to RX (R430, R431). -/
def execSend (e tick : Nat) (ifReady block : Bool) (s : State) : Host.Outcome State Fault Refusal :=
  s.runOn (allBelow [(e, 32), (tick, 4)]) s.now (fun s => s.pinInstr e tick (.send ifReady block))

/-- A wait for a condition (R430, R432); `level` is that at the probe pin, where the condition is a pin. -/
def execAwait (e tick : Nat) (sense : Bool) (src idx : Nat) (level : Bool) (s : State) : Host.Outcome State Fault Refusal :=
  s.runOn (allBelow [(e, 32), (tick, 4)] && awaitExists sense src idx) s.now (fun s =>
    (if src = 0 then s.seeProbe e idx level else s).pinInstr e tick (.await sense src idx))

/-- A branch (R430); `level` is that at the probe pin, where the condition is a pin. -/
def execGo (e tick cond target : Nat) (level : Bool) (s : State) : Host.Outcome State Fault Refusal :=
  s.runOn (allBelow [(e, 32), (tick, 4), (cond, 14), (target, 32)]) s.now (fun s =>
    (if cond = 7 ∨ cond = 8 then s.seeProbe e 0 level else s).pinInstr e tick (.go cond target))

/-- A wait of `n` + 1 cycles (R430). -/
def execPause (e tick n : Nat) (s : State) : Host.Outcome State Fault Refusal :=
  s.runOn (allBelow [(e, 32), (tick, 4), (n, 1024)]) s.now (fun s => s.pinInstr e tick (.pause n))

/-- The condition of a stalled instruction looked at again (R429); `level` is that at the probe pin, where it waits for a pin. -/
def execPeStallRelease (t e : Nat) (level : Bool) (s : State) : Host.Outcome State Fault Refusal :=
  s.runOn (decide (e < 32)) t (fun s =>
    (match (s.pinEngine e).stall with
    | some ⟨.await _ 0 idx, _, _, _⟩ => s.seeProbe e idx level
    | _ => s).pinRelease e)

/-- A program written (R438, R439). -/
def execPeProgram (t : Nat) (r : Requester) (e : Nat) (bytes : List Byte) (s : State) : Host.Outcome State Fault Refusal :=
  s.runOn (decide (e < 32)) t (fun s => s.setWhole r (Obj.PEN_PROGRAM e) bytes)

/-- One word patched (R439). -/
def execPePatch (t : Nat) (r : Requester) (e v : Nat) (s : State) : Host.Outcome State Fault Refusal :=
  s.runOn (decide (e < 32)) t (fun s => s.setNumber r (Obj.PEN_PATCH e) 4 v)

/-- One instruction injected (R440). -/
def execPeInject (t : Nat) (r : Requester) (e v : Nat) (s : State) : Host.Outcome State Fault Refusal :=
  s.runOn (decide (e < 32)) t (fun s => s.setNumber r (Obj.PEN_INJECT e) 4 v)

/-- PE_ENABLE written (R441). -/
def execPeEnable (t : Nat) (r : Requester) (v : Nat) (s : State) : Host.Outcome State Fault Refusal :=
  s.run t (fun s => s.setNumber r Obj.PE_ENABLE 4 v)

/-- PE_RESTART written (R441). -/
def execPeRestart (t : Nat) (r : Requester) (v : Nat) (s : State) : Host.Outcome State Fault Refusal :=
  s.run t (fun s => s.setNumber r Obj.PE_RESTART 4 v)

/-- One word pushed into TX (R442). -/
def execPeTx (t : Nat) (r : Requester) (e v : Nat) (s : State) : Host.Outcome State Fault Refusal :=
  s.runOn (decide (e < 32)) t (fun s => s.setNumber r (Obj.PEN_TX e) 4 v)

/-- A GET of PE_n_RX (R442). -/
def execPeRx (t : Nat) (r : Requester) (e : Nat) (s : State) : Host.Outcome State Fault Refusal :=
  s.runOn (decide (e < 32)) t (fun s => s.request r 1 (getPayload (Obj.PEN_RX e)))

end Sys2Proof.Machine
end

