-- ==== Sys2Proof/Machine/PowerRows.lean ====
section
/-! DEFINITION. The commands of the power path and the hold-up cell (18). -/

namespace Sys2Proof.Machine

/-- VIN fails in INPUT (R492). -/
def execPwrHandover (t mV : Nat) (s : State) : Host.Outcome State Fault Refusal :=
  s.run t (fun s => s.powerStep (fun s => s.handover mV))

/-- The path reaches CELL (R493). -/
def execCellReached (t : Nat) (s : State) : Host.Outcome State Fault Refusal :=
  s.run t (fun s => s.powerStep State.cellReached)

/-- VIN qualifies in CELL (R493). -/
def execPwrVinRestored (t mV : Nat) (s : State) : Host.Outcome State Fault Refusal :=
  s.run t (fun s => s.powerStep (fun s => s.vinRestored mV))

/-- The 1 s bounce hold ends (R493). -/
def execBounceHoldEnd (t : Nat) (s : State) : Host.Outcome State Fault Refusal :=
  s.run t (fun s => s.powerStep State.bounceEnd)

/-- The hold-up time reaches PWR_HOLDUP_TIME (R494). -/
def execHoldupTimeExpiry (t : Nat) (s : State) : Host.Outcome State Fault Refusal :=
  s.run t (fun s => s.powerStep State.holdupOver)

/-- The cell is at its end in CELL (R494). -/
def execPwrCellCutoff (t cellMv : Nat) (s : State) : Host.Outcome State Fault Refusal :=
  s.run t (fun s => s.powerStep (fun s => s.cellCutoff cellMv))

/-- SHUTDOWN ends (R494). -/
def execShutdownComplete (t : Nat) (s : State) : Host.Outcome State Fault Refusal :=
  s.run t (fun s => s.powerStep State.shutdownDone)

/-- The demand on the input (R488, R489). -/
def execPowerDemandExcess (t : Nat) (d : PowerDemand) (s : State) : Host.Outcome State Fault Refusal :=
  s.run t (fun s => s.powerStep (fun s => s.demand d))

/-- A phase of a supplement event (R490). -/
def execSupplementPhase (t : Nat) (s : State) : Host.Outcome State Fault Refusal :=
  s.run t (fun s => s.powerStep State.supplementPhase)

/-- The tile's demand exceeds input and supplement for 1 ms (R489). -/
def execPwrOverload (t mW : Nat) (s : State) : Host.Outcome State Fault Refusal :=
  s.run t (fun s => s.powerStep (fun s => s.overloaded mW))

/-- The measurements of every 10 ms (R495). -/
def execHoldupEnergyUpdate (t : Nat) (r : PowerReading) (s : State) : Host.Outcome State Fault Refusal :=
  s.run t (fun s => s.powerStep (fun s => s.energyUpdate r))

/-- The cell has held 2.5 V for 1 s (R500). -/
def execPrechargeEnd (t : Nat) (s : State) : Host.Outcome State Fault Refusal :=
  s.run t (fun s => s.powerStep State.prechargeEnd)

/-- The cell reaches the voltage limit (R500). -/
def execChargeVoltageLimit (t : Nat) (s : State) : Host.Outcome State Fault Refusal :=
  s.run t (fun s => s.powerStep State.voltageLimit)

/-- The charge current has been low for 1 s (R500). -/
def execPwrChgDone (t : Nat) (s : State) : Host.Outcome State Fault Refusal :=
  s.run t (fun s => s.powerStep State.chargeDone)

/-- The cell has been below 3.35 V for 1 s (R500). -/
def execRechargeStart (t cellMv : Nat) (s : State) : Host.Outcome State Fault Refusal :=
  s.run t (fun s => s.powerStep (fun s => s.rechargeStart cellMv))

/-- The safety timer runs out (R501). -/
def execPwrChgTimer (t : Nat) (s : State) : Host.Outcome State Fault Refusal :=
  s.run t (fun s => s.powerStep State.timerOut)

/-- The cell's NTC read (R498): `none` when it reads open. -/
def execNtcSample (t : Nat) (ohm : Option Nat) (cellMv : Nat) (s : State) : Host.Outcome State Fault Refusal :=
  s.run t (fun s => s.powerStep (fun s => s.ntcSample ohm cellMv))

/-- PWR_CHG_RESTART written (R501). -/
def execPwrChgRestart (t : Nat) (r : Requester) (v : Nat) (s : State) : Host.Outcome State Fault Refusal :=
  s.run t (fun s => s.setNumber r Obj.PWR_CHG_RESTART 1 v)

/-- PWR_SHIP written (R502). -/
def execPwrShip (t : Nat) (r : Requester) (v : Nat) (s : State) : Host.Outcome State Fault Refusal :=
  s.run t (fun s => s.setNumber r Obj.PWR_SHIP 1 v)

/-- WAKE_N low for 100 ms (R503). -/
def execWakeNHold (t : Nat) (s : State) : Host.Outcome State Fault Refusal :=
  s.run t (fun s => s.powerStep State.shipEnd)

/-- VIN rises to 18.0 V or above (R503). -/
def execShipEndVin (t mV : Nat) (s : State) : Host.Outcome State Fault Refusal :=
  s.run t (fun s => if 18000 ≤ mV then s.powerStep State.shipEnd else s)

end Sys2Proof.Machine
end

