-- ==== Sys2Proof/Machine/ServiceRows.lean ====
section
/-! DEFINITION. The commands of calibration, security, the event log and the hours (19, 20, 21), and the Curator's wait (07). -/

namespace Sys2Proof.Machine

/-- CAL_RUN 1 written (R515). -/
def execDark (t : Nat) (r : Requester) (s : State) : Host.Outcome State Fault Refusal :=
  s.run t (fun s => s.setNumber r Obj.CAL_RUN 1 1)

/-- CAL_RUN 2 written (R515). -/
def execFlat (t : Nat) (r : Requester) (s : State) : Host.Outcome State Fault Refusal :=
  s.run t (fun s => s.setNumber r Obj.CAL_RUN 1 2)

/-- A calibration run fires its own trigger (R516). -/
def execCalRunTrigger (t : Nat) (s : State) : Host.Outcome State Fault Refusal :=
  s.run t (fun s => s.calTrigger)

/-- The result of the run is decided (R517-R520). -/
def execCalRunResult (t : Nat) (s : State) : Host.Outcome State Fault Refusal :=
  s.run t (fun s => s.runResult)

/-- CAL_COMMIT written (R522). -/
def execCalCommit (t : Nat) (r : Requester) (v : Nat) (s : State) : Host.Outcome State Fault Refusal :=
  s.run t (fun s => s.setNumber r Obj.CAL_COMMIT 1 v)

/-- The last page is written (R523). -/
def execCalCommitted (t : Nat) (s : State) : Host.Outcome State Fault Refusal :=
  s.run t (fun s => s.longDone (fun op => decide (op = .calCommit)))

/-- A firmware image written (R535). -/
def execSecFwImage (t : Nat) (r : Requester) (bytes : List Byte) (s : State) : Host.Outcome State Fault Refusal :=
  s.run t (fun s => s.setWhole r Obj.SEC_FW_IMAGE bytes)

/-- SEC_FW_ACTIVATE 1 written (R536). -/
def execSecFwActivateTarget (t : Nat) (r : Requester) (s : State) : Host.Outcome State Fault Refusal :=
  s.run t (fun s => s.setNumber r Obj.SEC_FW_ACTIVATE 1 1)

/-- SEC_FW_ACTIVATE 0 written (R536). -/
def execSecFwActivateRunning (t : Nat) (r : Requester) (s : State) : Host.Outcome State Fault Refusal :=
  s.run t (fun s => s.setNumber r Obj.SEC_FW_ACTIVATE 1 0)

/-- SEC_SVN_COMMIT written (R533). -/
def execSecSvnCommit (t : Nat) (r : Requester) (v : Nat) (s : State) : Host.Outcome State Fault Refusal :=
  s.run t (fun s => s.setNumber r Obj.SEC_SVN_COMMIT 1 v)

/-- SEC_OWNER_ENROL written (R539). -/
def execSecOwnerEnrol (t : Nat) (r : Requester) (bytes : List Byte) (s : State) : Host.Outcome State Fault Refusal :=
  s.run t (fun s => s.setRequest r Obj.SEC_OWNER_ENROL bytes)

/-- The key is blown (R539). -/
def execSecOwnerEnrolled (t : Nat) (s : State) : Host.Outcome State Fault Refusal :=
  s.run t (fun s => s.longDone (fun op => decide (op = .enrol)))

/-- A GET of SEC_AUTH_CHALLENGE (R541). -/
def execSecAuthChallenge (t : Nat) (r : Requester) (s : State) : Host.Outcome State Fault Refusal :=
  s.run t (fun s => s.request r 1 (getPayload Obj.SEC_AUTH_CHALLENGE))

/-- SEC_AUTH_RESPONSE written (R541). -/
def execSecAuthResponse (t : Nat) (r : Requester) (sig : List Byte) (s : State) : Host.Outcome State Fault Refusal :=
  s.run t (fun s => s.setRequest r Obj.SEC_AUTH_RESPONSE sig)

/-- SEC_AUTH_REVOKE written (R541). -/
def execSecAuthRevoke (t : Nat) (r : Requester) (v : Nat) (s : State) : Host.Outcome State Fault Refusal :=
  s.run t (fun s => s.setNumber r Obj.SEC_AUTH_REVOKE 1 v)

/-- A grant's time runs out (R541). -/
def execAuthGrantExpiry (t : Nat) (s : State) : Host.Outcome State Fault Refusal :=
  s.run t (fun s => s.grantExpiry)

/-- A challenge has waited 60 s (R541). -/
def execAuthChallengeExpiry (t : Nat) (s : State) : Host.Outcome State Fault Refusal :=
  s.run t (fun s => s.challengeExpiry)

/-- The lockout ends (R541). -/
def execAuthLockoutEnd (t : Nat) (s : State) : Host.Outcome State Fault Refusal :=
  s.run t (fun s => s.lockoutEnd)

/-- The holdoff of an event code ends (R555). -/
def execEventHoldoffExpiry (t code : Nat) (s : State) : Host.Outcome State Fault Refusal :=
  s.runOn (decide (code < 65536)) t (fun s => s.holdoffEnd code)

/-- EVT_LOG_CLEAR written (R292). -/
def execEvtLogClear (t : Nat) (r : Requester) (v : Nat) (s : State) : Host.Outcome State Fault Refusal :=
  s.run t (fun s => s.setNumber r Obj.EVT_LOG_CLEAR 1 v)

/-- EVT_FAULT_HISTORY_CLEAR written (R562). -/
def execEvtFaultHistoryClear (t : Nat) (r : Requester) (v : Nat) (s : State) : Host.Outcome State Fault Refusal :=
  s.run t (fun s => s.setNumber r Obj.EVT_FAULT_HISTORY_CLEAR 1 v)

/-- A whole hour outside OFF (R561). -/
def execOnHoursTick (t : Nat) (s : State) : Host.Outcome State Fault Refusal :=
  s.run t (fun s => s.onHour)

/-- A whole hour in RUN (R561). -/
def execRunHoursTick (t : Nat) (s : State) : Host.Outcome State Fault Refusal :=
  s.run t (fun s => s.runHour)

/-- The oldest queued task has waited CU_STEAL_WAIT (R183, R184). -/
def execStealWaitExpiry (t : Nat) (s : State) : Host.Outcome State Fault Refusal :=
  s.run t (fun s => s.stealWake)

end Sys2Proof.Machine
end

