-- ==== Sys2Proof/Machine/EngineMem.lean ====
section
/-! DEFINITION. Strip-engine instructions that reach memory, the ports or the Archive, and may wait or fault (05 R109, R110, R119-R133, R137); fetches
that land. -/

namespace Sys2Proof.Machine

/-! ## Access (R109, R110, R137) -/

/-- LDM_LIMIT of the engine's image. -/
def Engine.limit (g : Engine) : Nat := match g.image with | some i => i.ldmLimit | none => 0

/-- How an instruction fares: it waits, faults with a cause, or has its effect. -/
inductive Fared where
  | waits
  | faults (cause : Nat)
  | done (s : State)

/-- The addresses of an access checked: `n` bytes from each of some addresses, aligned, loadable or storable. -/
def Engine.permits (g : Engine) (store : Bool) (align : Nat) (addrs : List Nat) : Bool :=
  addrs.all (fun a => Nat.beq (a % align) 0 && (if store then Nat.blt a g.limit else loadable g.limit a))

/-- An access: a fault where it is not permitted, a wait where it touches the landing area of an outstanding tag (R129). -/
def State.access (s : State) (g : Engine) (store : Bool) (align n : Nat) (addrs : List Nat) (f : State) : Fared :=
  if !(g.permits store align addrs) then .faults 0
  else if addrs.any (fun a => g.touches a n) then .waits
  else .done f

/-- The active lanes of a predicate with what they carry. -/
def activeOf {α : Type} (p : Half) (l : List α) : List α := ((lanesOf p).zip l).filterMap (fun x => if x.1 then some x.2 else none)

/-- The extra cycles of a lookup: the most distinct addresses in one bank, less 1 (R119). -/
def lutConflicts (addrs : List Nat) : Nat :=
  let d := distinct addrs
  (List.range 32).foldl (fun m b => Nat.max m (d.filter (fun a => Nat.beq (a / 2 % 32) b)).length) 0 - 1

/-- The bytes of a vector's active lanes stored at their addresses. -/
def Engine.storeLanes (g : Engine) (base : Nat) (p : Half) (v : List Half) : Engine :=
  ((lanesOf p).zip ((vecAddrs base).zip v)).foldl (fun g x => if x.1 then g.ldmWrite x.2.1 (leBytes 2 x.2.2.toNat) else g) g

/-! ## Fetches (R127-R130, R186) -/

/-- Bytes of a task's FETCH space: the table section of its image, or the used extent of its Folio's reference slot (R127, R218). -/
def State.spaceBytes (s : State) (t : Task) (table : Bool) : Nat :=
  if table then t.image.u32 0x30 else match s.lineRec t.number with | some l => refExtent l.bank | none => 0

/-- A FETCH refused (R128): its tag completes with length 0, and the ESTAT bit `k` is set. -/
def State.fetchRefused (s : State) (e tag landing k : Nat) : State :=
  let s1 := s.onEngine e (fun g => (g.setTag tag ⟨0, 0, landing, false, true, true, 0⟩).stick k true)
  (s1.bump Obj.SE_FETCH_ERRORS).event 0x2312 0

/-- FETCH (R127, R128, R129, R186). Operands that are not the multiples of 32 that R127 asks for are refused as out of range (log entry 21). -/
def State.fetchTry (s : State) (e rd ra rb tag : Nat) (table : Bool) : Fared :=
  let g := s.engine e
  match g.task with
  | none => .waits
  | some t =>
    let landing := (g.sreg rd).toNat % 65536
    let off := (g.sreg ra).toNat
    let len := (g.sreg rb).toNat
    let busy := match g.tag tag with | some f => !f.done | none => false
    let s1 := s.instr e [rS rd, rS ra, rS rb] 0 [] Engine.next
    let odd := !(Nat.beq (landing % 32) 0 && Nat.beq (off % 32) 0 && Nat.beq (len % 32) 0 && Nat.ble 32 len && Nat.ble len 16384)
    if busy || (!odd && g.touches landing len) then .waits
    else if odd || Nat.blt (s.spaceBytes t table) (off + len) || Nat.blt g.limit (landing + len) then
      .done (s1.fetchRefused e tag landing 3)
    else if t.image.refBytes (s.taskKernel t) < g.fetched + len then .done (s1.fetchRefused e tag landing 4)
    else if 1024 ≤ s.fetchesOut then .waits
    else
      let slot := match s.lineRec t.number with | some l => slotBase l.slot | none => 0
      let at_ := if table then t.image.u32 0x2C + off else slot + off
      .done (s1.onEngine e (fun g => { (g.setTag tag ⟨at_, len, landing, table, true, false, 0⟩) with fetched := g.fetched + len }))

/-! ## Ports (R124, R126, R129) -/

/-- POP LINE (R124): the next vector once it has arrived; 0xFFFF and LINE_UNDER beyond the last. -/
def State.popLineTry (s : State) (e rd pg : Nat) : Fared :=
  let g := s.engine e
  match g.task with
  | none => .waits
  | some t =>
    let n := s.lineVectors t
    if g.popped < n ∧ g.arrived ≤ g.popped then .waits
    else
      let under := Nat.ble n g.popped
      let new := if under then splat 0xFFFF else s.lineVector t g.popped
      .done (s.instr e [rP pg] 0 [(rV rd, 2)] (fun g =>
        let g1 := { g with popped := if under then g.popped else g.popped + 1 }
        ((g1.setV rd (mergeLanes (g.preg pg) new (g.vreg rd))).stick 1 under).next))

/-- Bytes appended to OUT (R126). -/
def State.pushBytes (s : State) (e : Nat) (srcs : List Nat) (l : List Byte) : State :=
  let g := s.engine e
  match g.task with
  | none => s
  | some t =>
    let s1 := s.instr e srcs 0 [] Engine.next
    if s1.engine e = g then s
    else
      let (s2, kept) := s1.overflowed e (t.image.outBytes (s.taskKernel t)) l g.outBytes
      s2.onEngine e (fun g => { g with out := g.out ++ kept, outBytes := g.outBytes + l.length })

/-- WAITTAG (R129): the REF port at the start of the tag's data. -/
def State.waitTry (s : State) (e tag : Nat) : Fared :=
  let g := s.engine e
  let go := fun (at_ n : Nat) => Fared.done (s.instr e [] 0 [] (fun g => { g.next with refAt := at_, refLen := n, refPos := 0 }))
  match g.tag tag with
  | none => go 0 0
  | some f => if f.done then go f.landing f.landed else .waits

/-! ## Held instructions -/

/-- An instruction of engine `e` tried; for PUSH and PUSHS the OUT buffer has room. -/
def State.tryHeld (s : State) (e : Nat) (h : Held) : Fared :=
  let g := s.engine e
  match h with
  | .ldw rd ra imm =>
    let a := ldmAddr (g.sreg ra) imm
    s.access g false 4 4 [a] (s.instr e [rS ra] 0 [(rS rd, 3)] (fun g => (g.setS rd (BitVec.ofNat 32 (g.ldmLe a 4))).next))
  | .stw rd ra imm =>
    let a := ldmAddr (g.sreg ra) imm
    s.access g true 4 4 [a] (s.instr e [rS ra, rS rd] 0 [] (fun g => (g.ldmWrite a (leBytes 4 (g.sreg rd).toNat)).next))
  | .ldh rd ra imm =>
    let a := ldmAddr (g.sreg ra) imm
    s.access g false 2 2 [a] (s.instr e [rS ra] 0 [(rS rd, 3)] (fun g => (g.setS rd (BitVec.ofNat 32 (g.ldmLe a 2))).next))
  | .sth rd ra imm =>
    let a := ldmAddr (g.sreg ra) imm
    s.access g true 2 2 [a] (s.instr e [rS ra, rS rd] 0 [] (fun g => (g.ldmWrite a (leBytes 2 (g.sreg rd).toNat)).next))
  | .vlut rd ra rb pg k =>
    let addrs := (g.vreg rb).map (fun x => fromSigned 16 ((g.sreg ra).toNat + 2 * (x.toNat / 2 ^ k) : Nat))
    let act := activeOf (g.preg pg) addrs
    let c := lutConflicts act
    s.access g false 2 2 act (s.instr e [rS ra, rV rb, rP pg] c [(rV rd, 4 + c)] (fun g =>
      (g.setV rd (mergeLanes (g.preg pg) (addrs.map (fun a => BitVec.ofNat 16 (g.ldmLe a 2))) (g.vreg rd))).next))
  | .vld rd ra pg off inc =>
    let a := ldmAddr (g.sreg ra) (32 * off)
    s.access g false 2 2 (vecAddrs a) (s.instr e [rS ra, rP pg] 0 ((rV rd, 3) :: (if inc then [(rS ra, 1)] else [])) (fun g =>
      let g1 := g.setV rd (mergeLanes (g.preg pg) (g.ldmVec a) (g.vreg rd))
      (if inc then g1.setS ra (g.sreg ra + 32) else g1).next))
  | .vst rd ra pg off inc =>
    let a := ldmAddr (g.sreg ra) (32 * off)
    s.access g true 2 2 (vecAddrs a) (s.instr e [rS ra, rV rd, rP pg] 0 (if inc then [(rS ra, 1)] else []) (fun g =>
      let g1 := g.storeLanes a (g.preg pg) (g.vreg rd)
      (if inc then g1.setS ra (g.sreg ra + 32) else g1).next))
  | .fetch rd ra rb tag table => s.fetchTry e rd ra rb tag table
  | .wait tag => s.waitTry e tag
  | .popLine rd pg => s.popLineTry e rd pg
  | .push ra => .done (s.pushBytes e [rV ra] ((g.vreg ra).flatMap (fun h => leBytes 2 h.toNat)))
  | .pushs ra => .done (s.pushBytes e [rS ra] (leBytes 4 (g.sreg ra).toNat))
  | .finish => if g.zeroDone then .done (s.yieldTask e) else .waits

/-- The sources of an instruction that may wait, for its issue cycle. -/
def Held.sources : Held → List Nat
  | .ldw _ ra _ => [rS ra]
  | .stw rd ra _ => [rS ra, rS rd]
  | .ldh _ ra _ => [rS ra]
  | .sth rd ra _ => [rS ra, rS rd]
  | .vlut _ ra rb pg _ => [rS ra, rV rb, rP pg]
  | .vld _ ra pg _ _ => [rS ra, rP pg]
  | .vst rd ra pg _ _ => [rS ra, rV rd, rP pg]
  | .fetch rd ra rb _ _ => [rS rd, rS ra, rS rb]
  | .wait _ => []
  | .popLine _ pg => [rP pg]
  | .push ra => [rV ra]
  | .pushs ra => [rS ra]
  | .finish => []

/-- Does a FETCH that waits need an entry of the fetch table (R186)? -/
def State.needsEntry (s : State) (e : Nat) (h : Held) : Bool :=
  let g := s.engine e
  match h with
  | .fetch rd ra rb tag _ =>
    Nat.ble 1024 s.fetchesOut && !(match g.tag tag with | some f => !f.done | none => false) &&
      !(g.touches ((g.sreg rd).toNat % 65536) (g.sreg rb).toNat)
  | _ => false

/-- An instruction that waits is held; a FETCH that waits for the table joins its queue and is counted once. -/
def State.holdInstr (s : State) (e : Nat) (h : Held) : State :=
  let s1 := s.onEngine e (fun g => { g with held := some h })
  if s.needsEntry e h && !(s.cu.fetchers.contains e) then
    let s2 := s1.bump Obj.CU_FETCH_WAITS
    { s2 with cu := { s2.cu with fetchers := s2.cu.fetchers ++ [e] } }
  else s1

/-- An instruction that may wait or fault issues: nothing past C_cut (R136). -/
def State.issue (s : State) (e : Nat) (h : Held) : State :=
  let g := s.engine e
  match g.task with
  | none => s
  | some t =>
    if g.runs && Nat.ble (g.issueCycle h.sources) (cutCycles (t.image.wcet (s.taskKernel t))) then
      match s.tryHeld e h with
      | .waits => s.holdInstr e h
      | .faults c => s.taskFault e c
      | .done s1 => s1
    else s

/-- The held instruction of an engine tried again. -/
def State.retry (s : State) (e : Nat) : State :=
  match (s.engine e).held with
  | none => s
  | some h => (s.onEngine e (fun g => { g with held := none })).issue e h

/-- A push: it waits while the OUT buffer is full (R126). -/
def State.pushInstr (s : State) (e : Nat) (h : Held) (full : Bool) : State :=
  if full && (s.engine e).runs then s.onEngine e (fun g => { g with held := some h }) else s.issue e h

/-- The OUT buffer has drained: a waiting push goes on (R126). -/
def State.outSpace (s : State) (e : Nat) : State :=
  match (s.engine e).held with
  | some (.push _) => s.retry e
  | some (.pushs _) => s.retry e
  | _ => s

/-- Vectors of the task's samples arrive from the Vault (R124). -/
def State.lineArrives (s : State) (e n : Nat) : State :=
  if (s.engine e).task.isSome then
    let s1 := s.onEngine e (fun g => { g with arrived := g.arrived + n })
    match (s1.engine e).held with
    | some (.popLine _ _) => s1.retry e
    | _ => s1
  else s

/-! ## Fetches land (R127-R130, R187, R215) -/

/-- The bytes of a fetch that completes, or `none` where the Archive reports an uncorrectable word. -/
def State.fetched (s : State) (i : Image) (f : Fetch) (bad : List Nat) : State × Option (List Byte) :=
  if f.table then (s.moved f.length, some (sliceBytes i.bytes f.address f.length))
  else
    let (s1, hit) := s.readWords f.address f.length bad
    (s1, if hit = [] then some (s1.archRead f.address f.length) else none)

/-- The prefetch for a task that has not started lands: its bytes are kept until it starts (log entry 22). -/
def State.preComplete (s : State) (e : Nat) (bad : List Nat) : State :=
  match (s.engine e).pre with
  | some (t, f) =>
    if f.issued && !f.done then
      let (s1, data) := s.fetched t.image f bad
      match data with
      | some l => s1.onEngine e (fun g => { g with pre := some (t, { f with done := true, landed := f.length }), preData := l })
      | none =>
        let s2 := s1.onEngine e (fun g => { g with pre := some (t, { f with done := true, landed := 0 }), preData := [] })
        (s2.bump Obj.SE_FETCH_ERRORS).event 0x2312 0
    else s
  | none => s

/-- The last bytes of tag `tag` land (R127, R128, R129): for tag 0 of the task that runs, else of the one prefetched for. -/
def State.tagComplete (s : State) (e tag : Nat) (bad : List Nat) : State :=
  let g := s.engine e
  match g.task, g.tag tag with
  | some t, some f =>
    if f.issued && !f.done then
      let (s1, data) := s.fetched t.image f bad
      let s2 := match data with
        | some l =>
          let land := fun (g : Engine) => match t.image.slot with
            | some _ => g.ldmWrite f.landing l
            | none => { g with refData := l }
          s1.onEngine e (fun g => (land g).setTag tag { f with done := true, landed := f.length })
        | none => s1.fetchRefused e tag f.landing 3
      s2.retry e
    else s.preComplete e bad
  | _, _ => s.preComplete e bad

/-- An entry of the fetch table is free: the fetch that has waited longest goes on (R186). -/
def State.entryFreed (s : State) : State :=
  match s.cu.fetchers with
  | [] => s
  | e :: r =>
    if 1024 ≤ s.fetchesOut then s
    else
      let s1 := { s with cu := { s.cu with fetchers := r } }
      match (s1.engine e).held with
      | some (.fetch _ _ _ _ _) => s1.retry e
      | _ => s1.prefetchNow e

/-- The lanes of a VCMP: EQ, NE, LT, LE, LTU, LEU by number, 0 where the predicate is 0 (R112, R116). -/
def compareLanes (cmp : Nat) (p : Half) (a b : List Half) : Half :=
  let c := fun (x y : Half) => match cmp with
    | 0 => x == y
    | 1 => x != y
    | 2 => decide (x.toInt < y.toInt)
    | 3 => decide (x.toInt ≤ y.toInt)
    | 4 => decide (x.toNat < y.toNat)
    | _ => decide (x.toNat ≤ y.toNat)
  BitVec.ofNat 16 (bitsToNat (List.zipWith (fun g (x : Half × Half) => g && c x.1 x.2) (lanesOf p) (a.zip b)))

/-! ## Control (R113, R120-R122) -/

/-- JR (R113, R121): a target outside the code is a task fault. -/
def State.jumpReg (s : State) (e ra : Nat) : State :=
  let g := s.engine e
  match g.task with
  | none => s
  | some t =>
    let target := (g.sreg ra).toNat % 4096
    if g.runs && Nat.ble (g.issueCycle [rS ra]) (cutCycles (t.image.wcet (s.taskKernel t))) then
      if t.image.codeWords ≤ target then s.taskFault e 2 else s.instr e [rS ra] 1 [] (fun g => g.jump target)
    else s

/-- JAL (R113). -/
def State.jumpLink (s : State) (e rd : Nat) (imm : BitVec 16) : State :=
  s.instr e [] 1 [(rS rd, 2)] (fun g => (g.setS rd (BitVec.ofNat 32 (g.pc + 1))).jump (relTarget g.pc imm))

/-- LOOP (R120): a body of `b` instructions, `s[ra]` times; a third active loop is a task fault. -/
def State.loopInstr (s : State) (e ra b : Nat) : State :=
  let g := s.engine e
  match g.task with
  | none => s
  | some t =>
    if g.runs && Nat.ble (g.issueCycle [rS ra]) (cutCycles (t.image.wcet (s.taskKernel t))) then
      if 2 ≤ g.loops.length then s.taskFault e 1
      else s.instr e [rS ra] 0 [] (fun g =>
        let n := (g.sreg ra).toNat
        if n = 0 then
          let (pc, l) := loopNext (g.pc + b) g.loops
          { g with pc := pc, loops := l }
        else { g with pc := g.pc + 1, loops := ⟨g.pc + 1, g.pc + b, n⟩ :: g.loops })
    else s

/-- SGET (R122). -/
def State.sgetInstr (s : State) (e rd sel : Nat) : State :=
  match (s.engine e).task with
  | none => s
  | some t => s.instr e [] 0 [(rS rd, 1)] (fun g => (g.setS rd (BitVec.ofNat 32 (s.taskValue e g t sel))).next)

/-- EVENT (R132): the event leaves the engine at the end of the issue cycle. -/
def State.eventInstr (s : State) (e line ra : Nat) : State :=
  let g := s.engine e
  let s1 := s.instr e [rS ra] 0 [] Engine.next
  if s1.engine e = g then s else s1.raiseEvent e line ((g.sreg ra).toNat % 65536)

end Sys2Proof.Machine
end

