-- ==== Sys2Proof/Machine/StripRows.lean ====
section
/-! DEFINITION. The commands of the strip engines and the Curator (05, 07). -/

namespace Sys2Proof.Machine

/-- A load completes (R107). -/
def execKernelLoadDone (t e : Nat) (s : State) : Host.Outcome State Fault Refusal :=
  s.runOn (decide (e < 128)) t (fun s => s.loadDone e)

/-- A free engine takes its next task (R181, R183). -/
def execTaskStart (t e : Nat) (s : State) : Host.Outcome State Fault Refusal :=
  s.runOn (decide (e < 128)) t (fun s => s.taskStart e)

/-- An idle hall's clock stops (R184). -/
def execHallClockStop (t h : Nat) (s : State) : Host.Outcome State Fault Refusal :=
  s.runOn (decide (h < 8)) t (fun s => s.hallStop h)

/-- A restarted hall runs (R184). -/
def execHallClockReady (t h : Nat) (s : State) : Host.Outcome State Fault Refusal :=
  s.runOn (decide (h < 8)) t (fun s => s.hallReady h)

/-- Nothing, for one cycle (R113). -/
def execSysNop (e : Nat) (s : State) : Host.Outcome State Fault Refusal :=
  s.runOn (allBelow [(e, 128)]) s.now (fun s => s.instr e [] 0 [] Engine.next)

/-- The task ends (R134): a cycle is issued, then the engine drains. -/
def execSysYield (e : Nat) (s : State) : Host.Outcome State Fault Refusal :=
  s.runOn (allBelow [(e, 128)]) s.now (fun s =>
    let s1 := s.instr e [] 0 [] id
    if s1.engine e = s.engine e then s else s1.yieldTask e)

/-- The result moves to staging and the engine becomes free (R134, R193). -/
def execYieldDrainDone (t e : Nat) (s : State) : Host.Outcome State Fault Refusal :=
  s.runOn (decide (e < 128)) t (fun s => s.drainDone e)

/-- Scalar add (R114). -/
def execSaluAdd (e rd ra rb : Nat) (s : State) : Host.Outcome State Fault Refusal :=
  s.runOn (allBelow [(e, 128), (rd, 32), (ra, 32), (rb, 32)]) s.now (fun s => s.salu e rd ra rb 1 (fun a b => a + b))

/-- Scalar subtract (R114). -/
def execSaluSub (e rd ra rb : Nat) (s : State) : Host.Outcome State Fault Refusal :=
  s.runOn (allBelow [(e, 128), (rd, 32), (ra, 32), (rb, 32)]) s.now (fun s => s.salu e rd ra rb 1 (fun a b => a - b))

/-- Scalar AND (R114). -/
def execSaluAnd (e rd ra rb : Nat) (s : State) : Host.Outcome State Fault Refusal :=
  s.runOn (allBelow [(e, 128), (rd, 32), (ra, 32), (rb, 32)]) s.now (fun s => s.salu e rd ra rb 1 (fun a b => a &&& b))

/-- Scalar OR (R114). -/
def execSaluOr (e rd ra rb : Nat) (s : State) : Host.Outcome State Fault Refusal :=
  s.runOn (allBelow [(e, 128), (rd, 32), (ra, 32), (rb, 32)]) s.now (fun s => s.salu e rd ra rb 1 (fun a b => a ||| b))

/-- Scalar XOR (R114). -/
def execSaluXor (e rd ra rb : Nat) (s : State) : Host.Outcome State Fault Refusal :=
  s.runOn (allBelow [(e, 128), (rd, 32), (ra, 32), (rb, 32)]) s.now (fun s => s.salu e rd ra rb 1 (fun a b => a ^^^ b))

/-- Left shift by s[rb][4:0] (R114). -/
def execSaluSll (e rd ra rb : Nat) (s : State) : Host.Outcome State Fault Refusal :=
  s.runOn (allBelow [(e, 128), (rd, 32), (ra, 32), (rb, 32)]) s.now (fun s => s.salu e rd ra rb 1 (fun a b => a <<< (b.toNat % 32)))

/-- Logical right shift by s[rb][4:0] (R114). -/
def execSaluSrl (e rd ra rb : Nat) (s : State) : Host.Outcome State Fault Refusal :=
  s.runOn (allBelow [(e, 128), (rd, 32), (ra, 32), (rb, 32)]) s.now (fun s => s.salu e rd ra rb 1 (fun a b => a >>> (b.toNat % 32)))

/-- Arithmetic right shift by s[rb][4:0] (R114). -/
def execSaluSra (e rd ra rb : Nat) (s : State) : Host.Outcome State Fault Refusal :=
  s.runOn (allBelow [(e, 128), (rd, 32), (ra, 32), (rb, 32)]) s.now (fun s => s.salu e rd ra rb 1 (fun a b => a.sshiftRight (b.toNat % 32)))

/-- Low 32 bits of the product (R114). -/
def execSaluMul (e rd ra rb : Nat) (s : State) : Host.Outcome State Fault Refusal :=
  s.runOn (allBelow [(e, 128), (rd, 32), (ra, 32), (rb, 32)]) s.now (fun s => s.salu e rd ra rb 3 (fun a b => a * b))

/-- High 32 bits of the signed product (R114). -/
def execSaluMulhs (e rd ra rb : Nat) (s : State) : Host.Outcome State Fault Refusal :=
  s.runOn (allBelow [(e, 128), (rd, 32), (ra, 32), (rb, 32)]) s.now (fun s =>
    s.salu e rd ra rb 3 (fun a b => BitVec.ofInt 32 (Int.fdiv (a.toInt * b.toInt) 4294967296)))

/-- High 32 bits of the unsigned product (R114). -/
def execSaluMulhu (e rd ra rb : Nat) (s : State) : Host.Outcome State Fault Refusal :=
  s.runOn (allBelow [(e, 128), (rd, 32), (ra, 32), (rb, 32)]) s.now (fun s =>
    s.salu e rd ra rb 3 (fun a b => BitVec.ofNat 32 (a.toNat * b.toNat / 4294967296)))

/-- 1 if s[ra] < s[rb], signed (R114). -/
def execSaluSlt (e rd ra rb : Nat) (s : State) : Host.Outcome State Fault Refusal :=
  s.runOn (allBelow [(e, 128), (rd, 32), (ra, 32), (rb, 32)]) s.now (fun s => s.salu e rd ra rb 1 (fun a b => if a.toInt < b.toInt then 1 else 0))

/-- 1 if s[ra] < s[rb], unsigned (R114). -/
def execSaluSltu (e rd ra rb : Nat) (s : State) : Host.Outcome State Fault Refusal :=
  s.runOn (allBelow [(e, 128), (rd, 32), (ra, 32), (rb, 32)]) s.now (fun s => s.salu e rd ra rb 1 (fun a b => if a.toNat < b.toNat then 1 else 0))

/-- Signed minimum (R114). -/
def execSaluMin (e rd ra rb : Nat) (s : State) : Host.Outcome State Fault Refusal :=
  s.runOn (allBelow [(e, 128), (rd, 32), (ra, 32), (rb, 32)]) s.now (fun s => s.salu e rd ra rb 1 (fun a b => if a.toInt < b.toInt then a else b))

/-- Signed maximum (R114). -/
def execSaluMax (e rd ra rb : Nat) (s : State) : Host.Outcome State Fault Refusal :=
  s.runOn (allBelow [(e, 128), (rd, 32), (ra, 32), (rb, 32)]) s.now (fun s => s.salu e rd ra rb 1 (fun a b => if a.toInt < b.toInt then b else a))

/-- Unsigned minimum (R114). -/
def execSaluMinu (e rd ra rb : Nat) (s : State) : Host.Outcome State Fault Refusal :=
  s.runOn (allBelow [(e, 128), (rd, 32), (ra, 32), (rb, 32)]) s.now (fun s => s.salu e rd ra rb 1 (fun a b => if a.toNat < b.toNat then a else b))

/-- Unsigned maximum (R114). -/
def execSaluMaxu (e rd ra rb : Nat) (s : State) : Host.Outcome State Fault Refusal :=
  s.runOn (allBelow [(e, 128), (rd, 32), (ra, 32), (rb, 32)]) s.now (fun s => s.salu e rd ra rb 1 (fun a b => if a.toNat < b.toNat then b else a))

/-- Add of a sign-extended immediate (R113). -/
def execAddi (e rd ra : Nat) (imm : BitVec 16) (s : State) : Host.Outcome State Fault Refusal :=
  s.runOn (allBelow [(e, 128), (rd, 32), (ra, 32)]) s.now (fun s => s.sImm e rd ra (fun a => a + imm.signExtend 32))

/-- AND with a zero-extended immediate (R113). -/
def execAndi (e rd ra : Nat) (imm : BitVec 16) (s : State) : Host.Outcome State Fault Refusal :=
  s.runOn (allBelow [(e, 128), (rd, 32), (ra, 32)]) s.now (fun s => s.sImm e rd ra (fun a => a &&& imm.zeroExtend 32))

/-- OR with a zero-extended immediate (R113). -/
def execOri (e rd ra : Nat) (imm : BitVec 16) (s : State) : Host.Outcome State Fault Refusal :=
  s.runOn (allBelow [(e, 128), (rd, 32), (ra, 32)]) s.now (fun s => s.sImm e rd ra (fun a => a ||| imm.zeroExtend 32))

/-- XOR with a zero-extended immediate (R113). -/
def execXori (e rd ra : Nat) (imm : BitVec 16) (s : State) : Host.Outcome State Fault Refusal :=
  s.runOn (allBelow [(e, 128), (rd, 32), (ra, 32)]) s.now (fun s => s.sImm e rd ra (fun a => a ^^^ imm.zeroExtend 32))

/-- The immediate in the upper halfword (R113). -/
def execLui (e rd : Nat) (imm : BitVec 16) (s : State) : Host.Outcome State Fault Refusal :=
  s.runOn (allBelow [(e, 128), (rd, 32)]) s.now (fun s => s.sImm e rd 0 (fun _ => imm.zeroExtend 32 <<< 16))

/-- 1 if s[ra] is below the sign-extended immediate, signed (R113). -/
def execSlti (e rd ra : Nat) (imm : BitVec 16) (s : State) : Host.Outcome State Fault Refusal :=
  s.runOn (allBelow [(e, 128), (rd, 32), (ra, 32)]) s.now (fun s => s.sImm e rd ra (fun a => if a.toInt < imm.toInt then 1 else 0))

/-- Immediate left shift (R113). -/
def execShiSll (e rd ra k : Nat) (s : State) : Host.Outcome State Fault Refusal :=
  s.runOn (allBelow [(e, 128), (rd, 32), (ra, 32), (k, 32)]) s.now (fun s => s.sImm e rd ra (fun a => a <<< k))

/-- Immediate logical right shift (R113). -/
def execShiSrl (e rd ra k : Nat) (s : State) : Host.Outcome State Fault Refusal :=
  s.runOn (allBelow [(e, 128), (rd, 32), (ra, 32), (k, 32)]) s.now (fun s => s.sImm e rd ra (fun a => a >>> k))

/-- Immediate arithmetic right shift (R113). -/
def execShiSra (e rd ra k : Nat) (s : State) : Host.Outcome State Fault Refusal :=
  s.runOn (allBelow [(e, 128), (rd, 32), (ra, 32), (k, 32)]) s.now (fun s => s.sImm e rd ra (fun a => a.sshiftRight k))

/-- Loads a word from LDM (R113, R110, R129). -/
def execLdw (e rd ra : Nat) (imm : BitVec 16) (s : State) : Host.Outcome State Fault Refusal :=
  s.runOn (allBelow [(e, 128), (rd, 32), (ra, 32)]) s.now (fun s => s.issue e (.ldw rd ra imm.toInt))

/-- Stores a word into LDM (R113, R110, R129). -/
def execStw (e rd ra : Nat) (imm : BitVec 16) (s : State) : Host.Outcome State Fault Refusal :=
  s.runOn (allBelow [(e, 128), (rd, 32), (ra, 32)]) s.now (fun s => s.issue e (.stw rd ra imm.toInt))

/-- Loads a halfword from LDM (R113, R110, R129). -/
def execLdh (e rd ra : Nat) (imm : BitVec 16) (s : State) : Host.Outcome State Fault Refusal :=
  s.runOn (allBelow [(e, 128), (rd, 32), (ra, 32)]) s.now (fun s => s.issue e (.ldh rd ra imm.toInt))

/-- Stores a halfword into LDM (R113, R110, R129). -/
def execSth (e rd ra : Nat) (imm : BitVec 16) (s : State) : Host.Outcome State Fault Refusal :=
  s.runOn (allBelow [(e, 128), (rd, 32), (ra, 32)]) s.now (fun s => s.issue e (.sth rd ra imm.toInt))

/-- Reads a task value (R122). -/
def execSget (e rd sel : Nat) (s : State) : Host.Outcome State Fault Refusal :=
  s.runOn (allBelow [(e, 128), (rd, 32), (sel, 21)]) s.now (fun s => s.sgetInstr e rd sel)

/-- Jumps and saves the return address (R113). -/
def execJal (e rd : Nat) (imm : BitVec 16) (s : State) : Host.Outcome State Fault Refusal :=
  s.runOn (allBelow [(e, 128), (rd, 32)]) s.now (fun s => s.jumpLink e rd imm)

/-- Jumps to a register (R113, R121). -/
def execJr (e ra : Nat) (s : State) : Host.Outcome State Fault Refusal :=
  s.runOn (allBelow [(e, 128), (ra, 32)]) s.now (fun s => s.jumpReg e ra)

/-- Branches if s[rd] and s[ra] are equal (R113). -/
def execBeq (e rd ra : Nat) (imm : BitVec 16) (s : State) : Host.Outcome State Fault Refusal :=
  s.runOn (allBelow [(e, 128), (rd, 32), (ra, 32)]) s.now (fun s => s.branch e rd ra imm (fun a b => a == b))

/-- Branches if s[rd] and s[ra] are different (R113). -/
def execBne (e rd ra : Nat) (imm : BitVec 16) (s : State) : Host.Outcome State Fault Refusal :=
  s.runOn (allBelow [(e, 128), (rd, 32), (ra, 32)]) s.now (fun s => s.branch e rd ra imm (fun a b => a != b))

/-- Branches if s[rd] and s[ra] are less, signed (R113). -/
def execBlt (e rd ra : Nat) (imm : BitVec 16) (s : State) : Host.Outcome State Fault Refusal :=
  s.runOn (allBelow [(e, 128), (rd, 32), (ra, 32)]) s.now (fun s => s.branch e rd ra imm (fun a b => decide (a.toInt < b.toInt)))

/-- Branches if s[rd] and s[ra] are greater or equal, signed (R113). -/
def execBge (e rd ra : Nat) (imm : BitVec 16) (s : State) : Host.Outcome State Fault Refusal :=
  s.runOn (allBelow [(e, 128), (rd, 32), (ra, 32)]) s.now (fun s => s.branch e rd ra imm (fun a b => decide (b.toInt ≤ a.toInt)))

/-- Branches if s[rd] and s[ra] are less, unsigned (R113). -/
def execBltu (e rd ra : Nat) (imm : BitVec 16) (s : State) : Host.Outcome State Fault Refusal :=
  s.runOn (allBelow [(e, 128), (rd, 32), (ra, 32)]) s.now (fun s => s.branch e rd ra imm (fun a b => decide (a.toNat < b.toNat)))

/-- Branches if s[rd] and s[ra] are greater or equal, unsigned (R113). -/
def execBgeu (e rd ra : Nat) (imm : BitVec 16) (s : State) : Host.Outcome State Fault Refusal :=
  s.runOn (allBelow [(e, 128), (rd, 32), (ra, 32)]) s.now (fun s => s.branch e rd ra imm (fun a b => decide (b.toNat ≤ a.toNat)))

/-- Branches if a predicate is not 0 (R113). -/
def execBany (e p : Nat) (imm : BitVec 16) (s : State) : Host.Outcome State Fault Refusal :=
  s.runOn (allBelow [(e, 128), (p, 8)]) s.now (fun s => s.branchP e p imm (fun x => x != 0))

/-- Branches if a predicate is 0 (R113). -/
def execBnone (e p : Nat) (imm : BitVec 16) (s : State) : Host.Outcome State Fault Refusal :=
  s.runOn (allBelow [(e, 128), (p, 8)]) s.now (fun s => s.branchP e p imm (fun x => x == 0))

/-- Repeats the next `b` instructions (R120). -/
def execLoop (e ra b : Nat) (s : State) : Host.Outcome State Fault Refusal :=
  s.runOn (allBelow [(e, 128), (ra, 32), (b, 256)] && Nat.ble 1 b) s.now (fun s => s.loopInstr e ra b)

/-- Lane add modulo 2^16 (R115). -/
def execVadd (e rd ra rb pg : Nat) (s : State) : Host.Outcome State Fault Refusal :=
  s.runOn (allBelow [(e, 128), (rd, 32), (ra, 32), (rb, 32), (pg, 8)]) s.now (fun s => s.valu e rd ra rb pg (fun a b => a + b))

/-- Lane subtract modulo 2^16 (R115). -/
def execVsub (e rd ra rb pg : Nat) (s : State) : Host.Outcome State Fault Refusal :=
  s.runOn (allBelow [(e, 128), (rd, 32), (ra, 32), (rb, 32), (pg, 8)]) s.now (fun s => s.valu e rd ra rb pg (fun a b => a - b))

/-- Signed saturating add (R115). -/
def execVadds (e rd ra rb pg : Nat) (s : State) : Host.Outcome State Fault Refusal :=
  s.runOn (allBelow [(e, 128), (rd, 32), (ra, 32), (rb, 32), (pg, 8)]) s.now (fun s =>
    s.valu e rd ra rb pg (fun a b => BitVec.ofInt 16 (clampInt (-32768) 32767 (a.toInt + b.toInt))))

/-- Signed saturating subtract (R115). -/
def execVsubs (e rd ra rb pg : Nat) (s : State) : Host.Outcome State Fault Refusal :=
  s.runOn (allBelow [(e, 128), (rd, 32), (ra, 32), (rb, 32), (pg, 8)]) s.now (fun s =>
    s.valu e rd ra rb pg (fun a b => BitVec.ofInt 16 (clampInt (-32768) 32767 (a.toInt - b.toInt))))

/-- Unsigned saturating add (R115). -/
def execVaddu (e rd ra rb pg : Nat) (s : State) : Host.Outcome State Fault Refusal :=
  s.runOn (allBelow [(e, 128), (rd, 32), (ra, 32), (rb, 32), (pg, 8)]) s.now (fun s =>
    s.valu e rd ra rb pg (fun a b => BitVec.ofNat 16 (Nat.min 65535 (a.toNat + b.toNat))))

/-- Unsigned saturating subtract (R115). -/
def execVsubu (e rd ra rb pg : Nat) (s : State) : Host.Outcome State Fault Refusal :=
  s.runOn (allBelow [(e, 128), (rd, 32), (ra, 32), (rb, 32), (pg, 8)]) s.now (fun s =>
    s.valu e rd ra rb pg (fun a b => BitVec.ofNat 16 (a.toNat - b.toNat)))

/-- Absolute difference of unsigned lanes (R115). -/
def execVabsdu (e rd ra rb pg : Nat) (s : State) : Host.Outcome State Fault Refusal :=
  s.runOn (allBelow [(e, 128), (rd, 32), (ra, 32), (rb, 32), (pg, 8)]) s.now (fun s =>
    s.valu e rd ra rb pg (fun a b => BitVec.ofNat 16 ((a.toNat : Int) - (b.toNat : Int)).natAbs))

/-- Absolute difference of signed lanes (R115). -/
def execVabsds (e rd ra rb pg : Nat) (s : State) : Host.Outcome State Fault Refusal :=
  s.runOn (allBelow [(e, 128), (rd, 32), (ra, 32), (rb, 32), (pg, 8)]) s.now (fun s =>
    s.valu e rd ra rb pg (fun a b => BitVec.ofNat 16 (a.toInt - b.toInt).natAbs))

/-- Signed minimum (R115). -/
def execVmin (e rd ra rb pg : Nat) (s : State) : Host.Outcome State Fault Refusal :=
  s.runOn (allBelow [(e, 128), (rd, 32), (ra, 32), (rb, 32), (pg, 8)]) s.now (fun s =>
    s.valu e rd ra rb pg (fun a b => if a.toInt < b.toInt then a else b))

/-- Signed maximum (R115). -/
def execVmax (e rd ra rb pg : Nat) (s : State) : Host.Outcome State Fault Refusal :=
  s.runOn (allBelow [(e, 128), (rd, 32), (ra, 32), (rb, 32), (pg, 8)]) s.now (fun s =>
    s.valu e rd ra rb pg (fun a b => if a.toInt < b.toInt then b else a))

/-- Unsigned minimum (R115). -/
def execVminu (e rd ra rb pg : Nat) (s : State) : Host.Outcome State Fault Refusal :=
  s.runOn (allBelow [(e, 128), (rd, 32), (ra, 32), (rb, 32), (pg, 8)]) s.now (fun s =>
    s.valu e rd ra rb pg (fun a b => if a.toNat < b.toNat then a else b))

/-- Unsigned maximum (R115). -/
def execVmaxu (e rd ra rb pg : Nat) (s : State) : Host.Outcome State Fault Refusal :=
  s.runOn (allBelow [(e, 128), (rd, 32), (ra, 32), (rb, 32), (pg, 8)]) s.now (fun s =>
    s.valu e rd ra rb pg (fun a b => if a.toNat < b.toNat then b else a))

/-- Lane AND (R115). -/
def execVand (e rd ra rb pg : Nat) (s : State) : Host.Outcome State Fault Refusal :=
  s.runOn (allBelow [(e, 128), (rd, 32), (ra, 32), (rb, 32), (pg, 8)]) s.now (fun s => s.valu e rd ra rb pg (fun a b => a &&& b))

/-- Lane OR (R115). -/
def execVor (e rd ra rb pg : Nat) (s : State) : Host.Outcome State Fault Refusal :=
  s.runOn (allBelow [(e, 128), (rd, 32), (ra, 32), (rb, 32), (pg, 8)]) s.now (fun s => s.valu e rd ra rb pg (fun a b => a ||| b))

/-- Lane XOR (R115). -/
def execVxor (e rd ra rb pg : Nat) (s : State) : Host.Outcome State Fault Refusal :=
  s.runOn (allBelow [(e, 128), (rd, 32), (ra, 32), (rb, 32), (pg, 8)]) s.now (fun s => s.valu e rd ra rb pg (fun a b => a ^^^ b))

/-- Selects a lane of v[ra] or v[rb] by the predicate (R115). -/
def execVsel (e rd ra rb pg : Nat) (s : State) : Host.Outcome State Fault Refusal :=
  s.runOn (allBelow [(e, 128), (rd, 32), (ra, 32), (rb, 32), (pg, 8)]) s.now (fun s =>
    s.instr e [rV ra, rV rb, rP pg] 0 [(rV rd, 2)] (fun g => (g.setV rd (mergeLanes (g.preg pg) (g.vreg ra) (g.vreg rb))).next))

/-- Lane left shift (R115). -/
def execVsll (e rd ra rb pg : Nat) (s : State) : Host.Outcome State Fault Refusal :=
  s.runOn (allBelow [(e, 128), (rd, 32), (ra, 32), (rb, 32), (pg, 8)]) s.now (fun s => s.valu e rd ra rb pg (fun a b => a <<< (b.toNat % 16)))

/-- Lane logical right shift (R115). -/
def execVsrl (e rd ra rb pg : Nat) (s : State) : Host.Outcome State Fault Refusal :=
  s.runOn (allBelow [(e, 128), (rd, 32), (ra, 32), (rb, 32), (pg, 8)]) s.now (fun s => s.valu e rd ra rb pg (fun a b => a >>> (b.toNat % 16)))

/-- Lane arithmetic right shift (R115). -/
def execVsra (e rd ra rb pg : Nat) (s : State) : Host.Outcome State Fault Refusal :=
  s.runOn (allBelow [(e, 128), (rd, 32), (ra, 32), (rb, 32), (pg, 8)]) s.now (fun s => s.valu e rd ra rb pg (fun a b => a.sshiftRight (b.toNat % 16)))

/-- Lane arithmetic right shift rounded half to even (R115). -/
def execVsrar (e rd ra rb pg : Nat) (s : State) : Host.Outcome State Fault Refusal :=
  s.runOn (allBelow [(e, 128), (rd, 32), (ra, 32), (rb, 32), (pg, 8)]) s.now (fun s =>
    s.valu e rd ra rb pg (fun a b => BitVec.ofInt 16 (shrHalfEven a.toInt (b.toNat % 16))))

/-- Unsigned average rounded half to even (R115). -/
def execVavgu (e rd ra rb pg : Nat) (s : State) : Host.Outcome State Fault Refusal :=
  s.runOn (allBelow [(e, 128), (rd, 32), (ra, 32), (rb, 32), (pg, 8)]) s.now (fun s =>
    s.valu e rd ra rb pg (fun a b => BitVec.ofNat 16 (divHalfEvenNat (a.toNat + b.toNat) 2)))

/-- Compares lanes (R116): EQ, NE, LT, LE, LTU, LEU by `cmp`; inactive lanes give 0. -/
def execVcmp (e rd ra rb pg cmp : Nat) (s : State) : Host.Outcome State Fault Refusal :=
  s.runOn (allBelow [(e, 128), (rd, 8), (ra, 32), (rb, 32), (pg, 8), (cmp, 6)]) s.now (fun s =>
    s.instr e [rV ra, rV rb, rP pg] 0 [(rP rd, 2)] (fun g => (g.setP rd (compareLanes cmp (g.preg pg) (g.vreg ra) (g.vreg rb))).next))

/-- Immediate lane left shift (R113). -/
def execVshiSll (e rd ra pg k : Nat) (s : State) : Host.Outcome State Fault Refusal :=
  s.runOn (allBelow [(e, 128), (rd, 32), (ra, 32), (pg, 8), (k, 16)]) s.now (fun s => s.vImm e rd ra pg (fun a => a <<< k))

/-- Immediate lane logical right shift (R113). -/
def execVshiSrl (e rd ra pg k : Nat) (s : State) : Host.Outcome State Fault Refusal :=
  s.runOn (allBelow [(e, 128), (rd, 32), (ra, 32), (pg, 8), (k, 16)]) s.now (fun s => s.vImm e rd ra pg (fun a => a >>> k))

/-- Immediate lane arithmetic right shift (R113). -/
def execVshiSra (e rd ra pg k : Nat) (s : State) : Host.Outcome State Fault Refusal :=
  s.runOn (allBelow [(e, 128), (rd, 32), (ra, 32), (pg, 8), (k, 16)]) s.now (fun s => s.vImm e rd ra pg (fun a => a.sshiftRight k))

/-- Immediate lane rounded arithmetic right shift (R113). -/
def execVshiSrar (e rd ra pg k : Nat) (s : State) : Host.Outcome State Fault Refusal :=
  s.runOn (allBelow [(e, 128), (rd, 32), (ra, 32), (pg, 8), (k, 16)]) s.now (fun s =>
    s.vImm e rd ra pg (fun a => BitVec.ofInt 16 (shrHalfEven a.toInt k)))

/-- Copies a scalar halfword into the active lanes (R113). -/
def execVsplat (e rd ra pg : Nat) (s : State) : Host.Outcome State Fault Refusal :=
  s.runOn (allBelow [(e, 128), (rd, 32), (ra, 32), (pg, 8)]) s.now (fun s =>
    s.instr e [rS ra, rP pg] 0 [(rV rd, 2)] (fun g => (g.setV rd (mergeLanes (g.preg pg) (splat ((g.sreg ra).truncate 16)) (g.vreg rd))).next))

/-- One lane into a scalar (R113). -/
def execVgetl (e rd ra lane : Nat) (sext : Bool) (s : State) : Host.Outcome State Fault Refusal :=
  s.runOn (allBelow [(e, 128), (rd, 32), (ra, 32), (lane, 16)]) s.now (fun s =>
    s.instr e [rV ra] 0 [(rS rd, 2)] (fun g => (g.setS rd (let x := (g.vreg ra).getD lane 0; if sext then x.signExtend 32 else x.zeroExtend 32)).next))

/-- One lane from a scalar (R113). -/
def execVsetl (e rd ra lane : Nat) (s : State) : Host.Outcome State Fault Refusal :=
  s.runOn (allBelow [(e, 128), (rd, 32), (ra, 32), (lane, 16)]) s.now (fun s =>
    s.instr e [rS ra] 0 [(rV rd, 2)] (fun g => (g.setV rd ((g.vreg rd).set lane ((g.sreg ra).truncate 16))).next))

/-- Slides lanes across two vectors (R113). -/
def execVslide (e rd ra rb pg k : Nat) (s : State) : Host.Outcome State Fault Refusal :=
  s.runOn (allBelow [(e, 128), (rd, 32), (ra, 32), (rb, 32), (pg, 8), (k, 16)]) s.now (fun s =>
    s.instr e [rV ra, rV rb, rP pg] 0 [(rV rd, 2)] (fun g => (g.setV rd (mergeLanes (g.preg pg) (((g.vreg ra ++ g.vreg rb).drop k).take 16) (g.vreg rd))).next))

/-- Signed sum of the active lanes (R116). -/
def execVredSum (e rd ra pg : Nat) (s : State) : Host.Outcome State Fault Refusal :=
  s.runOn (allBelow [(e, 128), (rd, 32), (ra, 32), (pg, 8)]) s.now (fun s => s.vred e rd ra pg (fun l => l.foldl (fun a x => a + x.toInt) 0))

/-- Unsigned sum of the active lanes (R116). -/
def execVredSumu (e rd ra pg : Nat) (s : State) : Host.Outcome State Fault Refusal :=
  s.runOn (allBelow [(e, 128), (rd, 32), (ra, 32), (pg, 8)]) s.now (fun s => s.vred e rd ra pg (fun l => l.foldl (fun a x => a + (x.toNat : Int)) 0))

/-- Signed minimum of the active lanes (R116). -/
def execVredMin (e rd ra pg : Nat) (s : State) : Host.Outcome State Fault Refusal :=
  s.runOn (allBelow [(e, 128), (rd, 32), (ra, 32), (pg, 8)]) s.now (fun s => s.vred e rd ra pg (fun l => l.foldl (fun a x => Min.min a x.toInt) 32767))

/-- Signed maximum of the active lanes (R116). -/
def execVredMax (e rd ra pg : Nat) (s : State) : Host.Outcome State Fault Refusal :=
  s.runOn (allBelow [(e, 128), (rd, 32), (ra, 32), (pg, 8)]) s.now (fun s =>
    s.vred e rd ra pg (fun l => l.foldl (fun a x => Max.max a x.toInt) (-32768)))

/-- Unsigned minimum of the active lanes (R116). -/
def execVredMinu (e rd ra pg : Nat) (s : State) : Host.Outcome State Fault Refusal :=
  s.runOn (allBelow [(e, 128), (rd, 32), (ra, 32), (pg, 8)]) s.now (fun s =>
    s.vred e rd ra pg (fun l => l.foldl (fun a x => Min.min a (x.toNat : Int)) 65535))

/-- Unsigned maximum of the active lanes (R116). -/
def execVredMaxu (e rd ra pg : Nat) (s : State) : Host.Outcome State Fault Refusal :=
  s.runOn (allBelow [(e, 128), (rd, 32), (ra, 32), (pg, 8)]) s.now (fun s =>
    s.vred e rd ra pg (fun l => l.foldl (fun a x => Max.max a (x.toNat : Int)) 0))

/-- Predicate AND (R116). -/
def execPredAnd (e rd ra rb : Nat) (s : State) : Host.Outcome State Fault Refusal :=
  s.runOn (allBelow [(e, 128), (rd, 8), (ra, 8), (rb, 8)]) s.now (fun s => s.predOp e rd ra rb (fun a b => a &&& b))

/-- Predicate OR (R116). -/
def execPredOr (e rd ra rb : Nat) (s : State) : Host.Outcome State Fault Refusal :=
  s.runOn (allBelow [(e, 128), (rd, 8), (ra, 8), (rb, 8)]) s.now (fun s => s.predOp e rd ra rb (fun a b => a ||| b))

/-- Predicate XOR (R116). -/
def execPredXor (e rd ra rb : Nat) (s : State) : Host.Outcome State Fault Refusal :=
  s.runOn (allBelow [(e, 128), (rd, 8), (ra, 8), (rb, 8)]) s.now (fun s => s.predOp e rd ra rb (fun a b => a ^^^ b))

/-- Predicate AND NOT (R116). -/
def execPredAndn (e rd ra rb : Nat) (s : State) : Host.Outcome State Fault Refusal :=
  s.runOn (allBelow [(e, 128), (rd, 8), (ra, 8), (rb, 8)]) s.now (fun s => s.predOp e rd ra rb (fun a b => a &&& ~~~b))

/-- Predicate NOT (R116). -/
def execPredNot (e rd ra : Nat) (s : State) : Host.Outcome State Fault Refusal :=
  s.runOn (allBelow [(e, 128), (rd, 8), (ra, 8)]) s.now (fun s => s.instr e [rP ra] 0 [(rP rd, 1)] (fun g => (g.setP rd (~~~(g.preg ra))).next))

/-- A predicate from a scalar (R116). -/
def execPredFroms (e rd ra : Nat) (s : State) : Host.Outcome State Fault Refusal :=
  s.runOn (allBelow [(e, 128), (rd, 8), (ra, 32)]) s.now (fun s =>
    s.instr e [rS ra] 0 [(rP rd, 1)] (fun g => (g.setP rd ((g.sreg ra).truncate 16)).next))

/-- A predicate into a scalar (R116). -/
def execPredTos (e rd ra : Nat) (s : State) : Host.Outcome State Fault Refusal :=
  s.runOn (allBelow [(e, 128), (rd, 32), (ra, 8)]) s.now (fun s =>
    s.instr e [rP ra] 0 [(rS rd, 1)] (fun g => (g.setS rd ((g.preg ra).zeroExtend 32)).next))

/-- The 1 bits of a predicate (R116). -/
def execPredCnt (e rd ra : Nat) (s : State) : Host.Outcome State Fault Refusal :=
  s.runOn (allBelow [(e, 128), (rd, 32), (ra, 8)]) s.now (fun s =>
    s.instr e [rP ra] 0 [(rS rd, 1)] (fun g => (g.setS rd (BitVec.ofNat 32 ((lanesOf (g.preg ra)).filter id).length)).next))

/-- Adds signed products (R117). -/
def execVmacMac (e rd ra rb pg : Nat) (s : State) : Host.Outcome State Fault Refusal :=
  s.runOn (allBelow [(e, 128), (rd, 4), (ra, 32), (rb, 32), (pg, 8)]) s.now (fun s =>
    s.vmac e rd pg [rV ra, rV rb] (fun g => g.macLanes rd ra rb (fun acc a b => acc + a.toInt * b.toInt)))

/-- Adds unsigned products (R117). -/
def execVmacMacu (e rd ra rb pg : Nat) (s : State) : Host.Outcome State Fault Refusal :=
  s.runOn (allBelow [(e, 128), (rd, 4), (ra, 32), (rb, 32), (pg, 8)]) s.now (fun s =>
    s.vmac e rd pg [rV ra, rV rb] (fun g => g.macLanes rd ra rb (fun acc a b => acc + (a.toNat * b.toNat : Nat))))

/-- Adds signed by unsigned products (R117). -/
def execVmacMacsu (e rd ra rb pg : Nat) (s : State) : Host.Outcome State Fault Refusal :=
  s.runOn (allBelow [(e, 128), (rd, 4), (ra, 32), (rb, 32), (pg, 8)]) s.now (fun s =>
    s.vmac e rd pg [rV ra, rV rb] (fun g => g.macLanes rd ra rb (fun acc a b => acc + a.toInt * (b.toNat : Int))))

/-- Subtracts signed products (R117). -/
def execVmacMsub (e rd ra rb pg : Nat) (s : State) : Host.Outcome State Fault Refusal :=
  s.runOn (allBelow [(e, 128), (rd, 4), (ra, 32), (rb, 32), (pg, 8)]) s.now (fun s =>
    s.vmac e rd pg [rV ra, rV rb] (fun g => g.macLanes rd ra rb (fun acc a b => acc - a.toInt * b.toInt)))

/-- Sets signed products (R117). -/
def execVmacMul (e rd ra rb pg : Nat) (s : State) : Host.Outcome State Fault Refusal :=
  s.runOn (allBelow [(e, 128), (rd, 4), (ra, 32), (rb, 32), (pg, 8)]) s.now (fun s =>
    s.vmac e rd pg [rV ra, rV rb] (fun g => g.macLanes rd ra rb (fun acc a b => let _ := acc; a.toInt * b.toInt)))

/-- Sets unsigned products (R117). -/
def execVmacMulu (e rd ra rb pg : Nat) (s : State) : Host.Outcome State Fault Refusal :=
  s.runOn (allBelow [(e, 128), (rd, 4), (ra, 32), (rb, 32), (pg, 8)]) s.now (fun s =>
    s.vmac e rd pg [rV ra, rV rb] (fun g => g.macLanes rd ra rb (fun acc a b => let _ := acc; ((a.toNat * b.toNat : Nat) : Int))))

/-- Adds squared signed differences (R117). -/
def execVmacSqd (e rd ra rb pg : Nat) (s : State) : Host.Outcome State Fault Refusal :=
  s.runOn (allBelow [(e, 128), (rd, 4), (ra, 32), (rb, 32), (pg, 8)]) s.now (fun s =>
    s.vmac e rd pg [rV ra, rV rb] (fun g => g.macLanes rd ra rb (fun acc a b => acc + (a.toInt - b.toInt) * (a.toInt - b.toInt))))

/-- Adds sign-extended lanes of v[ra] (R117). -/
def execVmacAadd (e rd ra rb pg : Nat) (s : State) : Host.Outcome State Fault Refusal :=
  s.runOn (allBelow [(e, 128), (rd, 4), (ra, 32), (rb, 32), (pg, 8)]) s.now (fun s =>
    s.vmac e rd pg [rV ra, rV rb] (fun g => g.macLanes rd ra rb (fun acc a b => let _ := b; acc + a.toInt)))

/-- Adds zero-extended lanes of v[ra] (R117). -/
def execVmacAaddu (e rd ra rb pg : Nat) (s : State) : Host.Outcome State Fault Refusal :=
  s.runOn (allBelow [(e, 128), (rd, 4), (ra, 32), (rb, 32), (pg, 8)]) s.now (fun s =>
    s.vmac e rd pg [rV ra, rV rb] (fun g => g.macLanes rd ra rb (fun acc a b => let _ := b; acc + (a.toNat : Int))))

/-- Clears the active lanes (R117). -/
def execVmacAclr (e rd pg : Nat) (s : State) : Host.Outcome State Fault Refusal :=
  s.runOn (allBelow [(e, 128), (rd, 4), (pg, 8)]) s.now (fun s => s.vmac e rd pg [] (fun _ => zeroAcc))

/-- Adds signed lanes times a signed scalar halfword (R113). -/
def execVmacsSigned (e rd ra rb pg : Nat) (s : State) : Host.Outcome State Fault Refusal :=
  s.runOn (allBelow [(e, 128), (rd, 4), (ra, 32), (rb, 32), (pg, 8)]) s.now (fun s =>
    s.vmac e rd pg [rV ra, rS rb] (fun g => List.zipWith (fun acc (a : Half) => acc + a.toInt * ((g.sreg rb).truncate 16).toInt) (g.areg rd) (g.vreg ra)))

/-- Adds unsigned lanes times a signed scalar halfword (R113). -/
def execVmacsUnsigned (e rd ra rb pg : Nat) (s : State) : Host.Outcome State Fault Refusal :=
  s.runOn (allBelow [(e, 128), (rd, 4), (ra, 32), (rb, 32), (pg, 8)]) s.now (fun s =>
    s.vmac e rd pg [rV ra, rS rb] (fun g => List.zipWith (fun acc (a : Half) => acc + (a.toNat : Int) * ((g.sreg rb).truncate 16).toInt) (g.areg rd) (g.vreg ra)))

/-- Narrows accumulator lanes to signed 16 bits (R118). -/
def execVnarrowSigned (e rd ra pg k : Nat) (s : State) : Host.Outcome State Fault Refusal :=
  s.runOn (allBelow [(e, 128), (rd, 32), (ra, 4), (pg, 8), (k, 40)]) s.now (fun s =>
    s.instr e [rA ra, rP pg] 0 [(rV rd, 3)] (fun g => (g.setV rd (mergeLanes (g.preg pg) ((g.areg ra).map (narrow k true)) (g.vreg rd))).next))

/-- Narrows accumulator lanes to unsigned 16 bits (R118). -/
def execVnarrowUnsigned (e rd ra pg k : Nat) (s : State) : Host.Outcome State Fault Refusal :=
  s.runOn (allBelow [(e, 128), (rd, 32), (ra, 4), (pg, 8), (k, 40)]) s.now (fun s =>
    s.instr e [rA ra, rP pg] 0 [(rV rd, 3)] (fun g => (g.setV rd (mergeLanes (g.preg pg) ((g.areg ra).map (narrow k false)) (g.vreg rd))).next))

/-- Rounded sum of the active accumulator lanes (R118). -/
def execAred (e rd ra pg k : Nat) (s : State) : Host.Outcome State Fault Refusal :=
  s.runOn (allBelow [(e, 128), (rd, 32), (ra, 4), (pg, 8), (k, 40)]) s.now (fun s =>
    s.instr e [rA ra, rP pg] 0 [(rS rd, 5)] (fun g => (g.setS rd (BitVec.ofInt 32 (clampInt (-2147483648) 2147483647 (shrHalfEven ((activeOf (g.preg pg) (g.areg ra)).foldl (· + ·) 0) k)))).next))

/-- Table lookup in LDM (R113, R119). -/
def execVlut (e rd ra rb pg k : Nat) (s : State) : Host.Outcome State Fault Refusal :=
  s.runOn (allBelow [(e, 128), (rd, 32), (ra, 32), (rb, 32), (pg, 8), (k, 16)]) s.now (fun s => s.issue e (.vlut rd ra rb pg k))

/-- Loads 16 halfwords (R113). -/
def execVld (e rd ra pg : Nat) (off : BitVec 8) (s : State) : Host.Outcome State Fault Refusal :=
  s.runOn (allBelow [(e, 128), (rd, 32), (ra, 32), (pg, 8)]) s.now (fun s => s.issue e (.vld rd ra pg off.toInt false))

/-- Stores the active lanes (R113). -/
def execVst (e rd ra pg : Nat) (off : BitVec 8) (s : State) : Host.Outcome State Fault Refusal :=
  s.runOn (allBelow [(e, 128), (rd, 32), (ra, 32), (pg, 8)]) s.now (fun s => s.issue e (.vst rd ra pg off.toInt false))

/-- Vector load, then s[ra] += 32 (R113). -/
def execVldp (e rd ra pg : Nat) (s : State) : Host.Outcome State Fault Refusal :=
  s.runOn (allBelow [(e, 128), (rd, 32), (ra, 32), (pg, 8)]) s.now (fun s => s.issue e (.vld rd ra pg 0 true))

/-- Vector store, then s[ra] += 32 (R113). -/
def execVstp (e rd ra pg : Nat) (s : State) : Host.Outcome State Fault Refusal :=
  s.runOn (allBelow [(e, 128), (rd, 32), (ra, 32), (pg, 8)]) s.now (fun s => s.issue e (.vst rd ra pg 0 true))

/-- The next vector of the task's samples (R124). -/
def execPopLine (e rd pg : Nat) (s : State) : Host.Outcome State Fault Refusal :=
  s.runOn (allBelow [(e, 128), (rd, 32), (pg, 8)]) s.now (fun s => s.issue e (.popLine rd pg))

/-- `n` vectors of the task's samples arrive (R124). -/
def execLineDataArrival (t e n : Nat) (s : State) : Host.Outcome State Fault Refusal :=
  s.runOn (decide (e < 128)) t (fun s => s.lineArrives e n)

/-- The next 32 bytes of the released tag (R125). -/
def execPopRef (e rd pg : Nat) (s : State) : Host.Outcome State Fault Refusal :=
  s.runOn (allBelow [(e, 128), (rd, 32), (pg, 8)]) s.now (fun s => s.popRef e rd pg)

/-- Appends a vector to OUT; `full` tells that the OUT buffer is full (R126). -/
def execPush (e ra : Nat) (full : Bool) (s : State) : Host.Outcome State Fault Refusal :=
  s.runOn (allBelow [(e, 128), (ra, 32)]) s.now (fun s => s.pushInstr e (.push ra) full)

/-- Appends a scalar to OUT (R126). -/
def execPushs (e ra : Nat) (full : Bool) (s : State) : Host.Outcome State Fault Refusal :=
  s.runOn (allBelow [(e, 128), (ra, 32)]) s.now (fun s => s.pushInstr e (.pushs ra) full)

/-- The OUT buffer drains (R126). -/
def execOutSpaceFreed (t e : Nat) (s : State) : Host.Outcome State Fault Refusal :=
  s.runOn (decide (e < 128)) t (fun s => s.outSpace e)

/-- Starts a tagged Archive read (R127, R128). -/
def execFetch (e rd ra rb tag : Nat) (table : Bool) (s : State) : Host.Outcome State Fault Refusal :=
  s.runOn (allBelow [(e, 128), (rd, 32), (ra, 32), (rb, 32), (tag, 8)] && Nat.ble 1 tag) s.now (fun s => s.issue e (.fetch rd ra rb tag table))

/-- A tag completes (R127, R129); `bad` lists Archive words found uncorrectable (R215). -/
def execFetchTagComplete (t e tag : Nat) (bad : List Nat) (s : State) : Host.Outcome State Fault Refusal :=
  s.runOn (allBelow [(e, 128), (tag, 8)]) t (fun s => s.tagComplete e tag bad)

/-- The Curator issues a prefetch (R130, R186). -/
def execPrefetchIssue (t e : Nat) (s : State) : Host.Outcome State Fault Refusal :=
  s.runOn (decide (e < 128)) t (fun s => s.prefetchIssue e)

/-- A waiting fetch gets its entry (R186). -/
def execFetchTableEntryFreed (t : Nat) (s : State) : Host.Outcome State Fault Refusal :=
  s.run t (fun s => s.entryFreed)

/-- Waits for a tag and releases it to the REF port (R129). -/
def execWaittag (e tag : Nat) (s : State) : Host.Outcome State Fault Refusal :=
  s.runOn (allBelow [(e, 128), (tag, 8)]) s.now (fun s => s.issue e (.wait tag))

/-- Raises an event line (R132, R133). -/
def execEvent (t e line ra : Nat) (s : State) : Host.Outcome State Fault Refusal :=
  s.runOn (allBelow [(e, 128), (line, 64), (ra, 32)]) t (fun s => s.eventInstr e line ra)

/-- A task reaches its limit of busy cycles (R136). -/
def execBudgetCut (t e : Nat) (s : State) : Host.Outcome State Fault Refusal :=
  s.runOn (decide (e < 128)) t (fun s => s.budgetCut e)

/-- The oldest line retires (R190, R194). -/
def execLineRetire (t : Nat) (s : State) : Host.Outcome State Fault Refusal :=
  s.run t (fun s => s.retireOne)

/-- The oldest line is too old (R191). -/
def execLineAgeRetire (t : Nat) (s : State) : Host.Outcome State Fault Refusal :=
  s.run t (fun s => s.ageRetire)

end Sys2Proof.Machine
end

