-- ==== Sys2Proof/Machine/TileRows.lean ====
section
/-! DEFINITION. The commands of start-up, FAULT, REST and wake (01, 17, 18, 20, 21) and of the line timer and line assembly (02-04). -/

namespace Sys2Proof.Machine

/-- VIN qualified in OFF (R487): BOOT. -/
def execVinQualified (t mV : Nat) (s : State) : Host.Outcome State Fault Refusal :=
  s.run t (fun s => s.vinQualified mV)

/-- The boot ROM runs the first admissible firmware slot, or enters recovery FAULT (R534). -/
def execBootVerify (t : Nat) (s : State) : Host.Outcome State Fault Refusal :=
  s.run t (fun s => s.bootVerify)

/-- The self-tests end with the report `r` (R549, R514). -/
def execSelftestDone (t : Nat) (r : SelfTestReport) (s : State) : Host.Outcome State Fault Refusal :=
  s.run t (fun s => s.selftestDone r)

/-- The calibration set, the records and the resume Folio are loaded and both monitor converters calibrated (R524, R407). -/
def execCalloadDone (t : Nat) (calA calB : MonCal) (s : State) : Host.Outcome State Fault Refusal :=
  s.run t (fun s => s.calloadDone calA calB)

/-- A start-up state beyond its limit (R548). -/
def execStateTimeout (t : Nat) (s : State) : Host.Outcome State Fault Refusal :=
  s.run t (fun s => s.stateTimeout)

/-- The core watchdog was not serviced in time, the core at `pc` (R551). -/
def execCoreWatchdogExpiry (t pc : Nat) (s : State) : Host.Outcome State Fault Refusal :=
  s.run t (fun s => if s.coreRuns then s.enterFault 6 pc else s)

/-- The two control cores disagree at `pc` (R551). -/
def execLockstepMismatch (t pc : Nat) (s : State) : Host.Outcome State Fault Refusal :=
  s.run t (fun s => if s.coreRuns then s.enterFault 7 pc else s)

/-- A control-core memory word read with an error: corrected, or uncorrectable at an address (R551). -/
def execCoreMemoryError (t : Nat) (uncorrectable : Option Nat) (s : State) : Host.Outcome State Fault Refusal :=
  s.run t (fun s => s.coreWord uncorrectable)

/-- The case has been at or above 130 degrees for 100 ms (R550); `temp` in 1/16 degree. -/
def execOvertempFault (t : Nat) (temp : Int) (s : State) : Host.Outcome State Fault Refusal :=
  s.run t (fun s => s.overtemp temp)

/-- CAT_STATE_REQUEST 1 (R289). -/
def execStart (t : Nat) (r : Requester) (s : State) : Host.Outcome State Fault Refusal :=
  s.run t (fun s => s.setNumber r Obj.CAT_STATE_REQUEST 1 1)

/-- CAT_STATE_REQUEST 2 (R289). -/
def execStop (t : Nat) (r : Requester) (s : State) : Host.Outcome State Fault Refusal :=
  s.run t (fun s => s.setNumber r Obj.CAT_STATE_REQUEST 1 2)

/-- The last line triggered before STOP has retired (R289). -/
def execStopComplete (t : Nat) (s : State) : Host.Outcome State Fault Refusal :=
  s.run t (fun s => s.stopAnswered)

/-- CAT_STATE_REQUEST 3 (R289, R480). -/
def execRest (t : Nat) (r : Requester) (s : State) : Host.Outcome State Fault Refusal :=
  s.run t (fun s => s.setNumber r Obj.CAT_STATE_REQUEST 1 3)

/-- CAT_STATE_REQUEST 4 (R289, R554). -/
def execReset (t : Nat) (r : Requester) (s : State) : Host.Outcome State Fault Refusal :=
  s.run t (fun s => s.setNumber r Obj.CAT_STATE_REQUEST 1 4)

/-- REST reached (R480). -/
def execRestEntered (t : Nat) (s : State) : Host.Outcome State Fault Refusal :=
  s.run t (fun s => s.restEntered)

/-- 1 ms after REST entry began (R323, R350). -/
def execRestDrainTimeout (t : Nat) (s : State) : Host.Outcome State Fault Refusal :=
  s.run t (fun s => s.restDrained)

/-- A receive lane of a port leaves electrical idle (R326). -/
def execWakeElectricalIdleExit (t : Nat) (p : Port) (s : State) : Host.Outcome State Fault Refusal :=
  s.run t (fun s => s.idleExit p)

/-- An edge on a pin that holds for 100 ns (R426). -/
def execWakePinEdge (t pin : Nat) (rising : Bool) (s : State) : Host.Outcome State Fault Refusal :=
  s.runOn (decide (pin < 256)) t (fun s => s.wakePin pin rising)

/-- An address on a two-wire port in REST (R457). -/
def execRestAddressMatch (t : Nat) (p : TwPort) (addr : Nat) (s : State) : Host.Outcome State Fault Refusal :=
  s.runOn (decide (addr < 128)) t (fun s => s.addressWake p addr)

/-- A STRETCH hold has lasted 450 us (R458). -/
def execStretchExpired (t : Nat) (p : TwPort) (s : State) : Host.Outcome State Fault Refusal :=
  s.run t (fun s => s.stretchExpired p)

/-- A falling edge on ALERT_N that holds for 100 ns (R461). -/
def execWakeAlertN (t : Nat) (s : State) : Host.Outcome State Fault Refusal :=
  s.run t (fun s => s.wake 7)

/-- The always-on timer expires (R481). -/
def execRestTimerExpiry (t : Nat) (s : State) : Host.Outcome State Fault Refusal :=
  s.run t (fun s => s.restTimer)

/-- A woken tile reaches READY (R22, R482). -/
def execWakeComplete (t : Nat) (s : State) : Host.Outcome State Fault Refusal :=
  s.run t (fun s => s.wakeComplete)

/-- An accepted transition at the encoder lands (R50, R52). -/
def execEncoderEdge (t : Nat) (e : EncEdge) (s : State) : Host.Outcome State Fault Refusal :=
  s.run t (fun s => s.encoderMotion e)

/-- An encoder pair below 200 mV for 1 us (R53). -/
def execLtEncFault (t : Nat) (s : State) : Host.Outcome State Fault Refusal :=
  s.run t (fun s => s.encFault)

/-- Both pairs above 200 mV for 1 ms (R53). -/
def execLtPosRestored (t : Nat) (s : State) : Host.Outcome State Fault Refusal :=
  s.run t (fun s => s.encRestored)

/-- A rising edge of ENC_Z (R72). -/
def execEncZMark (t : Nat) (s : State) : Host.Outcome State Fault Refusal :=
  s.run t (fun s => s.encZ)

/-- LT_POS_MASTER written (R55). -/
def execLtPosMasterWrite (t : Nat) (r : Requester) (v : Nat) (s : State) : Host.Outcome State Fault Refusal :=
  s.run t (fun s => s.setNumber r Obj.LT_POS_MASTER 1 v)

/-- LT_POS_PERIOD has passed on the position master (R57). -/
def execPositionTokenSend (t : Nat) (s : State) : Host.Outcome State Fault Refusal :=
  s.run t (fun s => s.positionDue)

/-- A POSITION token arrives on a port (R363). -/
def execPositionToken (t : Nat) (p : Port) (f : RxFrame) (s : State) : Host.Outcome State Fault Refusal :=
  s.run t (fun s => s.receiveType p f 0x31 none)

/-- No token for LT_POS_HOLDOVER (R60). -/
def execLtPosHoldover (t : Nat) (s : State) : Host.Outcome State Fault Refusal :=
  s.run t (fun s => s.posHoldover)

/-- No token for LT_POS_LOSS (R60). -/
def execLtPosLost (t : Nat) (s : State) : Host.Outcome State Fault Refusal :=
  s.run t (fun s => s.posLoss)

/-- The station position reaches the next grid boundary (R64). -/
def execLineTrigger (t : Nat) (s : State) : Host.Outcome State Fault Refusal :=
  s.run t (fun s => s.lineTrigger)

/-- The busy window ends and the held trigger fires (R68). -/
def execHeldTriggerFire (t : Nat) (s : State) : Host.Outcome State Fault Refusal :=
  s.run t (fun s => s.heldFire)

/-- 110 ns after the trigger the long rows start their exposure (R33). -/
def execExposureStart (t : Nat) (s : State) : Host.Outcome State Fault Refusal :=
  s.run t (fun s => s.exposureStart)

/-- The short rows start theirs (R33, R39). -/
def execShortExposureStart (t : Nat) (s : State) : Host.Outcome State Fault Refusal :=
  s.run t (fun s => s.shortStart)

/-- The global transfer (R33). -/
def execExposureEnd (t : Nat) (s : State) : Host.Outcome State Fault Refusal :=
  s.run t (fun s => s.exposureEnd)

/-- The code of a row slot is ready (R83, R85): `codes` are those of the physical columns. -/
def execRowCodeReady (t slot : Nat) (codes : List (BitVec 12)) (s : State) : Host.Outcome State Fault Refusal :=
  s.run t (fun s => s.rowReady slot codes)

/-- 600 ns after the last row the line closes (R85). -/
def execLineClose (t : Nat) (s : State) : Host.Outcome State Fault Refusal :=
  s.run t (fun s => s.lineClose)

/-- The array temperature, in 1/16 degree, rises (R43). -/
def execPxImageTemp (t : Nat) (temp : Int) (s : State) : Host.Outcome State Fault Refusal :=
  s.run t (fun s => s.imageHot temp)

/-- The array temperature, in 1/16 degree, falls (R43). -/
def execPxImageTempClear (t : Nat) (temp : Int) (s : State) : Host.Outcome State Fault Refusal :=
  s.run t (fun s => s.imageCool temp)

/-- Strobe window `x` opens (R69). -/
def execStrobeWindowOpen (t x : Nat) (s : State) : Host.Outcome State Fault Refusal :=
  s.runOn (decide (x < 4)) t (fun s => s.strobeOpen x)

/-- Strobe window `x` ends (R69). -/
def execStrobeWindowClose (t x : Nat) (s : State) : Host.Outcome State Fault Refusal :=
  s.runOn (decide (x < 4)) t (fun s => s.strobeClose x)

/-- In READY the station position reaches SWITCH_POS (R248). -/
def execAccessionSwitchReady (t : Nat) (s : State) : Host.Outcome State Fault Refusal :=
  s.run t (fun s => s.accReady)

end Sys2Proof.Machine
end

