-- ==== Sys2Proof/Machine/TwoWireRows.lean ====
section
/-! DEFINITION. The commands of the two-wire ports (16). -/

namespace Sys2Proof.Machine

/-- TW_A_XFER written (R450). -/
def execTwAXfer (t : Nat) (r : Requester) (value : List Byte) (s : State) : Host.Outcome State Fault Refusal :=
  s.run t (fun s => s.setRequest r Obj.TW_XFER value)

/-- A controller transfer ends with a STOP (R451, R452): with the bytes read, or not acknowledged in a byte. -/
def execTwXferDone (t : Nat) (nack : Option Nat) (data : List Byte) (s : State) : Host.Outcome State Fault Refusal :=
  s.run t (fun s => s.twDone nack data)

/-- Arbitration lost in a byte (R453). -/
def execTwArbLost (t byteIndex : Nat) (s : State) : Host.Outcome State Fault Refusal :=
  s.run t (fun s => s.arbLost byteIndex)

/-- An unexpected START (else a STOP) in a byte (R454), after the bytes read before it. -/
def execTwBusErr (t byteIndex : Nat) (start : Bool) (data : List Byte) (s : State) : Host.Outcome State Fault Refusal :=
  s.run t (fun s => s.busErr byteIndex start data)

/-- SCL held low beyond TW_A_STRETCH_LIMIT (R454), after the bytes read before it. -/
def execTwControllerTimeout (t byteIndex : Nat) (data : List Byte) (s : State) : Host.Outcome State Fault Refusal :=
  s.run t (fun s => s.controllerTimeout byteIndex data)

/-- SDA low with SCL high for 1 ms when a transfer is due (R454). -/
def execTwBusHang (t : Nat) (s : State) : Host.Outcome State Fault Refusal :=
  s.run t (fun s => s.busHang)

/-- TW_A_RECOVER written (R454). -/
def execTwARecover (t : Nat) (r : Requester) (v : Nat) (s : State) : Host.Outcome State Fault Refusal :=
  s.run t (fun s => s.setNumber r Obj.TW_RECOVER 1 v)

/-- The recovery sequence ends (R454). -/
def execTwRecoveryDone (t : Nat) (sdaHigh : Bool) (s : State) : Host.Outcome State Fault Refusal :=
  s.run t (fun s => s.recovered sdaHigh)

/-- A START in an acknowledge slot (R455). -/
def execTwRsInAck (t : Nat) (p : TwPort) (s : State) : Host.Outcome State Fault Refusal :=
  s.run t (fun s => s.rsInAck p)

/-- SCL low for 35 ms during a target transfer (R455). -/
def execTwTargetTimeout (t : Nat) (p : TwPort) (s : State) : Host.Outcome State Fault Refusal :=
  s.run t (fun s => s.targetTimeout p)

/-- A write transfer to the window of I2CA (R456). -/
def execI2caTargetWrite (t addr : Nat) (bytes : List Byte) (s : State) : Host.Outcome State Fault Refusal :=
  s.runOn (decide (addr < 128)) t (fun s => s.windowWrite addr bytes)

/-- A read transfer of `n` bytes from the window (R456). -/
def execI2caTargetRead (t addr n : Nat) (s : State) : Host.Outcome State Fault Refusal :=
  s.runOn (decide (addr < 128)) t (fun s => s.windowTaken addr n)

/-- A read of 0x0C (R460). -/
def execAlertResponse (t : Nat) (p : TwPort) (lost : Bool) (s : State) : Host.Outcome State Fault Refusal :=
  s.run t (fun s => s.alertResponse p lost)

/-- TW_ALERT_SET written (R459). -/
def execTwAlertSet (t : Nat) (r : Requester) (v : Nat) (s : State) : Host.Outcome State Fault Refusal :=
  s.run t (fun s => s.setNumber r Obj.TW_ALERT_SET 1 v)

/-- TW_ALERT_CLEAR written (R459). -/
def execTwAlertClear (t : Nat) (r : Requester) (v : Nat) (s : State) : Host.Outcome State Fault Refusal :=
  s.run t (fun s => s.setNumber r Obj.TW_ALERT_CLEAR 1 v)

/-- TW_A_WINDOW_OUT written (R456). -/
def execTwAWindowOut (t : Nat) (r : Requester) (bytes : List Byte) (s : State) : Host.Outcome State Fault Refusal :=
  s.run t (fun s => s.setRequest r Obj.TW_WINDOW_OUT bytes)

/-- The bus has been free for tBUF (R449, R453). -/
def execI2caBusFree (t : Nat) (s : State) : Host.Outcome State Fault Refusal :=
  s.run t (fun s => s.busFree)

end Sys2Proof.Machine
end

