-- ==== Sys2Proof/Machine/Dispatch.lean ====
section
/-! DEFINITION. One arm per command (R10; opcode_table.json): each is one call of its meaning. -/

namespace Sys2Proof.Machine

/-- The effect of a command on everything but the queue. -/
def exec (i : Instr) (s : State) : Host.Outcome State Fault Refusal :=
  match i with
  | .vinQualified t mV => Sys2Proof.Machine.execVinQualified t mV s
  | .bootVerify t => Sys2Proof.Machine.execBootVerify t s
  | .selftestDone t r => Sys2Proof.Machine.execSelftestDone t r s
  | .calloadDone t calA calB => Sys2Proof.Machine.execCalloadDone t calA calB s
  | .stateTimeout t => Sys2Proof.Machine.execStateTimeout t s
  | .coreWatchdogExpiry t pc => Sys2Proof.Machine.execCoreWatchdogExpiry t pc s
  | .lockstepMismatch t pc => Sys2Proof.Machine.execLockstepMismatch t pc s
  | .coreMemoryError t uncorrectable => Sys2Proof.Machine.execCoreMemoryError t uncorrectable s
  | .overtempFault t temp => Sys2Proof.Machine.execOvertempFault t temp s
  | .start t r => Sys2Proof.Machine.execStart t r s
  | .stop t r => Sys2Proof.Machine.execStop t r s
  | .stopComplete t => Sys2Proof.Machine.execStopComplete t s
  | .rest t r => Sys2Proof.Machine.execRest t r s
  | .reset t r => Sys2Proof.Machine.execReset t r s
  | .restEntered t => Sys2Proof.Machine.execRestEntered t s
  | .restDrainTimeout t => Sys2Proof.Machine.execRestDrainTimeout t s
  | .wakeElectricalIdleExit t p => Sys2Proof.Machine.execWakeElectricalIdleExit t p s
  | .wakePinEdge t pin rising => Sys2Proof.Machine.execWakePinEdge t pin rising s
  | .restAddressMatch t p addr => Sys2Proof.Machine.execRestAddressMatch t p addr s
  | .stretchExpired t p => Sys2Proof.Machine.execStretchExpired t p s
  | .wakeAlertN t => Sys2Proof.Machine.execWakeAlertN t s
  | .restTimerExpiry t => Sys2Proof.Machine.execRestTimerExpiry t s
  | .wakeComplete t => Sys2Proof.Machine.execWakeComplete t s
  | .encoderEdge t e => Sys2Proof.Machine.execEncoderEdge t e s
  | .ltEncFault t => Sys2Proof.Machine.execLtEncFault t s
  | .ltPosRestored t => Sys2Proof.Machine.execLtPosRestored t s
  | .encZMark t => Sys2Proof.Machine.execEncZMark t s
  | .ltPosMasterWrite t r v => Sys2Proof.Machine.execLtPosMasterWrite t r v s
  | .positionTokenSend t => Sys2Proof.Machine.execPositionTokenSend t s
  | .positionToken t p f => Sys2Proof.Machine.execPositionToken t p f s
  | .ltPosHoldover t => Sys2Proof.Machine.execLtPosHoldover t s
  | .ltPosLost t => Sys2Proof.Machine.execLtPosLost t s
  | .lineTrigger t => Sys2Proof.Machine.execLineTrigger t s
  | .heldTriggerFire t => Sys2Proof.Machine.execHeldTriggerFire t s
  | .exposureStart t => Sys2Proof.Machine.execExposureStart t s
  | .shortExposureStart t => Sys2Proof.Machine.execShortExposureStart t s
  | .exposureEnd t => Sys2Proof.Machine.execExposureEnd t s
  | .rowCodeReady t slot codes => Sys2Proof.Machine.execRowCodeReady t slot codes s
  | .lineClose t => Sys2Proof.Machine.execLineClose t s
  | .pxImageTemp t temp => Sys2Proof.Machine.execPxImageTemp t temp s
  | .pxImageTempClear t temp => Sys2Proof.Machine.execPxImageTempClear t temp s
  | .strobeWindowOpen t x => Sys2Proof.Machine.execStrobeWindowOpen t x s
  | .strobeWindowClose t x => Sys2Proof.Machine.execStrobeWindowClose t x s
  | .accessionSwitchReady t => Sys2Proof.Machine.execAccessionSwitchReady t s
  | .kernelLoadDone t e => Sys2Proof.Machine.execKernelLoadDone t e s
  | .taskStart t e => Sys2Proof.Machine.execTaskStart t e s
  | .hallClockStop t h => Sys2Proof.Machine.execHallClockStop t h s
  | .hallClockReady t h => Sys2Proof.Machine.execHallClockReady t h s
  | .sysNop e => Sys2Proof.Machine.execSysNop e s
  | .sysYield e => Sys2Proof.Machine.execSysYield e s
  | .yieldDrainDone t e => Sys2Proof.Machine.execYieldDrainDone t e s
  | .saluAdd e rd ra rb => Sys2Proof.Machine.execSaluAdd e rd ra rb s
  | .saluSub e rd ra rb => Sys2Proof.Machine.execSaluSub e rd ra rb s
  | .saluAnd e rd ra rb => Sys2Proof.Machine.execSaluAnd e rd ra rb s
  | .saluOr e rd ra rb => Sys2Proof.Machine.execSaluOr e rd ra rb s
  | .saluXor e rd ra rb => Sys2Proof.Machine.execSaluXor e rd ra rb s
  | .saluSll e rd ra rb => Sys2Proof.Machine.execSaluSll e rd ra rb s
  | .saluSrl e rd ra rb => Sys2Proof.Machine.execSaluSrl e rd ra rb s
  | .saluSra e rd ra rb => Sys2Proof.Machine.execSaluSra e rd ra rb s
  | .saluMul e rd ra rb => Sys2Proof.Machine.execSaluMul e rd ra rb s
  | .saluMulhs e rd ra rb => Sys2Proof.Machine.execSaluMulhs e rd ra rb s
  | .saluMulhu e rd ra rb => Sys2Proof.Machine.execSaluMulhu e rd ra rb s
  | .saluSlt e rd ra rb => Sys2Proof.Machine.execSaluSlt e rd ra rb s
  | .saluSltu e rd ra rb => Sys2Proof.Machine.execSaluSltu e rd ra rb s
  | .saluMin e rd ra rb => Sys2Proof.Machine.execSaluMin e rd ra rb s
  | .saluMax e rd ra rb => Sys2Proof.Machine.execSaluMax e rd ra rb s
  | .saluMinu e rd ra rb => Sys2Proof.Machine.execSaluMinu e rd ra rb s
  | .saluMaxu e rd ra rb => Sys2Proof.Machine.execSaluMaxu e rd ra rb s
  | .addi e rd ra imm => Sys2Proof.Machine.execAddi e rd ra imm s
  | .andi e rd ra imm => Sys2Proof.Machine.execAndi e rd ra imm s
  | .ori e rd ra imm => Sys2Proof.Machine.execOri e rd ra imm s
  | .xori e rd ra imm => Sys2Proof.Machine.execXori e rd ra imm s
  | .lui e rd imm => Sys2Proof.Machine.execLui e rd imm s
  | .slti e rd ra imm => Sys2Proof.Machine.execSlti e rd ra imm s
  | .shiSll e rd ra k => Sys2Proof.Machine.execShiSll e rd ra k s
  | .shiSrl e rd ra k => Sys2Proof.Machine.execShiSrl e rd ra k s
  | .shiSra e rd ra k => Sys2Proof.Machine.execShiSra e rd ra k s
  | .ldw e rd ra imm => Sys2Proof.Machine.execLdw e rd ra imm s
  | .stw e rd ra imm => Sys2Proof.Machine.execStw e rd ra imm s
  | .ldh e rd ra imm => Sys2Proof.Machine.execLdh e rd ra imm s
  | .sth e rd ra imm => Sys2Proof.Machine.execSth e rd ra imm s
  | .sget e rd sel => Sys2Proof.Machine.execSget e rd sel s
  | .jal e rd imm => Sys2Proof.Machine.execJal e rd imm s
  | .jr e ra => Sys2Proof.Machine.execJr e ra s
  | .beq e rd ra imm => Sys2Proof.Machine.execBeq e rd ra imm s
  | .bne e rd ra imm => Sys2Proof.Machine.execBne e rd ra imm s
  | .blt e rd ra imm => Sys2Proof.Machine.execBlt e rd ra imm s
  | .bge e rd ra imm => Sys2Proof.Machine.execBge e rd ra imm s
  | .bltu e rd ra imm => Sys2Proof.Machine.execBltu e rd ra imm s
  | .bgeu e rd ra imm => Sys2Proof.Machine.execBgeu e rd ra imm s
  | .bany e p imm => Sys2Proof.Machine.execBany e p imm s
  | .bnone e p imm => Sys2Proof.Machine.execBnone e p imm s
  | .loop e ra b => Sys2Proof.Machine.execLoop e ra b s
  | .vadd e rd ra rb pg => Sys2Proof.Machine.execVadd e rd ra rb pg s
  | .vsub e rd ra rb pg => Sys2Proof.Machine.execVsub e rd ra rb pg s
  | .vadds e rd ra rb pg => Sys2Proof.Machine.execVadds e rd ra rb pg s
  | .vsubs e rd ra rb pg => Sys2Proof.Machine.execVsubs e rd ra rb pg s
  | .vaddu e rd ra rb pg => Sys2Proof.Machine.execVaddu e rd ra rb pg s
  | .vsubu e rd ra rb pg => Sys2Proof.Machine.execVsubu e rd ra rb pg s
  | .vabsdu e rd ra rb pg => Sys2Proof.Machine.execVabsdu e rd ra rb pg s
  | .vabsds e rd ra rb pg => Sys2Proof.Machine.execVabsds e rd ra rb pg s
  | .vmin e rd ra rb pg => Sys2Proof.Machine.execVmin e rd ra rb pg s
  | .vmax e rd ra rb pg => Sys2Proof.Machine.execVmax e rd ra rb pg s
  | .vminu e rd ra rb pg => Sys2Proof.Machine.execVminu e rd ra rb pg s
  | .vmaxu e rd ra rb pg => Sys2Proof.Machine.execVmaxu e rd ra rb pg s
  | .vand e rd ra rb pg => Sys2Proof.Machine.execVand e rd ra rb pg s
  | .vor e rd ra rb pg => Sys2Proof.Machine.execVor e rd ra rb pg s
  | .vxor e rd ra rb pg => Sys2Proof.Machine.execVxor e rd ra rb pg s
  | .vsel e rd ra rb pg => Sys2Proof.Machine.execVsel e rd ra rb pg s
  | .vsll e rd ra rb pg => Sys2Proof.Machine.execVsll e rd ra rb pg s
  | .vsrl e rd ra rb pg => Sys2Proof.Machine.execVsrl e rd ra rb pg s
  | .vsra e rd ra rb pg => Sys2Proof.Machine.execVsra e rd ra rb pg s
  | .vsrar e rd ra rb pg => Sys2Proof.Machine.execVsrar e rd ra rb pg s
  | .vavgu e rd ra rb pg => Sys2Proof.Machine.execVavgu e rd ra rb pg s
  | .vcmp e rd ra rb pg cmp => Sys2Proof.Machine.execVcmp e rd ra rb pg cmp s
  | .vshiSll e rd ra pg k => Sys2Proof.Machine.execVshiSll e rd ra pg k s
  | .vshiSrl e rd ra pg k => Sys2Proof.Machine.execVshiSrl e rd ra pg k s
  | .vshiSra e rd ra pg k => Sys2Proof.Machine.execVshiSra e rd ra pg k s
  | .vshiSrar e rd ra pg k => Sys2Proof.Machine.execVshiSrar e rd ra pg k s
  | .vsplat e rd ra pg => Sys2Proof.Machine.execVsplat e rd ra pg s
  | .vgetl e rd ra lane sext => Sys2Proof.Machine.execVgetl e rd ra lane sext s
  | .vsetl e rd ra lane => Sys2Proof.Machine.execVsetl e rd ra lane s
  | .vslide e rd ra rb pg k => Sys2Proof.Machine.execVslide e rd ra rb pg k s
  | .vredSum e rd ra pg => Sys2Proof.Machine.execVredSum e rd ra pg s
  | .vredSumu e rd ra pg => Sys2Proof.Machine.execVredSumu e rd ra pg s
  | .vredMin e rd ra pg => Sys2Proof.Machine.execVredMin e rd ra pg s
  | .vredMax e rd ra pg => Sys2Proof.Machine.execVredMax e rd ra pg s
  | .vredMinu e rd ra pg => Sys2Proof.Machine.execVredMinu e rd ra pg s
  | .vredMaxu e rd ra pg => Sys2Proof.Machine.execVredMaxu e rd ra pg s
  | .predAnd e rd ra rb => Sys2Proof.Machine.execPredAnd e rd ra rb s
  | .predOr e rd ra rb => Sys2Proof.Machine.execPredOr e rd ra rb s
  | .predXor e rd ra rb => Sys2Proof.Machine.execPredXor e rd ra rb s
  | .predAndn e rd ra rb => Sys2Proof.Machine.execPredAndn e rd ra rb s
  | .predNot e rd ra => Sys2Proof.Machine.execPredNot e rd ra s
  | .predFroms e rd ra => Sys2Proof.Machine.execPredFroms e rd ra s
  | .predTos e rd ra => Sys2Proof.Machine.execPredTos e rd ra s
  | .predCnt e rd ra => Sys2Proof.Machine.execPredCnt e rd ra s
  | .vmacMac e rd ra rb pg => Sys2Proof.Machine.execVmacMac e rd ra rb pg s
  | .vmacMacu e rd ra rb pg => Sys2Proof.Machine.execVmacMacu e rd ra rb pg s
  | .vmacMacsu e rd ra rb pg => Sys2Proof.Machine.execVmacMacsu e rd ra rb pg s
  | .vmacMsub e rd ra rb pg => Sys2Proof.Machine.execVmacMsub e rd ra rb pg s
  | .vmacMul e rd ra rb pg => Sys2Proof.Machine.execVmacMul e rd ra rb pg s
  | .vmacMulu e rd ra rb pg => Sys2Proof.Machine.execVmacMulu e rd ra rb pg s
  | .vmacSqd e rd ra rb pg => Sys2Proof.Machine.execVmacSqd e rd ra rb pg s
  | .vmacAadd e rd ra rb pg => Sys2Proof.Machine.execVmacAadd e rd ra rb pg s
  | .vmacAaddu e rd ra rb pg => Sys2Proof.Machine.execVmacAaddu e rd ra rb pg s
  | .vmacAclr e rd pg => Sys2Proof.Machine.execVmacAclr e rd pg s
  | .vmacsSigned e rd ra rb pg => Sys2Proof.Machine.execVmacsSigned e rd ra rb pg s
  | .vmacsUnsigned e rd ra rb pg => Sys2Proof.Machine.execVmacsUnsigned e rd ra rb pg s
  | .vnarrowSigned e rd ra pg k => Sys2Proof.Machine.execVnarrowSigned e rd ra pg k s
  | .vnarrowUnsigned e rd ra pg k => Sys2Proof.Machine.execVnarrowUnsigned e rd ra pg k s
  | .ared e rd ra pg k => Sys2Proof.Machine.execAred e rd ra pg k s
  | .vlut e rd ra rb pg k => Sys2Proof.Machine.execVlut e rd ra rb pg k s
  | .vld e rd ra pg off => Sys2Proof.Machine.execVld e rd ra pg off s
  | .vst e rd ra pg off => Sys2Proof.Machine.execVst e rd ra pg off s
  | .vldp e rd ra pg => Sys2Proof.Machine.execVldp e rd ra pg s
  | .vstp e rd ra pg => Sys2Proof.Machine.execVstp e rd ra pg s
  | .popLine e rd pg => Sys2Proof.Machine.execPopLine e rd pg s
  | .lineDataArrival t e n => Sys2Proof.Machine.execLineDataArrival t e n s
  | .popRef e rd pg => Sys2Proof.Machine.execPopRef e rd pg s
  | .push e ra full => Sys2Proof.Machine.execPush e ra full s
  | .pushs e ra full => Sys2Proof.Machine.execPushs e ra full s
  | .outSpaceFreed t e => Sys2Proof.Machine.execOutSpaceFreed t e s
  | .fetch e rd ra rb tag table => Sys2Proof.Machine.execFetch e rd ra rb tag table s
  | .fetchTagComplete t e tag bad => Sys2Proof.Machine.execFetchTagComplete t e tag bad s
  | .prefetchIssue t e => Sys2Proof.Machine.execPrefetchIssue t e s
  | .fetchTableEntryFreed t => Sys2Proof.Machine.execFetchTableEntryFreed t s
  | .waittag e tag => Sys2Proof.Machine.execWaittag e tag s
  | .event t e line ra => Sys2Proof.Machine.execEvent t e line ra s
  | .budgetCut t e => Sys2Proof.Machine.execBudgetCut t e s
  | .lineRetire t => Sys2Proof.Machine.execLineRetire t s
  | .lineAgeRetire t => Sys2Proof.Machine.execLineAgeRetire t s
  | .kernelBlobWrite t r slot bytes => Sys2Proof.Machine.execKernelBlobWrite t r slot bytes s
  | .vaSlotClear t r v => Sys2Proof.Machine.execVaSlotClear t r v s
  | .slotClearDone t => Sys2Proof.Machine.execSlotClearDone t s
  | .patrolScrubPass t ce bad => Sys2Proof.Machine.execPatrolScrubPass t ce bad s
  | .bulkWrite t p f => Sys2Proof.Machine.execBulkWrite t p f s
  | .bulkWriteAck t => Sys2Proof.Machine.execBulkWriteAck t s
  | .bulkRead t p f => Sys2Proof.Machine.execBulkRead t p f s
  | .bulkData t k bad => Sys2Proof.Machine.execBulkData t k bad s
  | .catFolioSeal t r v => Sys2Proof.Machine.execCatFolioSeal t r v s
  | .folSealed t => Sys2Proof.Machine.execFolSealed t s
  | .catFolioUnseal t r v => Sys2Proof.Machine.execCatFolioUnseal t r v s
  | .catFolioCopy t r v => Sys2Proof.Machine.execCatFolioCopy t r v s
  | .accession t p f => Sys2Proof.Machine.execAccession t p f s
  | .beacon t => Sys2Proof.Machine.execBeacon t s
  | .folQuoteNonce t r nonce => Sys2Proof.Machine.execFolQuoteNonce t r nonce s
  | .quoteSigned t => Sys2Proof.Machine.execQuoteSigned t s
  | .catFolioSaveResume t r v => Sys2Proof.Machine.execCatFolioSaveResume t r v s
  | .folResumeSaved t => Sys2Proof.Machine.execFolResumeSaved t s
  | .catFolioClearResume t r v => Sys2Proof.Machine.execCatFolioClearResume t r v s
  | .resumeDigestDone t => Sys2Proof.Machine.execResumeDigestDone t s
  | .get t r payload => Sys2Proof.Machine.execGet t r payload s
  | .set t r payload => Sys2Proof.Machine.execSet t r payload s
  | .getSeg t r payload => Sys2Proof.Machine.execGetSeg t r payload s
  | .setSeg t r payload => Sys2Proof.Machine.execSetSeg t r payload s
  | .list t r payload => Sys2Proof.Machine.execList t r payload s
  | .catSegAbandoned t => Sys2Proof.Machine.execCatSegAbandoned t s
  | .longOperationDone t => Sys2Proof.Machine.execLongOperationDone t s
  | .registerWrite t r id value => Sys2Proof.Machine.execRegisterWrite t r id value s
  | .execute t => Sys2Proof.Machine.execExecute t s
  | .mailboxDone t => Sys2Proof.Machine.execMailboxDone t s
  | .i2cbWriteTransfer t addr bytes => Sys2Proof.Machine.execI2cbWriteTransfer t addr bytes s
  | .i2cbReadTransfer t addr n => Sys2Proof.Machine.execI2cbReadTransfer t addr n s
  | .lnkLockLost t p lane errors => Sys2Proof.Machine.execLnkLockLost t p lane errors s
  | .skpSend t p => Sys2Proof.Machine.execSkpSend t p s
  | .lnkElasticError t p lane => Sys2Proof.Machine.execLnkElasticError t p lane s
  | .lnkDeskewError t p => Sys2Proof.Machine.execLnkDeskewError t p s
  | .recoveryTimeout t p => Sys2Proof.Machine.execRecoveryTimeout t p s
  | .retrainIntervalExpiry t p => Sys2Proof.Machine.execRetrainIntervalExpiry t p s
  | .ts1 t p lane l => Sys2Proof.Machine.execTs1 t p lane l s
  | .ts2 t p lane l => Sys2Proof.Machine.execTs2 t p lane l s
  | .rateChangeDone t p => Sys2Proof.Machine.execRateChangeDone t p s
  | .tapRequestResend t p lane => Sys2Proof.Machine.execTapRequestResend t p lane s
  | .trainingStepDone t p lane w h => Sys2Proof.Machine.execTrainingStepDone t p lane w h s
  | .loopEcho t p l trip => Sys2Proof.Machine.execLoopEcho t p l trip s
  | .hopMeasureDone t p => Sys2Proof.Machine.execHopMeasureDone t p s
  | .hopPeriodExpiry t p => Sys2Proof.Machine.execHopPeriodExpiry t p s
  | .portUp t p => Sys2Proof.Machine.execPortUp t p s
  | .eyeMeasureDone t p lane w h => Sys2Proof.Machine.execEyeMeasureDone t p lane w h s
  | .eyePeriodExpiry t p => Sys2Proof.Machine.execEyePeriodExpiry t p s
  | .lnkEyeMeasure t r v => Sys2Proof.Machine.execLnkEyeMeasure t r v s
  | .lnkLaneTest t r p lane v => Sys2Proof.Machine.execLnkLaneTest t r p lane v s
  | .injectionPeriodic t p lane => Sys2Proof.Machine.execInjectionPeriodic t p lane s
  | .lnkPrbsResync t p lane errors => Sys2Proof.Machine.execLnkPrbsResync t p lane errors s
  | .lnkRetrainA t r v => Sys2Proof.Machine.execLnkRetrainA t r v s
  | .lnkRetrainB t r v => Sys2Proof.Machine.execLnkRetrainB t r v s
  | .lnkWakeA t r v => Sys2Proof.Machine.execLnkWakeA t r v s
  | .lnkWakeB t r v => Sys2Proof.Machine.execLnkWakeB t r v s
  | .wakeIdleEnd t p => Sys2Proof.Machine.execWakeIdleEnd t p s
  | .pass t p l => Sys2Proof.Machine.execPass t p l s
  | .passEnd t p lane l => Sys2Proof.Machine.execPassEnd t p lane l s
  | .frameReceive t p f => Sys2Proof.Machine.execFrameReceive t p f s
  | .frameAbort t p bytes => Sys2Proof.Machine.execFrameAbort t p bytes s
  | .creditInit t p l marked => Sys2Proof.Machine.execCreditInit t p l marked s
  | .creditUpdate t p l marked => Sys2Proof.Machine.execCreditUpdate t p l marked s
  | .creditInitResend t p => Sys2Proof.Machine.execCreditInitResend t p s
  | .creditUpdateSend t p => Sys2Proof.Machine.execCreditUpdateSend t p s
  | .routeWaitTimeout t => Sys2Proof.Machine.execRouteWaitTimeout t s
  | .lnkRingBreak t p => Sys2Proof.Machine.execLnkRingBreak t p s
  | .lnkRingRestored t => Sys2Proof.Machine.execLnkRingRestored t s
  | .offer t p f => Sys2Proof.Machine.execOffer t p f s
  | .enumOnwardWaitEnd t => Sys2Proof.Machine.execEnumOnwardWaitEnd t s
  | .commit t p f => Sys2Proof.Machine.execCommit t p f s
  | .time t p f => Sys2Proof.Machine.execTime t p f s
  | .timeTokenSend t => Sys2Proof.Machine.execTimeTokenSend t s
  | .lnkTimeHoldover t => Sys2Proof.Machine.execLnkTimeHoldover t s
  | .lnkTimeLost t => Sys2Proof.Machine.execLnkTimeLost t s
  | .lnkTimeMasterWrite t r v => Sys2Proof.Machine.execLnkTimeMasterWrite t r v s
  | .frameStart t p vc number hdr => Sys2Proof.Machine.execFrameStart t p vc number hdr s
  | .frameEnd t p vc number hdr => Sys2Proof.Machine.execFrameEnd t p vc number hdr s
  | .longPacket t p vc dt hdr crcOk payload => Sys2Proof.Machine.execLongPacket t p vc dt hdr crcOk payload s
  | .frameTimeout t c => Sys2Proof.Machine.execFrameTimeout t c s
  | .gaCtxApply t r c v => Sys2Proof.Machine.execGaCtxApply t r c v s
  | .viewItemDone t c kind => Sys2Proof.Machine.execViewItemDone t c kind s
  | .galleryClockStop t => Sys2Proof.Machine.execGalleryClockStop t s
  | .referenceReady t => Sys2Proof.Machine.execReferenceReady t s
  | .amRefBuffer t r v => Sys2Proof.Machine.execAmRefBuffer t r v s
  | .amSyncReset t r v => Sys2Proof.Machine.execAmSyncReset t r v s
  | .amChannelConfigWrite t r id value => Sys2Proof.Machine.execAmChannelConfigWrite t r id value s
  | .channelSettled t c => Sys2Proof.Machine.execChannelSettled t c s
  | .amCalStart t r v => Sys2Proof.Machine.execAmCalStart t r v s
  | .amCalVerdict t c m => Sys2Proof.Machine.execAmCalVerdict t c m s
  | .bgFactorUpdate t c m => Sys2Proof.Machine.execBgFactorUpdate t c m s
  | .amSpurLow t c => Sys2Proof.Machine.execAmSpurLow t c s
  | .accWindowOpen t u => Sys2Proof.Machine.execAccWindowOpen t u s
  | .accResultLatch t u slice codes => Sys2Proof.Machine.execAccResultLatch t u slice codes s
  | .accPinTrigger t pin => Sys2Proof.Machine.execAccPinTrigger t pin s
  | .amAccCapture t r k v => Sys2Proof.Machine.execAmAccCapture t r k v s
  | .amMmClear t r k v => Sys2Proof.Machine.execAmMmClear t r k v s
  | .gzBlockDone t c slice codes => Sys2Proof.Machine.execGzBlockDone t c slice codes s
  | .bankVioSample t codes => Sys2Proof.Machine.execBankVioSample t codes s
  | .pePinCfg t r bytes => Sys2Proof.Machine.execPePinCfg t r bytes s
  | .ctlNop e tick => Sys2Proof.Machine.execCtlNop e tick s
  | .ctlTake e tick => Sys2Proof.Machine.execCtlTake e tick s
  | .ctlAdd e tick => Sys2Proof.Machine.execCtlAdd e tick s
  | .ctlSub e tick => Sys2Proof.Machine.execCtlSub e tick s
  | .ctlXch e tick => Sys2Proof.Machine.execCtlXch e tick s
  | .ldk e tick dst k => Sys2Proof.Machine.execLdk e tick dst k s
  | .ldi e tick ct v => Sys2Proof.Machine.execLdi e tick ct v s
  | .move e tick dst src op pins => Sys2Proof.Machine.execMove e tick dst src op pins s
  | .pinLevels e tick v => Sys2Proof.Machine.execPinLevels e tick v s
  | .pinSet e tick v => Sys2Proof.Machine.execPinSet e tick v s
  | .pinClear e tick v => Sys2Proof.Machine.execPinClear e tick v s
  | .pinDirections e tick v => Sys2Proof.Machine.execPinDirections e tick v s
  | .shout e tick dst n => Sys2Proof.Machine.execShout e tick dst n s
  | .shin e tick src n pins => Sys2Proof.Machine.execShin e tick src n pins s
  | .fill e tick ifReady block => Sys2Proof.Machine.execFill e tick ifReady block s
  | .send e tick ifReady block => Sys2Proof.Machine.execSend e tick ifReady block s
  | .await e tick sense src idx level => Sys2Proof.Machine.execAwait e tick sense src idx level s
  | .go e tick cond target level => Sys2Proof.Machine.execGo e tick cond target level s
  | .pause e tick n => Sys2Proof.Machine.execPause e tick n s
  | .peStallRelease t e level => Sys2Proof.Machine.execPeStallRelease t e level s
  | .peProgram t r e bytes => Sys2Proof.Machine.execPeProgram t r e bytes s
  | .pePatch t r e v => Sys2Proof.Machine.execPePatch t r e v s
  | .peInject t r e v => Sys2Proof.Machine.execPeInject t r e v s
  | .peEnable t r v => Sys2Proof.Machine.execPeEnable t r v s
  | .peRestart t r v => Sys2Proof.Machine.execPeRestart t r v s
  | .peTx t r e v => Sys2Proof.Machine.execPeTx t r e v s
  | .peRx t r e => Sys2Proof.Machine.execPeRx t r e s
  | .twAXfer t r value => Sys2Proof.Machine.execTwAXfer t r value s
  | .twXferDone t nack data => Sys2Proof.Machine.execTwXferDone t nack data s
  | .twArbLost t byteIndex => Sys2Proof.Machine.execTwArbLost t byteIndex s
  | .twBusErr t byteIndex start data => Sys2Proof.Machine.execTwBusErr t byteIndex start data s
  | .twControllerTimeout t byteIndex data => Sys2Proof.Machine.execTwControllerTimeout t byteIndex data s
  | .twBusHang t => Sys2Proof.Machine.execTwBusHang t s
  | .twARecover t r v => Sys2Proof.Machine.execTwARecover t r v s
  | .twRecoveryDone t sdaHigh => Sys2Proof.Machine.execTwRecoveryDone t sdaHigh s
  | .twRsInAck t p => Sys2Proof.Machine.execTwRsInAck t p s
  | .twTargetTimeout t p => Sys2Proof.Machine.execTwTargetTimeout t p s
  | .i2caTargetWrite t addr bytes => Sys2Proof.Machine.execI2caTargetWrite t addr bytes s
  | .i2caTargetRead t addr n => Sys2Proof.Machine.execI2caTargetRead t addr n s
  | .alertResponse t p lost => Sys2Proof.Machine.execAlertResponse t p lost s
  | .twAlertSet t r v => Sys2Proof.Machine.execTwAlertSet t r v s
  | .twAlertClear t r v => Sys2Proof.Machine.execTwAlertClear t r v s
  | .twAWindowOut t r bytes => Sys2Proof.Machine.execTwAWindowOut t r bytes s
  | .clkRefFallback t => Sys2Proof.Machine.execClkRefFallback t s
  | .clkXtalFail t => Sys2Proof.Machine.execClkXtalFail t s
  | .clkLockLost t p => Sys2Proof.Machine.execClkLockLost t p s
  | .relockAttemptFail t p => Sys2Proof.Machine.execRelockAttemptFail t p s
  | .clkRelocked t p => Sys2Proof.Machine.execClkRelocked t p s
  | .rampInterval t => Sys2Proof.Machine.execRampInterval t s
  | .excursionDone t => Sys2Proof.Machine.execExcursionDone t s
  | .caseTempSample t temp => Sys2Proof.Machine.execCaseTempSample t temp s
  | .clkRefSel t r v => Sys2Proof.Machine.execClkRefSel t r v s
  | .clkBandTable t r p bytes => Sys2Proof.Machine.execClkBandTable t r p bytes s
  | .clkOutCfg t r n v => Sys2Proof.Machine.execClkOutCfg t r n v s
  | .clkXVco t r v => Sys2Proof.Machine.execClkXVco t r v s
  | .pwrHandover t mV => Sys2Proof.Machine.execPwrHandover t mV s
  | .cellReached t => Sys2Proof.Machine.execCellReached t s
  | .pwrVinRestored t mV => Sys2Proof.Machine.execPwrVinRestored t mV s
  | .bounceHoldEnd t => Sys2Proof.Machine.execBounceHoldEnd t s
  | .holdupTimeExpiry t => Sys2Proof.Machine.execHoldupTimeExpiry t s
  | .pwrCellCutoff t cellMv => Sys2Proof.Machine.execPwrCellCutoff t cellMv s
  | .shutdownComplete t => Sys2Proof.Machine.execShutdownComplete t s
  | .powerDemandExcess t d => Sys2Proof.Machine.execPowerDemandExcess t d s
  | .supplementPhase t => Sys2Proof.Machine.execSupplementPhase t s
  | .pwrOverload t mW => Sys2Proof.Machine.execPwrOverload t mW s
  | .holdupEnergyUpdate t r => Sys2Proof.Machine.execHoldupEnergyUpdate t r s
  | .prechargeEnd t => Sys2Proof.Machine.execPrechargeEnd t s
  | .chargeVoltageLimit t => Sys2Proof.Machine.execChargeVoltageLimit t s
  | .pwrChgDone t => Sys2Proof.Machine.execPwrChgDone t s
  | .rechargeStart t cellMv => Sys2Proof.Machine.execRechargeStart t cellMv s
  | .pwrChgTimer t => Sys2Proof.Machine.execPwrChgTimer t s
  | .ntcSample t ohm cellMv => Sys2Proof.Machine.execNtcSample t ohm cellMv s
  | .pwrChgRestart t r v => Sys2Proof.Machine.execPwrChgRestart t r v s
  | .pwrShip t r v => Sys2Proof.Machine.execPwrShip t r v s
  | .wakeNHold t => Sys2Proof.Machine.execWakeNHold t s
  | .dark t r => Sys2Proof.Machine.execDark t r s
  | .flat t r => Sys2Proof.Machine.execFlat t r s
  | .calRunTrigger t => Sys2Proof.Machine.execCalRunTrigger t s
  | .calRunResult t => Sys2Proof.Machine.execCalRunResult t s
  | .calCommit t r v => Sys2Proof.Machine.execCalCommit t r v s
  | .calCommitted t => Sys2Proof.Machine.execCalCommitted t s
  | .secFwImage t r bytes => Sys2Proof.Machine.execSecFwImage t r bytes s
  | .secFwActivateTarget t r => Sys2Proof.Machine.execSecFwActivateTarget t r s
  | .secFwActivateRunning t r => Sys2Proof.Machine.execSecFwActivateRunning t r s
  | .secSvnCommit t r v => Sys2Proof.Machine.execSecSvnCommit t r v s
  | .secOwnerEnrol t r bytes => Sys2Proof.Machine.execSecOwnerEnrol t r bytes s
  | .secOwnerEnrolled t => Sys2Proof.Machine.execSecOwnerEnrolled t s
  | .secAuthChallenge t r => Sys2Proof.Machine.execSecAuthChallenge t r s
  | .secAuthResponse t r sig => Sys2Proof.Machine.execSecAuthResponse t r sig s
  | .secAuthRevoke t r v => Sys2Proof.Machine.execSecAuthRevoke t r v s
  | .authGrantExpiry t => Sys2Proof.Machine.execAuthGrantExpiry t s
  | .authChallengeExpiry t => Sys2Proof.Machine.execAuthChallengeExpiry t s
  | .authLockoutEnd t => Sys2Proof.Machine.execAuthLockoutEnd t s
  | .eventHoldoffExpiry t code => Sys2Proof.Machine.execEventHoldoffExpiry t code s
  | .evtLogClear t r v => Sys2Proof.Machine.execEvtLogClear t r v s
  | .evtFaultHistoryClear t r v => Sys2Proof.Machine.execEvtFaultHistoryClear t r v s
  | .onHoursTick t => Sys2Proof.Machine.execOnHoursTick t s
  | .runHoursTick t => Sys2Proof.Machine.execRunHoursTick t s
  | .deskewAcquired t p => Sys2Proof.Machine.execDeskewAcquired t p s
  | .loopSet t p l turnaround => Sys2Proof.Machine.execLoopSet t p l turnaround s
  | .prbsSync t p lane => Sys2Proof.Machine.execPrbsSync t p lane s
  | .frameBoundary t p => Sys2Proof.Machine.execFrameBoundary t p s
  | .i2caBusFree t => Sys2Proof.Machine.execI2caBusFree t s
  | .stealWaitExpiry t => Sys2Proof.Machine.execStealWaitExpiry t s
  | .amClip t c => Sys2Proof.Machine.execAmClip t c s
  | .amAccOverflow t k slice codes => Sys2Proof.Machine.execAmAccOverflow t k slice codes s
  | .shipEndVin t mV => Sys2Proof.Machine.execShipEndVin t mV s

end Sys2Proof.Machine
end

