-- ==== Sys2Proof/Safety.lean ====
section
/-! DEFINITION. The terms in which claims about the tile are made: the status values that follow from the state, what a command leaves alone, and
the results of a strip-engine instruction. -/

namespace Sys2Proof.Machine

/-- The status values that the spec ties to the state at every moment agree with it: MODEL_FORCED (R64, R82), OLD_LINES (R197, R261), the fill of
the window (R202, R203), the clock noted for utilisation (R202); a change to the recovered reference waits only in READY while port A is not in UP (R482). -/
def State.settled (s : State) : Bool :=
  (s.flag Obj.LT_STATUS 4 == (Nat.beq (s.act Obj.LT_TRIG_MODE) 0 && !s.posMaster)) &&
  (s.flag Obj.FOL_STATUS 4 == s.oldLines) &&
  Nat.beq (s.reg Obj.CU_WINDOW_FILL) (s.cu.lines.length % 2 ^ 64) &&
  (s.flag Obj.CU_STATUS 1 == Nat.ble 256 s.cu.lines.length) &&
  Nat.beq s.notedClock s.clockUsed &&
  (!s.ck.waitRef || (decide (s.tile.state = .ready) && !(s.isUp .a)))

/-- The parts of the state but for the numbers of the volatile objects, which `numsBut` speaks of. `bytes` are the volatile byte strings, `moved` the Archive
transfers and uncorrectable words that the Curator notes, `cu` the rest of the Curator, `mirror` the event-log mirror, `archive` the rest of the Archive. -/
inductive Piece where
  | now | tile | bytes | active | staged | work | used | version | queue | transfers | long | mailbox | log | recs | lt | la | portA | portB | rg | am | cal | fol
  | sec | ck | pw | cu | moved | pins | tw | ga | archive | mirror | free | pending
  deriving DecidableEq, Repr

/-- A byte of the Archive. -/
def State.archByte (s : State) (a : Nat) : Byte := memRead archiveDefault s.archive a

/-- Does a byte of the Archive belong to the event-log mirror (R214)? -/
def inMirror (a : Nat) : Bool := Nat.ble mirrorBase a && Nat.blt a (mirrorBase + 4096)

/-- A part is as it was. -/
def Piece.same (p : Piece) (s u : State) : Prop :=
  match p with
  | .now => u.now = s.now
  | .tile => u.tile = s.tile
  | .bytes => u.cat.vol.blobs = s.cat.vol.blobs
  | .active => u.cat.active = s.cat.active
  | .staged => u.cat.staged = s.cat.staged
  | .work => u.cat.work = s.cat.work
  | .used => u.cat.used = s.cat.used
  | .version => u.cat.version = s.cat.version
  | .queue => u.cat.queue = s.cat.queue
  | .transfers => u.cat.transfers = s.cat.transfers ∧ u.cat.completed = s.cat.completed
  | .long => u.cat.long = s.cat.long
  | .mailbox => u.cat.mbBytes = s.cat.mbBytes ∧ u.cat.mbPointer = s.cat.mbPointer ∧ u.cat.mbState = s.cat.mbState ∧ u.cat.mbSeq = s.cat.mbSeq
  | .log => u.log = s.log
  | .recs => u.recs = s.recs
  | .lt => u.lt = s.lt
  | .la => u.la = s.la
  | .portA => u.portA = s.portA
  | .portB => u.portB = s.portB
  | .rg => u.rg = s.rg
  | .am => u.am = s.am
  | .cal => u.cal = s.cal
  | .fol => u.fol = s.fol
  | .sec => u.sec = s.sec
  | .ck => u.ck = s.ck
  | .pw => u.pw = s.pw
  | .cu => u.cu = { s.cu with moved := u.cu.moved, ue := u.cu.ue }
  | .moved => u.cu.moved = s.cu.moved ∧ u.cu.ue = s.cu.ue
  | .pins => u.pins = s.pins
  | .tw => u.tw = s.tw
  | .ga => u.ga = s.ga
  | .archive => ∀ a, inMirror a = false → u.archByte a = s.archByte a
  | .mirror => ∀ a, inMirror a = true → u.archByte a = s.archByte a
  | .free => u.free = s.free
  | .pending => u.pending = s.pending

/-- Every part but those listed is as it was. -/
def keepsBut (l : List Piece) (s u : State) : Prop := ∀ p : Piece, p ∉ l → p.same s u

/-- Every number of the volatile objects but those listed reads as it did. -/
def numsBut (l : List Nat) (s u : State) : Prop := ∀ o, o ∉ l → u.reg o = s.reg o

/-- The log after some occurrences, as codes with their PARAM (R555). -/
def logAfter (s : State) (l : List (Nat × Nat)) : EventLog := (l.foldl (fun (s : State) e => s.event e.1 e.2) s).log

/-- A log but for the VERSIONs that its two byte strings took (R274). -/
def EventLog.told (l : EventLog) : EventLog := { l with logVersion := 0, latestVersion := 0 }

/-- What recording an event may touch: the log with its mirror and the VERSIONs of its two byte strings. -/
def eventPieces (evs : List (Nat × Nat)) : List Piece := if evs.isEmpty then [] else [.log, .mirror, .moved, .version]

/-- The alert causes that recording an event may touch. -/
def eventNums (evs : List (Nat × Nat)) : List Nat := if evs.isEmpty then [] else [Obj.TW_ALERT_PENDING]

/-- What a command of instant `t` leaves alone: it advances the clock to that instant and records the events `evs` in their order; of the rest, nothing
differs but the parts `l` and the numbers `n`. -/
def effects (t : Nat) (evs : List (Nat × Nat)) (l : List Piece) (n : List Nat) (s u : State) : Prop :=
  u.now = Nat.max s.now t ∧ keepsBut (.now :: (eventPieces evs ++ l)) s u ∧ numsBut (eventNums evs ++ n) s u ∧
  (Piece.log ∈ l ∨ u.log.told = (logAfter (s.at t) evs).told)

/-! ## Strip-engine instructions (05) -/

/-- The engine may issue an instruction with these sources: a task runs that neither waits nor ends, and the issue cycle does not pass C_cut
(R134, R136). -/
def State.issues (s : State) (e : Nat) (srcs : List Nat) : Bool :=
  Nat.blt e 128 && (s.engine e).runs &&
    (match (s.engine e).task with
     | some t => Nat.ble ((s.engine e).issueCycle srcs) (cutCycles (t.image.wcet (s.taskKernel t)))
     | none => false)

/-- Nothing but engine `e` has changed: every other engine, every register value, every other part of the tile. -/
def onlyEngine (e : Nat) (s u : State) : Prop :=
  (∀ k, k ≠ e → u.engine k = s.engine k) ∧ keepsBut [.cu] s u ∧
  u.cu = { s.cu with engines := u.cu.engines } ∧ numsBut [] s u

/-- The engine has gone on to the next instruction at the cost of its issue cycle and `extra` more, within loops as R120 says; of its other
fields at most the registers, ESTAT and the readiness of registers differ. -/
def wentOn (srcs : List Nat) (extra : Nat) (g g' : Engine) : Prop :=
  (g'.pc, g'.loops) = loopNext g.pc g.loops ∧ g'.cycles = g.issueCycle srcs + extra ∧
  g' = { g with s := g'.s, v := g'.v, a := g'.a, p := g'.p, estat := g'.estat, ready := g'.ready, cycles := g'.cycles, pc := g'.pc, loops := g'.loops }

/-- The scalar registers: at most s[rd] has a new value, and s0 never has. -/
def scalarsBut (rd : Nat) (w : Word) (g g' : Engine) : Prop :=
  ∀ x, g'.sreg x = if x = rd ∧ rd ≠ 0 then w else g.sreg x

/-- The vector registers: v[rd] alone has a new value. -/
def vectorsBut (rd : Nat) (l : List Half) (g g' : Engine) : Prop := ∀ x, g'.vreg x = if x = rd then l else g.vreg x

/-- The predicates: at most p[rd] has a new value, and p0 never has. -/
def predicatesBut (rd : Nat) (h : Half) (g g' : Engine) : Prop :=
  ∀ x, g'.preg x = if x = rd ∧ rd ≠ 0 then h else g.preg x

/-- A scalar result: the next instruction follows, and nothing but s[rd] has a new value. -/
def scalarResult (srcs : List Nat) (extra rd : Nat) (w : Word) (g g' : Engine) : Prop :=
  wentOn srcs extra g g' ∧ scalarsBut rd w g g' ∧ g'.v = g.v ∧ g'.a = g.a ∧ g'.p = g.p ∧ g'.estat = g.estat

/-- A vector result. -/
def vectorResult (srcs : List Nat) (extra rd : Nat) (l : List Half) (g g' : Engine) : Prop :=
  wentOn srcs extra g g' ∧ vectorsBut rd l g g' ∧ g'.s = g.s ∧ g'.a = g.a ∧ g'.p = g.p ∧ g'.estat = g.estat

/-- A predicate result. -/
def predicateResult (srcs : List Nat) (rd : Nat) (h : Half) (g g' : Engine) : Prop :=
  wentOn srcs 0 g g' ∧ predicatesBut rd h g g' ∧ g'.s = g.s ∧ g'.v = g.v ∧ g'.a = g.a ∧ g'.estat = g.estat

/-- A vector of which the active lanes are new and the others as they were (R112). -/
def lanesUnder (p : Half) (new old : Nat → Half) : List Half :=
  (List.range 16).map (fun i => if p.getLsbD i then new i else old i)

/-- Lane `i` of a vector register. -/
def Engine.lane (g : Engine) (x i : Nat) : Half := (g.vreg x).getD i 0

/-! ## Requests (10) -/

/-- The parts that the answer to a request touches: the port it came by, or the mailbox. -/
def pathPieces (r : Requester) : List Piece :=
  match r.path with
  | .vc0 .a => [.portA]
  | .vc0 .b => [.portB]
  | .i2cb => [.mailbox]

/-- May a request be served as it arrives: alone, on a port in UP of a tile that serves VC0 and not as a broadcast (R269, R271, R552), or by the mailbox
while it is not BUSY (R282)? A mailbox request has neither source nor destination, and its TAG and word are those of the mailbox's fields. -/
def State.hearsRequest (s : State) (r : Requester) : Bool :=
  s.cat.queue.isEmpty && (match r.path with
    | .vc0 p => !r.broadcast && s.servesVc0 && s.isUp p
    | .i2cb => decide (s.cat.mbState ≠ .busy) && Nat.beq r.source 0 && Nat.beq r.dest 0 && Nat.blt r.tag 256 && Nat.blt r.word (2 ^ 32) &&
        (match s.tile.state with | .off | .boot | .rest => false | _ => true))

/-- The state in which a request that is served as it arrives is carried out: the mailbox holds it and is BUSY (R282, R285), and CAT_REQUESTS counts it
(R290). -/
def State.presented (s : State) (r : Requester) (type : Nat) (l : List Byte) : State :=
  let s1 := match r.path with
    | .vc0 _ => s
    | .i2cb =>
      let head := [BitVec.ofNat 8 type, BitVec.ofNat 8 r.tag] ++ leBytes 2 l.length ++ leBytes 4 r.word
      { s with cat := { s.cat with mbBytes := mbWrite s.cat.mbBytes 0x10 (head ++ l.take 232), mbState := .busy } }
  s1.bumpBy 64 Obj.CAT_REQUESTS 1

/-- Does a SET of object `id` to the bytes `l` that arrives at instant `t` pass every test of R267? -/
def State.takesWrite (s : State) (t : Nat) (r : Requester) (id : Nat) (l : List Byte) : Bool :=
  let s1 := (s.at t).presented r 2 (setPayload id l)
  s.hearsRequest r && Nat.ble (8 + ceil4 l.length) r.payloadLimit && Nat.beq r.word 0 && Nat.blt id (2 ^ 24) && !(s1.descriptor true id) &&
    (match s1.reach true false id with
     | .error _ => false
     | .ok row => decide (s1.writeBarred r row id l = none) && !(s1.ownBusy row id l true) && !(s1.transferOpen id (toStaged row)) &&
         decide (s1.valueBarred row id l = none))

/-- What an accepted write of instant `t` leaves alone: as `effects`, but for the answer and its count. -/
def written (t : Nat) (r : Requester) (evs : List (Nat × Nat)) (l : List Piece) (n : List Nat) (s u : State) : Prop :=
  effects t evs (pathPieces r ++ l) (Obj.CAT_REQUESTS :: Obj.TW_ALERT_PENDING :: n) s u ∧ u.reg Obj.CAT_REQUESTS = (s.reg Obj.CAT_REQUESTS + 1) % 2 ^ 64

/-! ## Answers -/

/-- The next state that a command answers, and what holds of it. -/
def answers (c : Instr) (s : State) (q : State → Prop) : Prop := ∃ u, exec c s = .next u ∧ q u

end Sys2Proof.Machine
end

