-- ==== Sys2Proof/WellFormed.lean ====
section
/-! DEFINITION. Which commands are well formed: those that name units, registers and fields the tile has. -/

namespace Sys2Proof

/-- Does every part of a command exist? -/
def Instr.wf (i : Instr) : Bool :=
  match i with
  | .vinQualified _ _ => true
  | .bootVerify _ => true
  | .selftestDone _ _ => true
  | .calloadDone _ _ _ => true
  | .stateTimeout _ => true
  | .coreWatchdogExpiry _ _ => true
  | .lockstepMismatch _ _ => true
  | .coreMemoryError _ _ => true
  | .overtempFault _ _ => true
  | .start _ _ => true
  | .stop _ _ => true
  | .stopComplete _ => true
  | .rest _ _ => true
  | .reset _ _ => true
  | .restEntered _ => true
  | .restDrainTimeout _ => true
  | .wakeElectricalIdleExit _ _ => true
  | .wakePinEdge _ pin _ => decide (pin < 256)
  | .restAddressMatch _ _ addr => decide (addr < 128)
  | .stretchExpired _ _ => true
  | .wakeAlertN _ => true
  | .restTimerExpiry _ => true
  | .wakeComplete _ => true
  | .encoderEdge _ _ => true
  | .ltEncFault _ => true
  | .ltPosRestored _ => true
  | .encZMark _ => true
  | .ltPosMasterWrite _ _ _ => true
  | .positionTokenSend _ => true
  | .positionToken _ _ _ => true
  | .ltPosHoldover _ => true
  | .ltPosLost _ => true
  | .lineTrigger _ => true
  | .heldTriggerFire _ => true
  | .exposureStart _ => true
  | .shortExposureStart _ => true
  | .exposureEnd _ => true
  | .rowCodeReady _ _ _ => true
  | .lineClose _ => true
  | .pxImageTemp _ _ => true
  | .pxImageTempClear _ _ => true
  | .strobeWindowOpen _ x => decide (x < 4)
  | .strobeWindowClose _ x => decide (x < 4)
  | .accessionSwitchReady _ => true
  | .kernelLoadDone _ e => decide (e < 128)
  | .taskStart _ e => decide (e < 128)
  | .hallClockStop _ h => decide (h < 8)
  | .hallClockReady _ h => decide (h < 8)
  | .sysNop e => allBelow [(e, 128)]
  | .sysYield e => allBelow [(e, 128)]
  | .yieldDrainDone _ e => decide (e < 128)
  | .saluAdd e rd ra rb => allBelow [(e, 128), (rd, 32), (ra, 32), (rb, 32)]
  | .saluSub e rd ra rb => allBelow [(e, 128), (rd, 32), (ra, 32), (rb, 32)]
  | .saluAnd e rd ra rb => allBelow [(e, 128), (rd, 32), (ra, 32), (rb, 32)]
  | .saluOr e rd ra rb => allBelow [(e, 128), (rd, 32), (ra, 32), (rb, 32)]
  | .saluXor e rd ra rb => allBelow [(e, 128), (rd, 32), (ra, 32), (rb, 32)]
  | .saluSll e rd ra rb => allBelow [(e, 128), (rd, 32), (ra, 32), (rb, 32)]
  | .saluSrl e rd ra rb => allBelow [(e, 128), (rd, 32), (ra, 32), (rb, 32)]
  | .saluSra e rd ra rb => allBelow [(e, 128), (rd, 32), (ra, 32), (rb, 32)]
  | .saluMul e rd ra rb => allBelow [(e, 128), (rd, 32), (ra, 32), (rb, 32)]
  | .saluMulhs e rd ra rb => allBelow [(e, 128), (rd, 32), (ra, 32), (rb, 32)]
  | .saluMulhu e rd ra rb => allBelow [(e, 128), (rd, 32), (ra, 32), (rb, 32)]
  | .saluSlt e rd ra rb => allBelow [(e, 128), (rd, 32), (ra, 32), (rb, 32)]
  | .saluSltu e rd ra rb => allBelow [(e, 128), (rd, 32), (ra, 32), (rb, 32)]
  | .saluMin e rd ra rb => allBelow [(e, 128), (rd, 32), (ra, 32), (rb, 32)]
  | .saluMax e rd ra rb => allBelow [(e, 128), (rd, 32), (ra, 32), (rb, 32)]
  | .saluMinu e rd ra rb => allBelow [(e, 128), (rd, 32), (ra, 32), (rb, 32)]
  | .saluMaxu e rd ra rb => allBelow [(e, 128), (rd, 32), (ra, 32), (rb, 32)]
  | .addi e rd ra _ => allBelow [(e, 128), (rd, 32), (ra, 32)]
  | .andi e rd ra _ => allBelow [(e, 128), (rd, 32), (ra, 32)]
  | .ori e rd ra _ => allBelow [(e, 128), (rd, 32), (ra, 32)]
  | .xori e rd ra _ => allBelow [(e, 128), (rd, 32), (ra, 32)]
  | .lui e rd _ => allBelow [(e, 128), (rd, 32)]
  | .slti e rd ra _ => allBelow [(e, 128), (rd, 32), (ra, 32)]
  | .shiSll e rd ra k => allBelow [(e, 128), (rd, 32), (ra, 32), (k, 32)]
  | .shiSrl e rd ra k => allBelow [(e, 128), (rd, 32), (ra, 32), (k, 32)]
  | .shiSra e rd ra k => allBelow [(e, 128), (rd, 32), (ra, 32), (k, 32)]
  | .ldw e rd ra _ => allBelow [(e, 128), (rd, 32), (ra, 32)]
  | .stw e rd ra _ => allBelow [(e, 128), (rd, 32), (ra, 32)]
  | .ldh e rd ra _ => allBelow [(e, 128), (rd, 32), (ra, 32)]
  | .sth e rd ra _ => allBelow [(e, 128), (rd, 32), (ra, 32)]
  | .sget e rd sel => allBelow [(e, 128), (rd, 32), (sel, 21)]
  | .jal e rd _ => allBelow [(e, 128), (rd, 32)]
  | .jr e ra => allBelow [(e, 128), (ra, 32)]
  | .beq e rd ra _ => allBelow [(e, 128), (rd, 32), (ra, 32)]
  | .bne e rd ra _ => allBelow [(e, 128), (rd, 32), (ra, 32)]
  | .blt e rd ra _ => allBelow [(e, 128), (rd, 32), (ra, 32)]
  | .bge e rd ra _ => allBelow [(e, 128), (rd, 32), (ra, 32)]
  | .bltu e rd ra _ => allBelow [(e, 128), (rd, 32), (ra, 32)]
  | .bgeu e rd ra _ => allBelow [(e, 128), (rd, 32), (ra, 32)]
  | .bany e p _ => allBelow [(e, 128), (p, 8)]
  | .bnone e p _ => allBelow [(e, 128), (p, 8)]
  | .loop e ra b => allBelow [(e, 128), (ra, 32), (b, 256)] && Nat.ble 1 b
  | .vadd e rd ra rb pg => allBelow [(e, 128), (rd, 32), (ra, 32), (rb, 32), (pg, 8)]
  | .vsub e rd ra rb pg => allBelow [(e, 128), (rd, 32), (ra, 32), (rb, 32), (pg, 8)]
  | .vadds e rd ra rb pg => allBelow [(e, 128), (rd, 32), (ra, 32), (rb, 32), (pg, 8)]
  | .vsubs e rd ra rb pg => allBelow [(e, 128), (rd, 32), (ra, 32), (rb, 32), (pg, 8)]
  | .vaddu e rd ra rb pg => allBelow [(e, 128), (rd, 32), (ra, 32), (rb, 32), (pg, 8)]
  | .vsubu e rd ra rb pg => allBelow [(e, 128), (rd, 32), (ra, 32), (rb, 32), (pg, 8)]
  | .vabsdu e rd ra rb pg => allBelow [(e, 128), (rd, 32), (ra, 32), (rb, 32), (pg, 8)]
  | .vabsds e rd ra rb pg => allBelow [(e, 128), (rd, 32), (ra, 32), (rb, 32), (pg, 8)]
  | .vmin e rd ra rb pg => allBelow [(e, 128), (rd, 32), (ra, 32), (rb, 32), (pg, 8)]
  | .vmax e rd ra rb pg => allBelow [(e, 128), (rd, 32), (ra, 32), (rb, 32), (pg, 8)]
  | .vminu e rd ra rb pg => allBelow [(e, 128), (rd, 32), (ra, 32), (rb, 32), (pg, 8)]
  | .vmaxu e rd ra rb pg => allBelow [(e, 128), (rd, 32), (ra, 32), (rb, 32), (pg, 8)]
  | .vand e rd ra rb pg => allBelow [(e, 128), (rd, 32), (ra, 32), (rb, 32), (pg, 8)]
  | .vor e rd ra rb pg => allBelow [(e, 128), (rd, 32), (ra, 32), (rb, 32), (pg, 8)]
  | .vxor e rd ra rb pg => allBelow [(e, 128), (rd, 32), (ra, 32), (rb, 32), (pg, 8)]
  | .vsel e rd ra rb pg => allBelow [(e, 128), (rd, 32), (ra, 32), (rb, 32), (pg, 8)]
  | .vsll e rd ra rb pg => allBelow [(e, 128), (rd, 32), (ra, 32), (rb, 32), (pg, 8)]
  | .vsrl e rd ra rb pg => allBelow [(e, 128), (rd, 32), (ra, 32), (rb, 32), (pg, 8)]
  | .vsra e rd ra rb pg => allBelow [(e, 128), (rd, 32), (ra, 32), (rb, 32), (pg, 8)]
  | .vsrar e rd ra rb pg => allBelow [(e, 128), (rd, 32), (ra, 32), (rb, 32), (pg, 8)]
  | .vavgu e rd ra rb pg => allBelow [(e, 128), (rd, 32), (ra, 32), (rb, 32), (pg, 8)]
  | .vcmp e rd ra rb pg cmp => allBelow [(e, 128), (rd, 8), (ra, 32), (rb, 32), (pg, 8), (cmp, 6)]
  | .vshiSll e rd ra pg k => allBelow [(e, 128), (rd, 32), (ra, 32), (pg, 8), (k, 16)]
  | .vshiSrl e rd ra pg k => allBelow [(e, 128), (rd, 32), (ra, 32), (pg, 8), (k, 16)]
  | .vshiSra e rd ra pg k => allBelow [(e, 128), (rd, 32), (ra, 32), (pg, 8), (k, 16)]
  | .vshiSrar e rd ra pg k => allBelow [(e, 128), (rd, 32), (ra, 32), (pg, 8), (k, 16)]
  | .vsplat e rd ra pg => allBelow [(e, 128), (rd, 32), (ra, 32), (pg, 8)]
  | .vgetl e rd ra lane _ => allBelow [(e, 128), (rd, 32), (ra, 32), (lane, 16)]
  | .vsetl e rd ra lane => allBelow [(e, 128), (rd, 32), (ra, 32), (lane, 16)]
  | .vslide e rd ra rb pg k => allBelow [(e, 128), (rd, 32), (ra, 32), (rb, 32), (pg, 8), (k, 16)]
  | .vredSum e rd ra pg => allBelow [(e, 128), (rd, 32), (ra, 32), (pg, 8)]
  | .vredSumu e rd ra pg => allBelow [(e, 128), (rd, 32), (ra, 32), (pg, 8)]
  | .vredMin e rd ra pg => allBelow [(e, 128), (rd, 32), (ra, 32), (pg, 8)]
  | .vredMax e rd ra pg => allBelow [(e, 128), (rd, 32), (ra, 32), (pg, 8)]
  | .vredMinu e rd ra pg => allBelow [(e, 128), (rd, 32), (ra, 32), (pg, 8)]
  | .vredMaxu e rd ra pg => allBelow [(e, 128), (rd, 32), (ra, 32), (pg, 8)]
  | .predAnd e rd ra rb => allBelow [(e, 128), (rd, 8), (ra, 8), (rb, 8)]
  | .predOr e rd ra rb => allBelow [(e, 128), (rd, 8), (ra, 8), (rb, 8)]
  | .predXor e rd ra rb => allBelow [(e, 128), (rd, 8), (ra, 8), (rb, 8)]
  | .predAndn e rd ra rb => allBelow [(e, 128), (rd, 8), (ra, 8), (rb, 8)]
  | .predNot e rd ra => allBelow [(e, 128), (rd, 8), (ra, 8)]
  | .predFroms e rd ra => allBelow [(e, 128), (rd, 8), (ra, 32)]
  | .predTos e rd ra => allBelow [(e, 128), (rd, 32), (ra, 8)]
  | .predCnt e rd ra => allBelow [(e, 128), (rd, 32), (ra, 8)]
  | .vmacMac e rd ra rb pg => allBelow [(e, 128), (rd, 4), (ra, 32), (rb, 32), (pg, 8)]
  | .vmacMacu e rd ra rb pg => allBelow [(e, 128), (rd, 4), (ra, 32), (rb, 32), (pg, 8)]
  | .vmacMacsu e rd ra rb pg => allBelow [(e, 128), (rd, 4), (ra, 32), (rb, 32), (pg, 8)]
  | .vmacMsub e rd ra rb pg => allBelow [(e, 128), (rd, 4), (ra, 32), (rb, 32), (pg, 8)]
  | .vmacMul e rd ra rb pg => allBelow [(e, 128), (rd, 4), (ra, 32), (rb, 32), (pg, 8)]
  | .vmacMulu e rd ra rb pg => allBelow [(e, 128), (rd, 4), (ra, 32), (rb, 32), (pg, 8)]
  | .vmacSqd e rd ra rb pg => allBelow [(e, 128), (rd, 4), (ra, 32), (rb, 32), (pg, 8)]
  | .vmacAadd e rd ra rb pg => allBelow [(e, 128), (rd, 4), (ra, 32), (rb, 32), (pg, 8)]
  | .vmacAaddu e rd ra rb pg => allBelow [(e, 128), (rd, 4), (ra, 32), (rb, 32), (pg, 8)]
  | .vmacAclr e rd pg => allBelow [(e, 128), (rd, 4), (pg, 8)]
  | .vmacsSigned e rd ra rb pg => allBelow [(e, 128), (rd, 4), (ra, 32), (rb, 32), (pg, 8)]
  | .vmacsUnsigned e rd ra rb pg => allBelow [(e, 128), (rd, 4), (ra, 32), (rb, 32), (pg, 8)]
  | .vnarrowSigned e rd ra pg k => allBelow [(e, 128), (rd, 32), (ra, 4), (pg, 8), (k, 40)]
  | .vnarrowUnsigned e rd ra pg k => allBelow [(e, 128), (rd, 32), (ra, 4), (pg, 8), (k, 40)]
  | .ared e rd ra pg k => allBelow [(e, 128), (rd, 32), (ra, 4), (pg, 8), (k, 40)]
  | .vlut e rd ra rb pg k => allBelow [(e, 128), (rd, 32), (ra, 32), (rb, 32), (pg, 8), (k, 16)]
  | .vld e rd ra pg _ => allBelow [(e, 128), (rd, 32), (ra, 32), (pg, 8)]
  | .vst e rd ra pg _ => allBelow [(e, 128), (rd, 32), (ra, 32), (pg, 8)]
  | .vldp e rd ra pg => allBelow [(e, 128), (rd, 32), (ra, 32), (pg, 8)]
  | .vstp e rd ra pg => allBelow [(e, 128), (rd, 32), (ra, 32), (pg, 8)]
  | .popLine e rd pg => allBelow [(e, 128), (rd, 32), (pg, 8)]
  | .lineDataArrival _ e _ => decide (e < 128)
  | .popRef e rd pg => allBelow [(e, 128), (rd, 32), (pg, 8)]
  | .push e ra _ => allBelow [(e, 128), (ra, 32)]
  | .pushs e ra _ => allBelow [(e, 128), (ra, 32)]
  | .outSpaceFreed _ e => decide (e < 128)
  | .fetch e rd ra rb tag _ => allBelow [(e, 128), (rd, 32), (ra, 32), (rb, 32), (tag, 8)] && Nat.ble 1 tag
  | .fetchTagComplete _ e tag _ => allBelow [(e, 128), (tag, 8)]
  | .prefetchIssue _ e => decide (e < 128)
  | .fetchTableEntryFreed _ => true
  | .waittag e tag => allBelow [(e, 128), (tag, 8)]
  | .event _ e line ra => allBelow [(e, 128), (line, 64), (ra, 32)]
  | .budgetCut _ e => decide (e < 128)
  | .lineRetire _ => true
  | .lineAgeRetire _ => true
  | .kernelBlobWrite _ _ slot _ => decide (slot < 16)
  | .vaSlotClear _ _ _ => true
  | .slotClearDone _ => true
  | .patrolScrubPass _ _ _ => true
  | .bulkWrite _ _ _ => true
  | .bulkWriteAck _ => true
  | .bulkRead _ _ _ => true
  | .bulkData _ _ _ => true
  | .catFolioSeal _ _ _ => true
  | .folSealed _ => true
  | .catFolioUnseal _ _ _ => true
  | .catFolioCopy _ _ _ => true
  | .accession _ _ _ => true
  | .beacon _ => true
  | .folQuoteNonce _ _ _ => true
  | .quoteSigned _ => true
  | .catFolioSaveResume _ _ _ => true
  | .folResumeSaved _ => true
  | .catFolioClearResume _ _ _ => true
  | .resumeDigestDone _ => true
  | .get _ _ _ => true
  | .set _ _ _ => true
  | .getSeg _ _ _ => true
  | .setSeg _ _ _ => true
  | .list _ _ _ => true
  | .catSegAbandoned _ => true
  | .longOperationDone _ => true
  | .registerWrite _ _ id _ => decide (id < 16777216)
  | .execute _ => true
  | .mailboxDone _ => true
  | .i2cbWriteTransfer _ addr _ => decide (addr < 128)
  | .i2cbReadTransfer _ addr _ => decide (addr < 128)
  | .lnkLockLost _ _ lane _ => decide (lane < 4)
  | .skpSend _ _ => true
  | .lnkElasticError _ _ lane => decide (lane < 4)
  | .lnkDeskewError _ _ => true
  | .recoveryTimeout _ _ => true
  | .retrainIntervalExpiry _ _ => true
  | .ts1 _ _ lane _ => decide (lane < 4)
  | .ts2 _ _ lane _ => decide (lane < 4)
  | .rateChangeDone _ _ => true
  | .tapRequestResend _ _ lane => decide (lane < 4)
  | .trainingStepDone _ _ lane _ _ => decide (lane < 4)
  | .loopEcho _ _ _ _ => true
  | .hopMeasureDone _ _ => true
  | .hopPeriodExpiry _ _ => true
  | .portUp _ _ => true
  | .eyeMeasureDone _ _ lane _ _ => decide (lane < 4)
  | .eyePeriodExpiry _ _ => true
  | .lnkEyeMeasure _ _ _ => true
  | .lnkLaneTest _ _ _ lane _ => decide (lane < 4)
  | .injectionPeriodic _ _ lane => decide (lane < 4)
  | .lnkPrbsResync _ _ lane _ => decide (lane < 4)
  | .lnkRetrainA _ _ _ => true
  | .lnkRetrainB _ _ _ => true
  | .lnkWakeA _ _ _ => true
  | .lnkWakeB _ _ _ => true
  | .wakeIdleEnd _ _ => true
  | .pass _ _ _ => true
  | .passEnd _ _ lane _ => decide (lane < 4)
  | .frameReceive _ _ _ => true
  | .frameAbort _ _ _ => true
  | .creditInit _ _ _ _ => true
  | .creditUpdate _ _ _ _ => true
  | .creditInitResend _ _ => true
  | .creditUpdateSend _ _ => true
  | .routeWaitTimeout _ => true
  | .lnkRingBreak _ _ => true
  | .lnkRingRestored _ => true
  | .offer _ _ _ => true
  | .enumOnwardWaitEnd _ => true
  | .commit _ _ _ => true
  | .time _ _ _ => true
  | .timeTokenSend _ => true
  | .lnkTimeHoldover _ => true
  | .lnkTimeLost _ => true
  | .lnkTimeMasterWrite _ _ _ => true
  | .frameStart _ p vc _ _ => allBelow [(p, 2), (vc, 16)]
  | .frameEnd _ p vc _ _ => allBelow [(p, 2), (vc, 16)]
  | .longPacket _ p vc _ _ _ _ => allBelow [(p, 2), (vc, 16)]
  | .frameTimeout _ c => decide (c < 8)
  | .gaCtxApply _ _ c _ => decide (c < 8)
  | .viewItemDone _ c kind => allBelow [(c, 8), (kind, 7)]
  | .galleryClockStop _ => true
  | .referenceReady _ => true
  | .amRefBuffer _ _ _ => true
  | .amSyncReset _ _ _ => true
  | .amChannelConfigWrite _ _ id _ => (Nat.ble 0x270101 id && Nat.ble id 0x270106) || (Nat.ble 0x270201 id && Nat.ble id 0x270206) || (Nat.ble 0x270301 id && Nat.ble id 0x270310)
  | .channelSettled _ _ => true
  | .amCalStart _ _ _ => true
  | .amCalVerdict _ _ _ => true
  | .bgFactorUpdate _ _ _ => true
  | .amSpurLow _ _ => true
  | .accWindowOpen _ _ => true
  | .accResultLatch _ _ _ _ => true
  | .accPinTrigger _ pin => decide (pin < 256)
  | .amAccCapture _ _ k _ => decide (k < 8)
  | .amMmClear _ _ k _ => decide (k < 4)
  | .gzBlockDone _ _ _ _ => true
  | .bankVioSample _ _ => true
  | .pePinCfg _ _ _ => true
  | .ctlNop e tick => allBelow [(e, 32), (tick, 4)]
  | .ctlTake e tick => allBelow [(e, 32), (tick, 4)]
  | .ctlAdd e tick => allBelow [(e, 32), (tick, 4)]
  | .ctlSub e tick => allBelow [(e, 32), (tick, 4)]
  | .ctlXch e tick => allBelow [(e, 32), (tick, 4)]
  | .ldk e tick dst k => allBelow [(e, 32), (tick, 4), (dst, 3), (k, 4)]
  | .ldi e tick _ v => allBelow [(e, 32), (tick, 4), (v, 512)]
  | .move e tick dst src op _ => allBelow [(e, 32), (tick, 4), (dst, 7), (src, 8), (op, 4)]
  | .pinLevels e tick v => allBelow [(e, 32), (tick, 4), (v, 256)]
  | .pinSet e tick v => allBelow [(e, 32), (tick, 4), (v, 256)]
  | .pinClear e tick v => allBelow [(e, 32), (tick, 4), (v, 256)]
  | .pinDirections e tick v => allBelow [(e, 32), (tick, 4), (v, 256)]
  | .shout e tick dst n => allBelow [(e, 32), (tick, 4), (dst, 4), (n, 33), (0, n)]
  | .shin e tick src n _ => allBelow [(e, 32), (tick, 4), (src, 4), (n, 33), (0, n)]
  | .fill e tick _ _ => allBelow [(e, 32), (tick, 4)]
  | .send e tick _ _ => allBelow [(e, 32), (tick, 4)]
  | .await e tick sense src idx _ => allBelow [(e, 32), (tick, 4)] && awaitExists sense src idx
  | .go e tick cond target _ => allBelow [(e, 32), (tick, 4), (cond, 14), (target, 32)]
  | .pause e tick n => allBelow [(e, 32), (tick, 4), (n, 1024)]
  | .peStallRelease _ e _ => decide (e < 32)
  | .peProgram _ _ e _ => decide (e < 32)
  | .pePatch _ _ e _ => decide (e < 32)
  | .peInject _ _ e _ => decide (e < 32)
  | .peEnable _ _ _ => true
  | .peRestart _ _ _ => true
  | .peTx _ _ e _ => decide (e < 32)
  | .peRx _ _ e => decide (e < 32)
  | .twAXfer _ _ _ => true
  | .twXferDone _ _ _ => true
  | .twArbLost _ _ => true
  | .twBusErr _ _ _ _ => true
  | .twControllerTimeout _ _ _ => true
  | .twBusHang _ => true
  | .twARecover _ _ _ => true
  | .twRecoveryDone _ _ => true
  | .twRsInAck _ _ => true
  | .twTargetTimeout _ _ => true
  | .i2caTargetWrite _ addr _ => decide (addr < 128)
  | .i2caTargetRead _ addr _ => decide (addr < 128)
  | .alertResponse _ _ _ => true
  | .twAlertSet _ _ _ => true
  | .twAlertClear _ _ _ => true
  | .twAWindowOut _ _ _ => true
  | .clkRefFallback _ => true
  | .clkXtalFail _ => true
  | .clkLockLost _ _ => true
  | .relockAttemptFail _ _ => true
  | .clkRelocked _ _ => true
  | .rampInterval _ => true
  | .excursionDone _ => true
  | .caseTempSample _ _ => true
  | .clkRefSel _ _ _ => true
  | .clkBandTable _ _ _ _ => true
  | .clkOutCfg _ _ n _ => decide (n < 4)
  | .clkXVco _ _ _ => true
  | .pwrHandover _ _ => true
  | .cellReached _ => true
  | .pwrVinRestored _ _ => true
  | .bounceHoldEnd _ => true
  | .holdupTimeExpiry _ => true
  | .pwrCellCutoff _ _ => true
  | .shutdownComplete _ => true
  | .powerDemandExcess _ _ => true
  | .supplementPhase _ => true
  | .pwrOverload _ _ => true
  | .holdupEnergyUpdate _ _ => true
  | .prechargeEnd _ => true
  | .chargeVoltageLimit _ => true
  | .pwrChgDone _ => true
  | .rechargeStart _ _ => true
  | .pwrChgTimer _ => true
  | .ntcSample _ _ _ => true
  | .pwrChgRestart _ _ _ => true
  | .pwrShip _ _ _ => true
  | .wakeNHold _ => true
  | .dark _ _ => true
  | .flat _ _ => true
  | .calRunTrigger _ => true
  | .calRunResult _ => true
  | .calCommit _ _ _ => true
  | .calCommitted _ => true
  | .secFwImage _ _ _ => true
  | .secFwActivateTarget _ _ => true
  | .secFwActivateRunning _ _ => true
  | .secSvnCommit _ _ _ => true
  | .secOwnerEnrol _ _ _ => true
  | .secOwnerEnrolled _ => true
  | .secAuthChallenge _ _ => true
  | .secAuthResponse _ _ _ => true
  | .secAuthRevoke _ _ _ => true
  | .authGrantExpiry _ => true
  | .authChallengeExpiry _ => true
  | .authLockoutEnd _ => true
  | .eventHoldoffExpiry _ code => decide (code < 65536)
  | .evtLogClear _ _ _ => true
  | .evtFaultHistoryClear _ _ _ => true
  | .onHoursTick _ => true
  | .runHoursTick _ => true
  | .deskewAcquired _ _ => true
  | .loopSet _ _ _ _ => true
  | .prbsSync _ _ lane => decide (lane < 4)
  | .frameBoundary _ _ => true
  | .i2caBusFree _ => true
  | .stealWaitExpiry _ => true
  | .amClip _ _ => true
  | .amAccOverflow _ k _ _ => decide (k < 8)
  | .shipEndVin _ _ => true

end Sys2Proof
end

