-- ==== Sys2Proof/Certificates/Slice0/Obligations.lean ====
section
/-! DEFINITION. The statements about the tile: what each command does, what it leaves alone, and what holds of every step. -/

namespace Sys2Proof.Claims

open Sys2Proof.Machine

/-- SALU functions (R114). -/
def salu : List ((Nat → Nat → Nat → Nat → Instr) × (Word → Word → Word)) :=
  [(.saluAdd, fun a b => a + b), (.saluSub, fun a b => a - b), (.saluAnd, fun a b => a &&& b), (.saluOr, fun a b => a ||| b),
   (.saluXor, fun a b => a ^^^ b), (.saluSll, fun a b => a <<< (b.toNat % 32)), (.saluSrl, fun a b => a >>> (b.toNat % 32)),
   (.saluSra, fun a b => a.sshiftRight (b.toNat % 32)), (.saluMul, fun a b => BitVec.ofNat 32 (a.toNat * b.toNat)),
   (.saluMulhs, fun a b => BitVec.ofInt 32 (a.toInt * b.toInt / 2 ^ 32)), (.saluMulhu, fun a b => BitVec.ofNat 32 (a.toNat * b.toNat / 2 ^ 32)),
   (.saluSlt, fun a b => if a.slt b then 1 else 0), (.saluSltu, fun a b => if a.ult b then 1 else 0),
   (.saluMin, fun a b => if a.slt b then a else b), (.saluMax, fun a b => if a.slt b then b else a),
   (.saluMinu, fun a b => if a.ult b then a else b), (.saluMaxu, fun a b => if a.ult b then b else a)]

/-- Scalar operations with a 16-bit immediate (R113). -/
def immediates : List ((Nat → Nat → Nat → BitVec 16 → Instr) × (Word → BitVec 16 → Word)) :=
  [(.addi, fun a k => a + k.signExtend 32), (.andi, fun a k => a &&& k.zeroExtend 32), (.ori, fun a k => a ||| k.zeroExtend 32),
   (.xori, fun a k => a ^^^ k.zeroExtend 32), (.slti, fun a k => if a.slt (k.signExtend 32) then 1 else 0)]

/-- Scalar shifts by an immediate (R113). -/
def shifts : List ((Nat → Nat → Nat → Nat → Instr) × (Word → Nat → Word)) :=
  [(.shiSll, fun a k => a <<< k), (.shiSrl, fun a k => a >>> k), (.shiSra, fun a k => a.sshiftRight k)]

/-- Branches on two scalars (R113). -/
def branches : List ((Nat → Nat → Nat → BitVec 16 → Instr) × (Word → Word → Bool)) :=
  [(.beq, fun a b => a == b), (.bne, fun a b => a != b), (.blt, fun a b => a.slt b), (.bge, fun a b => !(a.slt b)),
   (.bltu, fun a b => a.ult b), (.bgeu, fun a b => !(a.ult b))]

/-- A taken branch (R113, R120): one further cycle, and every loop that the target leaves ends; nothing but the program counter, the loops, the cycles
and, for JAL, s[rd] changes. -/
def jumped (srcs : List Nat) (target : Nat) (g g' : Engine) : Prop :=
  g'.pc = target ∧ g'.loops = loopsAt target g.loops ∧ g'.cycles = g.issueCycle srcs + 1 ∧
  g' = { g with s := g'.s, ready := g'.ready, cycles := g'.cycles, pc := g'.pc, loops := g'.loops }

/-- A not taken branch, NOP, and the like: nothing but the program counter, the loops and the cycles changes. -/
def passed (srcs : List Nat) (g g' : Engine) : Prop :=
  wentOn srcs 0 g g' ∧ g'.s = g.s ∧ g'.v = g.v ∧ g'.a = g.a ∧ g'.p = g.p ∧ g'.estat = g.estat

/-- VALU functions (R115), of the lanes of v[ra] and v[rb]. -/
def valu : List ((Nat → Nat → Nat → Nat → Nat → Instr) × (Half → Half → Half)) :=
  [(.vadd, fun a b => a + b), (.vsub, fun a b => a - b),
   (.vadds, fun a b => BitVec.ofInt 16 (max (-32768) (min 32767 (a.toInt + b.toInt)))),
   (.vsubs, fun a b => BitVec.ofInt 16 (max (-32768) (min 32767 (a.toInt - b.toInt)))),
   (.vaddu, fun a b => BitVec.ofNat 16 (min 65535 (a.toNat + b.toNat))), (.vsubu, fun a b => BitVec.ofNat 16 (a.toNat - b.toNat)),
   (.vabsdu, fun a b => if a.ult b then b - a else a - b), (.vabsds, fun a b => if a.slt b then b - a else a - b),
   (.vmin, fun a b => if a.slt b then a else b), (.vmax, fun a b => if a.slt b then b else a),
   (.vminu, fun a b => if a.ult b then a else b), (.vmaxu, fun a b => if a.ult b then b else a),
   (.vand, fun a b => a &&& b), (.vor, fun a b => a ||| b), (.vxor, fun a b => a ^^^ b),
   (.vsll, fun a b => a <<< (b.toNat % 16)), (.vsrl, fun a b => a >>> (b.toNat % 16)), (.vsra, fun a b => a.sshiftRight (b.toNat % 16)),
   (.vsrar, fun a b => BitVec.ofInt 16 (shrHalfEven a.toInt (b.toNat % 16))),
   (.vavgu, fun a b => BitVec.ofNat 16 (divHalfEvenNat (a.toNat + b.toNat) 2))]

/-- Lane shifts by an immediate (R113). -/
def vshifts : List ((Nat → Nat → Nat → Nat → Nat → Instr) × (Half → Nat → Half)) :=
  [(.vshiSll, fun a k => a <<< k), (.vshiSrl, fun a k => a >>> k), (.vshiSra, fun a k => a.sshiftRight k),
   (.vshiSrar, fun a k => BitVec.ofInt 16 (shrHalfEven a.toInt k))]

/-- VCMP's functions by their number (R116). -/
def comparisons : List (Half → Half → Bool) :=
  [fun a b => a == b, fun a b => a != b, fun a b => a.slt b, fun a b => a.sle b, fun a b => a.ult b, fun a b => a.ule b]

/-- The active lanes of a vector, the lowest first. -/
def activeLanes (g : Engine) (pg ra : Nat) : List Half :=
  (List.range 16).filterMap (fun i => if (g.preg pg).getLsbD i then some (g.lane ra i) else none)

/-- VRED's functions (R116): what each gives of the active lanes. -/
def reductions : List ((Nat → Nat → Nat → Nat → Instr) × (List Half → Int)) :=
  [(.vredSum, fun l => (l.map BitVec.toInt).sum), (.vredSumu, fun l => ((l.map BitVec.toNat).sum : Nat)),
   (.vredMin, fun l => (l.map BitVec.toInt).foldr min 32767), (.vredMax, fun l => (l.map BitVec.toInt).foldr max (-32768)),
   (.vredMinu, fun l => ((l.map BitVec.toNat).foldr min 65535 : Nat)), (.vredMaxu, fun l => ((l.map BitVec.toNat).foldr max 0 : Nat))]

/-- PRED's functions of two predicates (R116). -/
def predicates : List ((Nat → Nat → Nat → Nat → Instr) × (Half → Half → Half)) :=
  [(.predAnd, fun a b => a &&& b), (.predOr, fun a b => a ||| b), (.predXor, fun a b => a ^^^ b), (.predAndn, fun a b => a &&& ~~~b)]

/-- VMAC's functions (R117): the new value of an accumulator lane before it is limited, of its old value and the lanes of v[ra] and v[rb]. -/
def vmac : List ((Nat → Nat → Nat → Nat → Nat → Instr) × (Int → Half → Half → Int)) :=
  [(.vmacMac, fun x a b => x + a.toInt * b.toInt), (.vmacMacu, fun x a b => x + (a.toNat : Int) * (b.toNat : Int)),
   (.vmacMacsu, fun x a b => x + a.toInt * (b.toNat : Int)), (.vmacMsub, fun x a b => x - a.toInt * b.toInt),
   (.vmacMul, fun _ a b => a.toInt * b.toInt), (.vmacMulu, fun _ a b => (a.toNat : Int) * (b.toNat : Int)),
   (.vmacSqd, fun x a b => x + (a.toInt - b.toInt) ^ 2), (.vmacAadd, fun x a _ => x + a.toInt), (.vmacAaddu, fun x a _ => x + (a.toNat : Int))]

/-- An accumulator value limited to 40 signed bits. -/
def acc40 (x : Int) : Int := max (-2 ^ 39) (min (2 ^ 39 - 1) x)

/-- An accumulator result (R112, R117): the active lanes of a[rd] have the limited values, and ACC_SAT is set where one of them lies at a limit. -/
def accResult (srcs : List Nat) (rd pg : Nat) (raw : Nat → Int) (g g' : Engine) : Prop :=
  wentOn srcs 0 g g' ∧
  (∀ x, g'.areg x = if x = rd then
    (List.range 16).map (fun i => if (g.preg pg).getLsbD i then acc40 (raw i) else (g.areg rd).getD i 0) else g.areg x) ∧
  g'.estat = (if (List.range 16).any (fun i => (g.preg pg).getLsbD i && (acc40 (raw i) == 2 ^ 39 - 1 || acc40 (raw i) == -2 ^ 39))
    then withBit g.estat 0 true else g.estat) ∧
  g'.s = g.s ∧ g'.v = g.v ∧ g'.p = g.p

/-- The next instruction has been taken up at the cost of the issue cycle (R112, R120). -/
def advanced (srcs : List Nat) (g g' : Engine) : Prop :=
  (g'.pc, g'.loops) = loopNext g.pc g.loops ∧ g'.cycles = g.issueCycle srcs

/-- A byte of the stored part of LDM. -/
def ldmAt (g : Engine) (b : Nat) : Byte := memRead (fun _ => 0) g.ldm b

/-- Stores of a scalar: the instruction, its sources and the bytes it stores. -/
def scalarStores : List ((Nat → Nat → Nat → BitVec 16 → Instr) × Nat) := [(.stw, 4), (.sth, 2)]

/-- Loads of a scalar. -/
def scalarLoads : List ((Nat → Nat → Nat → BitVec 16 → Instr) × Nat) := [(.ldw, 4), (.ldh, 2)]

/-- The vector accesses: with an 8-bit offset, or with s[ra] advanced by 32. -/
def vectorOffset (off : Option (BitVec 8)) : Int := match off with | some o => 32 * o.toInt | none => 0

/-- A task that was started on an engine (R108): its registers, loops, cycles and ports are empty, its program counter at the entry of its image. -/
def startedTask (t : Task) (params : List Byte) (entry now : Nat) (g' : Engine) : Prop :=
  g'.task = some t ∧ g'.pc = entry ∧ g'.loops = [] ∧ g'.cycles = 0 ∧ g'.param = params ∧ g'.popped = 0 ∧ g'.arrived = 0 ∧ g'.out = [] ∧
  g'.outBytes = 0 ∧ g'.held = none ∧ g'.ending = none ∧ g'.ranFrom = now ∧
  (∀ x, g'.sreg x = 0 ∧ g'.vreg x = List.replicate 16 0 ∧ g'.areg x = List.replicate 16 0 ∧ (x ≠ 0 → g'.preg x = 0))

/-- The engine as it was but for a task that has been cut (R136, R137): its OUT bytes are gone and it waits for its tags. -/
def cutWith (cause : Nat) (g g' : Engine) : Prop :=
  g' = { g with held := none, out := [], outCrops := [], outRequests := [], ending := some (.cut cause) }

/-- Instructions that reach LDM, as the row and as what waits in the engine. -/
def ldmAccesses (e rd ra rb pg k : Nat) (imm : BitVec 16) (off : BitVec 8) : List (Instr × Nat × Bool × (Engine → List Nat) × List Nat) :=
  let at_ := fun (g : Engine) => [ldmAddr (g.sreg ra) imm.toInt]
  let vec := fun (o : Int) (g : Engine) => vecAddrs (ldmAddr (g.sreg ra) o)
  let lut := fun (g : Engine) => (List.range 16).filterMap (fun i =>
    if (g.preg pg).getLsbD i then some (((g.sreg ra).toNat + 2 * ((g.lane rb i).toNat / 2 ^ k)) % 65536) else none)
  [(.ldw e rd ra imm, 4, false, at_, [rS ra]), (.ldh e rd ra imm, 2, false, at_, [rS ra]),
   (.stw e rd ra imm, 4, true, at_, [rS ra, rS rd]), (.sth e rd ra imm, 2, true, at_, [rS ra, rS rd]),
   (.vld e rd ra pg off, 2, false, vec (32 * off.toInt), [rS ra, rP pg]), (.vldp e rd ra pg, 2, false, vec 0, [rS ra, rP pg]),
   (.vst e rd ra pg off, 2, true, vec (32 * off.toInt), [rS ra, rV rd, rP pg]), (.vstp e rd ra pg, 2, true, vec 0, [rS ra, rV rd, rP pg]),
   (.vlut e rd ra rb pg k, 2, false, lut, [rS ra, rV rb, rP pg])]

/-- A task fault (R137): the task is cut and listed, counted, and recorded with the fault's cause and the program counter. -/
def faulted (e cause : Nat) (t : Task) (s u : State) : Prop :=
  effects s.now [(0x2311, taskParam (s.taskKernel t) e (cause * 2 ^ 15 + (s.engine e).pc))] [.cu] [Obj.SE_TASK_FAULTS, Obj.ST_CUT t.strip] s u ∧
  cutWith 4 (s.engine e) (u.engine e) ∧ (∀ k, k ≠ e → u.engine k = s.engine k) ∧
  u.reg Obj.SE_TASK_FAULTS = (s.reg Obj.SE_TASK_FAULTS + 1) % 2 ^ 32 ∧ u.reg (Obj.ST_CUT t.strip) = (s.reg (Obj.ST_CUT t.strip) + 1) % 2 ^ 32

/-- What recording an event or none leaves open where a claim does not say which. -/
def maybeEvent : List Piece := [.log, .mirror, .moved, .version]

/-- A frame that arrives at port `p` with no byte marked passes every test of R343 and is for this tile, not a DUAL repeat. -/
def arrives (s : State) (p : Port) (x : RxFrame) : Bool :=
  let f := Frame.read x.bytes
  s.hears p && x.marked.isEmpty && decide (s.headerFault p x f = none) && (s.routeOf f).1 && decide (bodyFault x f = none) && !f.dual

/-- What a frame that arrives may touch besides its effect: the port's units, the count of received frames, the frame passed on by the other port. -/
def arrival : List Piece := [.bytes, .version, .portA, .portB]

/-- A frame is among those a port has yet to send. -/
def toSend (s : State) (p : Port) (f : Frame) : Prop := ∃ q, q ∈ (s.port p).unsent ∧ q.frame = f

/-- The numbers that follow the power path and the charger (R508). -/
def powerNums : List Nat :=
  [Obj.PWR_STATUS, Obj.PWR_PATH_STATE, Obj.PWR_CHG_STATE, Obj.PWR_CHG_ELAPSED, Obj.PWR_CELL_CHARGE, Obj.PWR_CELL_ZONE, Obj.PWR_SHIP, Obj.PWR_CHG_CYCLES]

/-- The status words of the monitor's channels (R420). -/
def channelNums : List Nat := [Obj.AM_CH_STATUS 0, Obj.AM_CH_STATUS 1]

/-- The status words that follow the rest of the state. -/
def tiedNums : List Nat := [Obj.LT_STATUS, Obj.FOL_STATUS, Obj.CU_WINDOW_FILL, Obj.CU_STATUS]

/-- BOOT entered at this instant from a state of code `before` for a reason (R265, R534, R547, R554, R556, R557): every volatile part is as in State.reset, and the
log holds its first two entries, with LOCAL times of 0. -/
def booted (before reason now : Nat) (u : State) : Prop :=
  u.tile.state = .boot ∧ u.tile.since = now ∧ u.tile.bootAt = now ∧ u.tile.phase = .none ∧ u.tile.server = .firmware ∧ u.tile.stopping = [] ∧
  keepsBut [.now, .tile, .bytes, .version, .log, .cal, .fol, .sec, .pw, .cu, .moved, .pins, .archive, .mirror, .free, .pending] State.reset u ∧
  numsBut (Obj.EVT_BOOT_REASON :: Obj.TW_ALERT_PENDING :: Obj.PWR_VIN :: Obj.SEC_OWNER_SLOTS :: Obj.SEC_SVN_FUSE :: Obj.ID_CONFIG :: Obj.SEC_STATUS :: powerNums)
    State.reset u ∧
  u.reg Obj.EVT_BOOT_REASON = reason ∧ u.cu.lines = [] ∧ u.cu.waiting = [] ∧ u.cu.engines = [] ∧ u.pins.engines = [] ∧ u.fol.hasActive = false ∧
  u.log.next = 2 ∧ u.log.held = [] ∧ u.log.live = true ∧ u.log.mirror = false ∧
  u.log.slot 0 = ⟨BitVec.ofNat 64 (2 ^ 63), 0x1702, 1, BitVec.ofNat 32 (reason * 2 ^ 24 + 0xFFFFFF)⟩ ∧
  u.log.slot 1 = ⟨BitVec.ofNat 64 (2 ^ 63), 0x1703, 1, BitVec.ofNat 32 (16 * before + 1)⟩

/-- What neither BOOT nor a loss of power touches where no write was in hand (R265, R511, R539, R559): the MRAM and its records, the resume Folio, the fuses. -/
def fixed (s u : State) : Prop :=
  u.cal.stored = s.cal.stored ∧ u.cal.pages = s.cal.pages ∧ u.cal.ringWord = s.cal.ringWord ∧ u.cal.recordPages = s.cal.recordPages ∧
  u.cal.recordHeads = s.cal.recordHeads ∧ u.fol.stored = s.fol.stored ∧ u.sec.fuse = s.sec.fuse ∧ u.sec.owner0 = s.sec.owner0 ∧
  u.sec.owner1 = s.sec.owner1 ∧ u.sec.preferred = s.sec.preferred ∧ u.pins.pads = s.pins.pads

/-- No write that a loss of power would tear is in hand. -/
def nothingTorn (s : State) : Bool := s.cal.commit.isNone && s.fol.saving.isNone && s.sec.blowing.isNone

/-- FAULT entered for a cause with its detail (R550, R552, R553, R556, R561, R562): work in hand ends, the cause is shown, alerted and recorded, the hour and fault
counts advance, a record is added, and the named code serves. -/
def intoFault (cause detail : Nat) (before : TileState) (now : Nat) (s u : State) : Prop :=
  u.tile.state = .fault ∧ u.tile.since = now ∧ u.tile.faultAt = now ∧ u.tile.server = faultServer cause before ∧ u.tile.phase = .none ∧
  u.tile.stopping = [] ∧ u.reg Obj.EVT_FAULT_CAUSE = cause ∧ u.reg Obj.EVT_FAULT_DETAIL = detail % 2 ^ 32 ∧ u.flag Obj.TW_ALERT_PENDING 1 = true ∧
  u.la.flights = [] ∧ u.lt.held = none ∧ u.cu.lines = [] ∧ u.cu.waiting = [] ∧ u.cu.crops = [] ∧ u.cu.reads = [] ∧ u.fol.waiting = none ∧
  u.cal.run = none ∧ u.reg Obj.FOL_ACC_PENDING_POS = 0 ∧ u.reg Obj.CU_WINDOW_FILL = 0 ∧
  (∀ e, e < 32 → (u.pinEngine e).stall = none ∨ bit (s.reg Obj.PE_ENABLE) e = false) ∧
  (u.tile.server = .bootRom → u.cat.queue = [] ∧ u.cat.transfers = [] ∧ u.cat.long = none ∧ u.cal.commit = none ∧ u.fol.saving = none ∧ u.log.mirror = false ∧
    u.cat.mbState ≠ .busy ∧ u.flag Obj.EVT_STATUS 2 = true ∧ u.flag Obj.EVT_STATUS 1 = false) ∧
  (u.tile.server ≠ .bootRom → u.cat.queue = s.cat.queue ∧ u.cat.long = s.cat.long ∧ u.log.mirror = s.log.mirror) ∧
  (∃ r : FaultRecord, u.recs.history = (r :: s.recs.history).take 8 ∧ r.cause = cause ∧ r.state = before.code ∧
    r.detail = BitVec.ofNat 32 (detail % 2 ^ 32)) ∧
  u.lifeVal 1 = BitVec.ofNat 32 (satNat 32 ((s.lifeVal 1).toNat + 1)) ∧
  u.cat.active = s.cat.active ∧ u.cat.staged = s.cat.staged ∧ u.cat.work = s.cat.work ∧ u.cat.used = s.cat.used ∧ u.fol.hasActive = s.fol.hasActive ∧ u.ck = s.ck ∧ u.pw = s.pw

/-- Can an answer be given at once: by the mailbox, or by a port in UP that carries VC0? -/
def canAnswer (s : State) (r : Requester) : Bool :=
  match r.path with
  | .vc0 p => !r.broadcast && s.isUp p && !s.silent
  | .i2cb => true

/-- A state in which FAULT is entered: outside OFF, FAULT and REST, and with no REST entry in hand. -/
def canFault (s : State) : Bool :=
  (match s.tile.state with | .off | .fault | .rest => false | _ => true) && decide (s.tile.phase = .none)

/-- A wake source of a code as a tile in REST takes it (R22, R481, R482). -/
def wakes (code t : Nat) (l : List Piece) (n : List Nat) (s u : State) : Prop :=
  effects t [(0x1308, code)] (.tile :: l) (Obj.CLK_WAKE_SOURCE :: n) s u ∧ u.reg Obj.CLK_WAKE_SOURCE = code ∧
  u.tile = { s.tile with phase := .waking, phaseAt := Nat.max s.now t }

/-- A wake source of a code as a tile that is entering REST takes it (R480): the entry is abandoned. -/
def abandons (code t : Nat) (l : List Piece) (n : List Nat) (s u : State) : Prop :=
  effects t [(0x1308, code), (0x1309, 0)] (.tile :: .tw :: l) (Obj.CLK_WAKE_SOURCE :: Obj.CLK_REST_ABANDONED :: n) s u ∧
  u.reg Obj.CLK_WAKE_SOURCE = code ∧ u.reg Obj.CLK_REST_ABANDONED = (s.reg Obj.CLK_REST_ABANDONED + 1) % 2 ^ 32 ∧ u.tile = { s.tile with phase := .none }

/-- A port that sleeps in neither way. -/
def linkAwake (s : State) : Prop := ∀ p, (s.port p).state ≠ .pass ∧ (s.port p).state ≠ .idleEnd

/-- A number advanced by 1 in `w` bits. -/
def counts (w o : Nat) (s u : State) : Prop := u.reg o = (s.reg o + 1) % 2 ^ w

/-- A request that was served and refused with status `st` after its events: nothing but the answer, its counts and what it recorded (R267, R290). -/
def refusedWith (t : Nat) (r : Requester) (id : Nat) (st : Status) (evs : List (Nat × Nat)) (s u : State) : Prop :=
  written t r evs [] [Obj.CAT_ERRORS, Obj.CAT_LAST_ERROR] s u ∧ counts 32 Obj.CAT_ERRORS s u ∧ u.reg Obj.CAT_LAST_ERROR = (256 * id + st.code) % 2 ^ 64

/-- The ACCESSION that a payload of 40 bytes announces (R242). -/
def announced (l : List Byte) : PendingAcc := ⟨BitVec.ofNat 32 (leAt l 0 4), leAt l 4 4, leAt l 8 8, (l.drop 0x10).take 16⟩

/-- The payload of an ACCESSION with FLAGS `k` that meets R242. -/
def wellAnnounced (l : List Byte) (k : Nat) : Prop := l.length = 40 ∧ leAt l 0x20 4 = k ∧ k < 2 ∧ leAt l 8 8 < 2 ^ 48 ∧ leAt l 0x24 4 = 0

/-- What an Accession taken exchanges (R246): the Folios and their slots, the digests, the number shown. -/
def exchanged (s u : State) : Prop :=
  u.cat.active = s.cat.staged ∧ u.cat.staged = s.cat.active ∧ u.cu.slotB = !s.cu.slotB ∧ u.cu.era = s.cu.era + 1 ∧
  u.cat.vol.all Obj.FOL_ACTIVE_DIGEST = s.cat.vol.all Obj.FOL_STAGED_DIGEST ∧ u.cat.vol.all Obj.FOL_STAGED_DIGEST = s.cat.vol.all Obj.FOL_ACTIVE_DIGEST ∧
  u.reg Obj.FOL_ACTIVE_NUMBER = s.cat.staged.num Obj.FOL_NUMBER ∧ u.fol.hasActive = true ∧ u.fol.waiting = none ∧
  u.fol.staging = (if s.fol.hasActive then (if s.fol.computing then .sealing else .sealed) else .opened)

/-- The parts and numbers that a switch may touch. -/
def switchPieces : List Piece := [.fol, .active, .staged, .bytes, .version, .cu, .la, .recs, .am]
def switchNums : List Nat :=
  [Obj.FOL_STATUS, Obj.FOL_ACC_PENDING_POS, Obj.FOL_ACC_DONE, Obj.FOL_ACTIVE_NUMBER, Obj.CU_STATUS, Obj.LT_STATUS, Obj.FOL_ACC_LAST_ID]

/-- A request is answered with a RESPONSE of this payload (R269, R273, R282, R285): on VC0 by a frame to its source with its TAG and word, in the mailbox by DONE with
the payload from byte 0x18 on. -/
def answered (r : Requester) (payload : List Byte) (s u : State) : Prop :=
  match r.path with
  | .vc0 p => toSend u p { s.newFrame r.source 0 0x06 payload with tag := r.tag, offset := r.word }
  | .i2cb => u.cat.mbState = .done ∧ u.cat.mbSeq = s.cat.mbSeq + 1 ∧
      (∀ k, k < payload.length → k < 232 → u.mbByte (0x18 + k) = payload.getD k 0)

/-- The payload of a GET-SEG of `n` bytes (R276). -/
def getSegPayload (id n : Nat) : List Byte := leBytes 2 (id / 256) ++ leBytes 1 (id % 256) ++ [0] ++ leBytes 4 0 ++ leBytes 4 n ++ leBytes 4 0

/-- The payload of a LIST from `id` on of at most `n` entries (R280). -/
def listPayload (id n : Nat) : List Byte := leBytes 2 (id / 256) ++ leBytes 1 (id % 256) ++ [0] ++ leBytes 2 n ++ leBytes 2 0

/-- The part of the state that a write of an object with this access class goes to (R264). -/
def bankPieces (row : ObjRow) : List Piece :=
  (match row.access with | .rwf => [.staged] | .rwc => [.work] | _ => []) ++
    (if row.ty.size = 0 then [.version] ++ (match row.access with | .rwf | .rwc => [] | _ => [.bytes]) else [])

/-- A frame can leave by a port: the tile is not silent and the port is in UP. -/
def canSend (s : State) (p : Port) : Bool := s.isUp p && !s.silent

/-- The part of the state that a port is. -/
def portPiece (p : Port) : Piece := match p with | .a => .portA | .b => .portB

/-- The parts and the number that a port's change of state touches. -/
def lanePieces (p : Port) : List Piece := [portPiece p, .bytes, .version]

/-- A U32 entry of a counter BLOB advanced by 1. -/
def entryCounts (o k : Nat) (s u : State) : Prop :=
  4 * k + 4 ≤ (s.cat.vol.blob o).len → u.cat.vol.le o (4 * k) 4 = (s.cat.vol.le o (4 * k) 4 + 1) % 2 ^ 32

/-- A U64 entry of a counter BLOB advanced by 1. -/
def entryCounts64 (o k : Nat) (s u : State) : Prop :=
  8 * k + 8 ≤ (s.cat.vol.blob o).len → u.cat.vol.le o (8 * k) 8 = (s.cat.vol.le o (8 * k) 8 + 1) % 2 ^ 64

/-- A port is in a state since an instant, and its state object says so (R305). -/
def inState (p : Port) (st : PortState) (now : Nat) (u : State) : Prop :=
  (u.port p).state = st ∧ (u.port p).since = now ∧ u.reg (portStateObj p) = st.code

/-- RECOVERY entered (R305): its count, and the hop exchange ended. -/
def recovers (p : Port) (now : Nat) (s u : State) : Prop :=
  inState p .recovery now u ∧ (u.port p).rate = (s.port p).rate ∧ (u.port p).hop = none ∧ (u.port p).queue = (s.port p).queue ∧
  entryCounts Obj.LNK_RECOVERIES p.code s u

/-- DETECT entered with a ceiling of rates (R307): no training set heard yet, every lane at P4. -/
def detects (p : Port) (ceiling now : Nat) (u : State) : Prop :=
  inState p .detect now u ∧ (u.port p).ceiling = ceiling ∧ (u.port p).lanes = [{}, {}, {}, {}] ∧ (u.port p).hop = none

/-- The bytes of a training set on the wire spell it. -/
def spells (l : List Byte) (x : TrainSet) : Prop := readSet l = some x

/-- A frame with no byte marked passes the header's and the body's tests of R343. -/
def sound (s : State) (p : Port) (x : RxFrame) : Bool :=
  let f := Frame.read x.bytes
  s.hears p && x.marked.isEmpty && decide (s.headerFault p x f = none) && decide (bodyFault x f = none)

/-- A credit set of a kind with its counts, received whole (R341). -/
def creditHeard (l : List Byte) (kind : Nat) : Prop :=
  l.length = 12 ∧ leAt l 10 2 = crc16 (l.take 10) ∧ leAt l 0 1 = kind ∧ kind < 4

/-- The counts of a credit set. -/
def creditCounts (l : List Byte) : List Nat := [leAt l 2 2, leAt l 4 2, leAt l 6 2, leAt l 8 2]

/-- What the Gallery's work may touch: its contexts, the view buffers in the Archive, the item directory. -/
def viewPieces : List Piece := [.ga, .archive, .moved, .bytes, .version]

/-- The numbers that follow a context's frames and the items. -/
def viewNums (c : Nat) : List Nat := [Obj.GA_CTX_STATUS c, Obj.GA_STATUS, Obj.GA_VIEW_NEXT_ID, Obj.GA_VIEW_OLDEST_ID]

/-- No context but `c` has a frame, and `c` has those listed and no set pending. -/
def onlyFrames (s : State) (c : Nat) (l : List GaFrame) : Prop :=
  (s.gaCtx c).frames = l ∧ (s.gaCtx c).pending = none ∧ (∀ k, k ≠ c → (s.gaCtx k).frames = [])

/-- A monitor channel has been reset at an instant (R403): no settled output, and its detector begins again. -/
def chanRestarts (c : Chan) (now : Nat) (s u : State) : Prop :=
  (u.am.chan c).resetAt = now ∧ (u.am.chan c).resets = (s.am.chan c).resets + 1 ∧ (u.am.chan c).settledAt = none ∧ (u.am.gz c).block = 0 ∧
  u.flag (Obj.AM_CH_STATUS c.code) 2 = false

/-- The object of a converter's slice factors. -/
def factorsOf (c : Chan) : Nat := match c with | .a => Obj.AM_SLICE_FACTORS_A | .b => Obj.AM_SLICE_FACTORS_B

/-- The window that a pin or the host opens on accumulator `k` (R409, R411). -/
def triggered (k gate : Nat) (s u : State) (now : Nat) : Prop :=
  ∃ w : Window, (u.am.acc k).windows = (s.am.acc k).windows ++ [w] ∧ w.openAt = now ∧ w.closeAt = some (now + s.reg (Obj.AM_ACC_WIDTH k)) ∧
    w.gate = gate ∧ w.line = s.lastLineNo ∧ w.sum = 0 ∧ w.samples = 0

/-- Pin engine `e` may issue an instruction (R424, R429, R441): it runs, and neither stalls nor holds an injection. -/
def pinReady (s : State) (e : Nat) : Bool := s.pinRuns e && (s.pinEngine e).stall.isNone && (s.pinEngine e).injecting.isNone

/-- The engine once the tick field has acted on its tick pin (R430). -/
def ticked (s : State) (e tick : Nat) : PinEngine := s.applyTick e tick (s.pinEngine e)

/-- An instruction of engine `e` at this instant leaves the engine as `g`, and nothing else different but the levels seen at the pads. -/
def pinLeaves (e : Nat) (g : PinEngine) (pads : Store Bool) (s u : State) : Prop :=
  effects s.now [] [.pins] [] s u ∧ u.pins.banks = s.pins.banks ∧ u.pins.pads = pads ∧ (∀ k, k ≠ e → u.pinEngine k = s.pinEngine k) ∧ u.pinEngine e = g

/-- It completes: the next word follows. -/
def pinCompletes (e tick : Nat) (f : PinEngine → PinEngine) (s u : State) : Prop :=
  pinLeaves e { f (ticked s e tick) with pc := (s.pinEngine e).follow, stall := none } s.pins.pads s u

/-- It stalls: the program counter stays. -/
def pinStalls (e tick : Nat) (op : PinOp) (s u : State) : Prop :=
  pinLeaves e { ticked s e tick with stall := some (s.newStall op tick) } s.pins.pads s u

/-- The sources of MOVE (R430). -/
def moveSource (s : State) (e : Nat) (g : PinEngine) (src : Nat) : Word :=
  match src with
  | 0 => g.ag
  | 1 => g.ct
  | 2 => g.so
  | 3 => g.si
  | 4 => BitVec.ofNat 32 (s.readField e (s.fieldWidth e))
  | 5 => s.pos32
  | 6 => g.status
  | _ => 0

/-- The operations of MOVE (R430). -/
def moved (op : Nat) (w : Word) : Word :=
  match op with
  | 0 => w
  | 1 => ~~~w
  | 2 => BitVec.ofNat 32 ((List.range 32).foldl (fun a i => a + (if w.getLsbD i then 2 ^ (31 - i) else 0)) 0)
  | _ => BitVec.ofNat 32 (w.toNat % 65536 * 65536 + w.toNat / 65536)

/-- The levels the engine's field pins show with the bits of `v`. -/
def fieldPads (s : State) (e v : Nat) : Store Bool := (s.seeField e v).pins.pads

/-- A transfer's fields are in range and its bytes complete (R450). -/
def goodXfer (l : List Byte) : Prop :=
  8 ≤ l.length ∧ l.length = 8 + leAt l 2 1 ∧ leAt l 0 1 ≤ 0x77 ∧ leAt l 1 1 = 0 ∧ leAt l 2 1 ≤ 64 ∧ leAt l 3 1 ≤ 64 ∧ leAt l 4 1 ≤ 15 ∧ leAt l 5 3 = 0

/-- The status of I2CA. -/
def statusA : Nat := Obj.TW_STATUS 0

/-- A transfer has ended with a result (R452). -/
def xferEnds (status byteIndex attempts : Nat) (data : List Byte) (u : State) : Prop :=
  u.tw.xfer = none ∧ u.flag statusA 1 = false ∧
  u.cat.vol.all Obj.TW_RESULT = leBytes 1 status ++ leBytes 1 byteIndex ++ leBytes 1 attempts ++ leBytes 1 data.length ++ zeros 4 ++ data

/-- A PLL has lost lock (R471): it is out of lock since this instant, its LOST bit shows, and its losses advance. -/
def unlocked (p : Pll) (now : Nat) (s u : State) : Prop :=
  u.ck.lost = storeInsert p.code ⟨now, 0⟩ s.ck.lost ∧ u.flag Obj.CLK_STATUS (lostBit p) = true ∧ entryCounts Obj.CLK_LOCK_LOSSES p.code s u

/-- A PLL that runs is locked (R469, R471). -/
def holdsLock (s : State) (p : Pll) : Prop := s.pllOn p = true ∧ s.pllLost p = none

/-- The set frequency one step nearer to a target (R475). -/
def stepTo (f g : Nat) : Nat := if f < g then Nat.min g (f + 244) else Nat.max g (f - 244)

/-- No line is in exposure or readout, or held. -/
def noLines (s : State) : Prop := s.la.flights = [] ∧ s.lt.held = none ∧ s.cal.run = none

/-- A ramp interval is due and PLL-C may step (R475). -/
def mayRamp (s : State) (t : Nat) : Prop :=
  holdsLock s .c ∧ s.ck.excursion = none ∧ s.ck.rampAt + 1000 * s.reg Obj.CLK_RAMP_INTERVAL ≤ Nat.max s.now t

/-- The power path with its safety timer counted up to instant `t` (R500). -/
def counted (s : State) (t : Nat) : Power :=
  { s.pw with timer := s.pw.timer + (Nat.max s.now t - s.pw.timerAt) * s.timerRate, timerAt := Nat.max s.now t }

/-- The power path is `x` but for the charge cycle, which may start (R497). -/
def pathIs (x : Power) (u : State) : Prop := u.pw = { x with phase := u.pw.phase, timer := u.pw.timer, timerAt := u.pw.timerAt }

/-- The objects show the power path and the charger (R508). -/
def shownPower (u : State) : Prop :=
  u.reg Obj.PWR_PATH_STATE = u.pw.path.code ∧ u.reg Obj.PWR_CHG_STATE = u.chgState.code ∧ u.flag Obj.PWR_STATUS 1 = u.pw.known ∧
  u.flag Obj.PWR_STATUS 7 = u.pw.bounceUntil.isSome ∧ u.flag Obj.PWR_STATUS 8 = decide (u.pw.phase = .timerFault) ∧
  u.flag Obj.PWR_STATUS 9 = u.pw.ntcFault ∧ u.flag Obj.PWR_STATUS 10 = u.pw.thermal ∧ u.flag Obj.PWR_STATUS 11 = u.pw.shipArmed ∧
  u.flag Obj.PWR_STATUS 12 = u.pw.vinOver ∧ u.flag Obj.PWR_STATUS 0 = (u.pw.connected && !u.pw.noCell && !u.pw.ntcFault)

/-- A command of the power path: nothing differs but it, the objects that follow it, and the numbers `n`. -/
def powerOnly (t : Nat) (evs : List (Nat × Nat)) (n : List Nat) (s u : State) : Prop := effects t evs [.pw] (n ++ powerNums) s u ∧ shownPower u

/-- OFF entered (R487, R494): of the tile's state nothing is left but the MRAM, the fuses, the pads and the power path. -/
def poweredOff (t : Nat) (s u : State) : Prop :=
  u.now = Nat.max s.now t ∧ u.tile = { since := Nat.max s.now t } ∧ keepsBut [.now, .tile, .cal, .fol, .sec, .pw, .pins, .free, .pending] State.reset u ∧
  numsBut powerNums State.reset u ∧ fixed s u ∧ u.free = s.free ∧ u.pw.path = .input ∧ u.pw.phase = .disabled ∧ u.pw.known = false ∧
  u.pw.shipArmed = false ∧ u.pw.bounceUntil = none ∧ u.pw.vinOver = false ∧ u.pw.handovers = [] ∧ u.pw.lowNs = 0 ∧ u.pw.supplement = none

/-- The power that the input gives (R488, R489). -/
def available (s : State) (d : PowerDemand) : Nat := if d.vin < s.wrk Obj.PWR_VIN_REG then d.reg else s.inputLimit * d.vin / 1000

/-- The hold-up time counted up to now in this stay in CELL (R494). -/
def lowTime (s : State) (t : Nat) : Nat := s.pw.lowNs + (if s.pw.vin < 18000 then Nat.max s.now t - s.pw.vinAt else 0)

/-- A charge cycle has started (R497, R500). -/
def cycles (x : Power) (t : Nat) (s u : State) : Prop :=
  u.pw = { x with phase := if x.cellMv < 2500 then .precharge else .cc, timer := 0, timerAt := Nat.max s.now t } ∧ counts 32 Obj.PWR_CHG_CYCLES s u

/-- The status of a firmware image written whole (R533, R535). -/
def fwStatus (l : List Byte) (fuse : Nat) : Status :=
  if l.length < 12 ∨ leAt l 8 4 ≠ l.length then .length
  else match fwCause l fuse with
    | none => .ok
    | some 3 => .auth
    | some _ => .range

/-- A response to the challenge is accepted (R541): in time, and signed by the owner key. -/
def accepts (s : State) (t : Nat) (r : Requester) (sig : List Byte) : Prop :=
  ∃ key c e, s.sec.ownerKey = some key ∧ s.sec.challenge = some (c, e) ∧ Nat.max s.now t < e ∧ sm2Verify key (s.authBytes c r) sig = true

/-- The refused responses of the last 60 s, this one included (R541). -/
def failures (s : State) (t : Nat) : List Nat := Nat.max s.now t :: s.sec.fails.filter (fun a => Nat.blt (Nat.max s.now t) (a + 60000000000))

/-- A response refused with AUTH (R541). -/
def authRefused (t : Nat) (r : Requester) (evs : List (Nat × Nat)) (n : List Nat) (s u : State) : Prop :=
  written t r evs [.sec] ([Obj.CAT_ERRORS, Obj.CAT_LAST_ERROR, Obj.SEC_AUTH_FAILS] ++ n) s u ∧ counts 32 Obj.SEC_AUTH_FAILS s u ∧
  u.reg Obj.CAT_LAST_ERROR = 256 * Obj.SEC_AUTH_RESPONSE + Status.auth.code ∧ u.sec.grants = s.sec.grants

/-- A long operation accepted (R270): it runs, and is answered when it ends. -/
def deferred (t : Nat) (r : Requester) (op : LongOp) (id : Nat) (evs : List (Nat × Nat)) (l : List Piece) (n : List Nat) (s u : State) : Prop :=
  effects t evs (.long :: .mailbox :: l) (Obj.CAT_REQUESTS :: n) s u ∧ u.reg Obj.CAT_REQUESTS = (s.reg Obj.CAT_REQUESTS + 1) % 2 ^ 64 ∧
  (∃ x : LongRun, u.cat.long = some x ∧ x.op = op ∧ x.sender = r ∧ x.id = id ∧ x.rtype = 2)

/-- A value of EVT_LIFE advanced by 1, saturating (R561). -/
def lives (k : Nat) (s u : State) : Prop := u.lifeVal k = BitVec.ofNat 32 (satNat 32 ((s.lifeVal k).toNat + 1))

/-- The moves between states that R19 lists, as pairs of codes of R18: 0 OFF, 1 BOOT, 2 SELFTEST, 3 CALLOAD, 4 LINKUP, 5 READY, 6 RUN, 7 REST, 15 FAULT. -/
def moves : List (TileState × TileState) :=
  [(.off, .boot), (.boot, .selftest), (.selftest, .calload), (.calload, .linkup), (.linkup, .ready), (.ready, .run), (.run, .ready), (.ready, .rest),
   (.rest, .ready), (.fault, .boot)]

/-- A move that R19 allows: one of its list, to FAULT from any state but OFF, or to OFF. -/
def mayMove (a b : TileState) : Prop := a = b ∨ (a, b) ∈ moves ∨ (a ≠ .off ∧ b = .fault) ∨ b = .off

/-- The phase of an entry to REST or of a wake agrees with the state. -/
def phaseAgrees (s : State) : Prop :=
  match s.tile.phase with
  | .none => s.tile.state ≠ .rest
  | .draining | .passing => s.tile.state = .ready
  | .inRest | .waking => s.tile.state = .rest

/-- An entry of the log with COUNT 1 at this moment (R291, R555). -/
def occurrence (s : State) (code param : Nat) : LogEntry := ⟨s.stamp, BitVec.ofNat 16 code, 1, BitVec.ofNat 32 param⟩

/-- The holdoff of an event code (R555). -/
def holdoff (s : State) (code : Nat) : Holdoff := storeGet (fun _ => idleHoldoff) s.log.holdoffs code

/-- An entry has been written to the log (R291, R555): in the next slot, with the EVENT alert. -/
def logged (e : LogEntry) (s u : State) : Prop :=
  u.log.next = s.log.next + 1 ∧ (∀ k, u.log.slot k = if k = s.log.next.toNat % 256 then e else s.log.slot k) ∧ u.flag Obj.TW_ALERT_PENDING 2 = true ∧
  u.log.held = s.log.held

end Sys2Proof.Claims

section Statements

open Sys2Proof Sys2Proof.Machine

/-- A step carries out the command at the front of the queue on the state with the rest of the queue; on an empty queue the block idles (log entry 2: the model's
choice). -/
def Obligations.StepTakesFront : Prop :=
  (∀ (s : State) (c : Instr) (q : List Instr), s.pending = c :: q → step s = exec c { s with pending := q }) ∧
  (∀ s : State, s.pending = [] → step s = .next s)

/-- A command runs exactly if it names units that the tile has: a well-formed one answers a next state in every state, any other stops with noSuchUnit (log entry
1: the model's choice). -/
def Obligations.WellFormedCommandsRun : Prop :=
  ∀ (i : Instr) (s : State), (i.wf = true → ∃ u, exec i s = .next u) ∧ (i.wf = false → exec i s = .fault .noSuchUnit)

/-- After every step the status values that the spec ties to the state agree with it (R64, R82, R197, R202, R203, R482), the clock has not run back, and the queue
has lost exactly its front. -/
def Obligations.StepKeepsSettled : Prop :=
  ∀ s u : State, s.settled = true → step s = .next u → u.settled = true ∧ s.now ≤ u.now ∧ u.pending = s.pending.tail

/-- The tile moves between states only as R19 lists, whatever command comes; the phase of a REST entry or a wake agrees with the state before and after. -/
def Obligations.StateMoves : Prop :=
  ∀ s u : State, Claims.phaseAgrees s → step s = .next u → Claims.mayMove s.tile.state u.tile.state ∧ Claims.phaseAgrees u

/-- The tile at reset: in OFF, nothing waiting, its status values settled, both ports down, the log empty, the calibration set of the factory whole, the memories
in their canonical form, and every object with a numeric default of its table at that default. The values that no rule gives are the model's choice: log
entries 6, 7, 26 and 32. -/
def Obligations.ResetHolds : Prop :=
  State.reset.settled = true ∧ Claims.phaseAgrees State.reset ∧ State.reset.pending = [] ∧ State.reset.tile.state = .off ∧ State.reset.portA.state = .down ∧
  State.reset.portB.state = .down ∧ State.reset.log.next = 0 ∧ (∀ k, State.reset.log.slot k = emptyEntry) ∧ State.reset.cal.generation = some 1 ∧
  State.reset.cal.tornPages 1 = [] ∧ State.reset.secure = false ∧ State.reset.fol.hasActive = false ∧ Memory.wf archiveDefault State.reset.archive = true ∧
  (∀ (id : Nat) (row : ObjRow) (n : Nat), Obj.find id = some row → row.dflt = .num n → n < 2 ^ 64 →
    State.reset.reg id = n ∧ State.reset.act id = n ∧ State.reset.wrk id = n)

/-- An occurrence of an event (R555): outside the holdoff of its code it is written at once and starts the holdoff of 1 s; within it the pending count advances,
and the first fixes PARAM and TIME; codes 0x1701 to 0x1704 have no holdoff; while the core cannot write, the entry is held. -/
def Obligations.EventOccurrences : Prop :=
  ∀ (s : State) (code param : Nat), code < 65536 →
    (0x1701 ≤ code → code ≤ 0x1704 → (s.event code param).log.holdoffs = s.log.holdoffs ∧
      (s.log.live = true → Claims.logged (Claims.occurrence s code param) s (s.event code param)) ∧
      (s.log.live = false → (s.event code param).log.held = s.log.held ++ [Claims.occurrence s code param] ∧ (s.event code param).log.next = s.log.next)) ∧
    ((code < 0x1701 ∨ 0x1704 < code) →
      ((Claims.holdoff s code).ends ≤ s.now → (Claims.holdoff s code).pending = 0 →
        Claims.holdoff (s.event code param) code = ⟨s.now + 1000000000, 0, 0, 0⟩ ∧
        (s.log.live = true → Claims.logged (Claims.occurrence s code param) s (s.event code param)) ∧
        (s.log.live = false → (s.event code param).log.held = s.log.held ++ [Claims.occurrence s code param])) ∧
      ((s.now < (Claims.holdoff s code).ends ∨ (Claims.holdoff s code).pending ≠ 0) →
        (s.event code param).log.slots = s.log.slots ∧ (s.event code param).log.next = s.log.next ∧ (s.event code param).log.held = s.log.held ∧
        Claims.holdoff (s.event code param) code = { Claims.holdoff s code with
          pending := (Claims.holdoff s code).pending + 1
          param := if (Claims.holdoff s code).pending = 0 then BitVec.ofNat 32 param else (Claims.holdoff s code).param
          time := if (Claims.holdoff s code).pending = 0 then s.stamp else (Claims.holdoff s code).time }) ∧
      (∀ k, k ≠ code → Claims.holdoff (s.event code param) k = Claims.holdoff s k))

/-- The Archive as a memory (R214, R216, R223): bytes written read back and every other byte reads as before, a filled slot reads 0xFF, and both keep the
canonical form. What no command has written outside the slots is the model's choice: log entry 7. -/
def Obligations.ArchiveAccess : Prop :=
  ∀ (s : State) (a n : Nat) (l : List Byte), Memory.wf archiveDefault s.archive = true →
    Memory.wf archiveDefault (s.archWrite a l).archive = true ∧ Memory.wf archiveDefault (s.archFill a n).archive = true ∧
    (∀ b, (s.archWrite a l).archByte b = if a ≤ b ∧ b < a + l.length then l.getD (b - a) 0 else s.archByte b) ∧
    (∀ b, (s.archFill a n).archByte b = if a ≤ b ∧ b < a + n then archiveDefault b else s.archByte b)

/-- Scalar operations (R114): s[rd] is the function of s[ra] and s[rb]; s0 stays 0; nothing else of the engine or the tile changes but the program counter, the
loops and the cycles. Readings it rests on: log entry 33. -/
def Obligations.ScalarOperationResults : Prop :=
  ∀ p ∈ Claims.salu, ∀ (s : State) (e rd ra rb : Nat), rd < 32 → ra < 32 → rb < 32 →
    s.settled = true → s.issues e [rS ra, rS rb] = true →
    answers (p.1 e rd ra rb) s (fun u => onlyEngine e s u ∧
      scalarResult [rS ra, rS rb] 0 rd (p.2 ((s.engine e).sreg ra) ((s.engine e).sreg rb)) (s.engine e) (u.engine e))

/-- Scalar operations with an immediate and LUI (R113). Control flow (R113, R120): NOP, branches taken and not taken, JAL, JR within the code, and LOOP with fewer
than two loops active. Readings it rests on: log entry 33. -/
def Obligations.ImmediateAndControlFlowResults : Prop :=
  (∀ p ∈ Claims.immediates, ∀ (s : State) (e rd ra : Nat) (k : BitVec 16), rd < 32 → ra < 32 →
    s.settled = true → s.issues e [rS ra] = true →
    answers (p.1 e rd ra k) s (fun u => onlyEngine e s u ∧
      scalarResult [rS ra] 0 rd (p.2 ((s.engine e).sreg ra) k) (s.engine e) (u.engine e))) ∧
  (∀ p ∈ Claims.shifts, ∀ (s : State) (e rd ra k : Nat), rd < 32 → ra < 32 → k < 32 →
    s.settled = true → s.issues e [rS ra] = true →
    answers (p.1 e rd ra k) s (fun u => onlyEngine e s u ∧
      scalarResult [rS ra] 0 rd (p.2 ((s.engine e).sreg ra) k) (s.engine e) (u.engine e))) ∧
  (∀ (s : State) (e rd : Nat) (k : BitVec 16), rd < 32 → s.settled = true → s.issues e [rS 0] = true →
    answers (.lui e rd k) s (fun u => onlyEngine e s u ∧
      scalarResult [rS 0] 0 rd (BitVec.ofNat 32 (k.toNat * 65536)) (s.engine e) (u.engine e))) ∧
  (∀ p ∈ Claims.branches, ∀ (s : State) (e rd ra : Nat) (k : BitVec 16), rd < 32 → ra < 32 →
    s.settled = true → s.issues e [rS rd, rS ra] = true →
    answers (p.1 e rd ra k) s (fun u => onlyEngine e s u ∧
      if p.2 ((s.engine e).sreg rd) ((s.engine e).sreg ra) then
        Claims.jumped [rS rd, rS ra] (((s.engine e).pc : Int) + 1 + k.toInt).toNat (s.engine e) (u.engine e) ∧ (u.engine e).s = (s.engine e).s
      else Claims.passed [rS rd, rS ra] (s.engine e) (u.engine e))) ∧
  (∀ (any : Bool) (s : State) (e p : Nat) (k : BitVec 16), p < 8 → s.settled = true → s.issues e [rP p] = true →
    answers (if any then .bany e p k else .bnone e p k) s (fun u => onlyEngine e s u ∧
      if ((s.engine e).preg p != 0) = any then
        Claims.jumped [rP p] (((s.engine e).pc : Int) + 1 + k.toInt).toNat (s.engine e) (u.engine e) ∧ (u.engine e).s = (s.engine e).s
      else Claims.passed [rP p] (s.engine e) (u.engine e))) ∧
  (∀ (s : State) (e rd : Nat) (k : BitVec 16), rd < 32 → s.settled = true → s.issues e [] = true →
    answers (.jal e rd k) s (fun u => onlyEngine e s u ∧
      Claims.jumped [] (((s.engine e).pc : Int) + 1 + k.toInt).toNat (s.engine e) (u.engine e) ∧
      scalarsBut rd (BitVec.ofNat 32 ((s.engine e).pc + 1)) (s.engine e) (u.engine e))) ∧
  (∀ (s : State) (e ra : Nat) (t : Task), ra < 32 → s.settled = true → s.issues e [rS ra] = true →
    (s.engine e).task = some t → ((s.engine e).sreg ra).toNat % 4096 < t.image.codeWords →
    answers (.jr e ra) s (fun u => onlyEngine e s u ∧
      Claims.jumped [rS ra] (((s.engine e).sreg ra).toNat % 4096) (s.engine e) (u.engine e) ∧ (u.engine e).s = (s.engine e).s)) ∧
  (∀ (s : State) (e ra b : Nat), ra < 32 → 1 ≤ b → b < 256 → s.settled = true → s.issues e [rS ra] = true → (s.engine e).loops.length < 2 →
    answers (.loop e ra b) s (fun u => onlyEngine e s u ∧
      ((u.engine e).pc, (u.engine e).loops) = (if (s.engine e).sreg ra = 0 then loopNext ((s.engine e).pc + b) (s.engine e).loops
        else ((s.engine e).pc + 1, ⟨(s.engine e).pc + 1, (s.engine e).pc + b, ((s.engine e).sreg ra).toNat⟩ :: (s.engine e).loops)) ∧
      (u.engine e).cycles = (s.engine e).issueCycle [rS ra] ∧
      u.engine e = { s.engine e with pc := (u.engine e).pc, loops := (u.engine e).loops, cycles := (u.engine e).cycles })) ∧
  (∀ (s : State) (e : Nat), s.settled = true → s.issues e [] = true →
    answers (.sysNop e) s (fun u => onlyEngine e s u ∧ Claims.passed [] (s.engine e) (u.engine e)))

/-- Lane operations on two vectors (R112, R115), VSEL among them: the active lanes of v[rd] are the function of the lanes of v[ra] and v[rb], the others as they
were. Readings it rests on: log entry 33. -/
def Obligations.LaneOperationResults : Prop :=
  (∀ p ∈ Claims.valu, ∀ (s : State) (e rd ra rb pg : Nat), rd < 32 → ra < 32 → rb < 32 → pg < 8 →
    s.settled = true → s.issues e [rV ra, rV rb, rP pg] = true →
    answers (p.1 e rd ra rb pg) s (fun u => onlyEngine e s u ∧
      vectorResult [rV ra, rV rb, rP pg] 0 rd
        (lanesUnder ((s.engine e).preg pg) (fun i => p.2 ((s.engine e).lane ra i) ((s.engine e).lane rb i)) ((s.engine e).lane rd))
        (s.engine e) (u.engine e))) ∧
  (∀ (s : State) (e rd ra rb pg : Nat), rd < 32 → ra < 32 → rb < 32 → pg < 8 → s.settled = true → s.issues e [rV ra, rV rb, rP pg] = true →
    answers (.vsel e rd ra rb pg) s (fun u => onlyEngine e s u ∧
      vectorResult [rV ra, rV rb, rP pg] 0 rd (lanesUnder ((s.engine e).preg pg) ((s.engine e).lane ra) ((s.engine e).lane rb))
        (s.engine e) (u.engine e)))

/-- Lane shifts by an immediate, VSPLAT, VSETL, VSLIDE, VGETL and VCMP (R113, R116). Readings it rests on: log entry 33. -/
def Obligations.VectorMoveResults : Prop :=
  (∀ p ∈ Claims.vshifts, ∀ (s : State) (e rd ra pg k : Nat), rd < 32 → ra < 32 → pg < 8 → k < 16 →
    s.settled = true → s.issues e [rV ra, rP pg] = true →
    answers (p.1 e rd ra pg k) s (fun u => onlyEngine e s u ∧
      vectorResult [rV ra, rP pg] 0 rd
        (lanesUnder ((s.engine e).preg pg) (fun i => p.2 ((s.engine e).lane ra i) k) ((s.engine e).lane rd)) (s.engine e) (u.engine e))) ∧
  (∀ (s : State) (e rd ra pg : Nat), rd < 32 → ra < 32 → pg < 8 → s.settled = true → s.issues e [rS ra, rP pg] = true →
    answers (.vsplat e rd ra pg) s (fun u => onlyEngine e s u ∧
      vectorResult [rS ra, rP pg] 0 rd
        (lanesUnder ((s.engine e).preg pg) (fun _ => ((s.engine e).sreg ra).truncate 16) ((s.engine e).lane rd)) (s.engine e) (u.engine e))) ∧
  (∀ (s : State) (e rd ra k : Nat), rd < 32 → ra < 32 → k < 16 → s.settled = true → s.issues e [rS ra] = true →
    answers (.vsetl e rd ra k) s (fun u => onlyEngine e s u ∧
      vectorResult [rS ra] 0 rd
        ((List.range 16).map (fun i => if i = k then ((s.engine e).sreg ra).truncate 16 else (s.engine e).lane rd i)) (s.engine e) (u.engine e))) ∧
  (∀ (s : State) (e rd ra rb pg k : Nat), rd < 32 → ra < 32 → rb < 32 → pg < 8 → k < 16 →
    s.settled = true → s.issues e [rV ra, rV rb, rP pg] = true →
    answers (.vslide e rd ra rb pg k) s (fun u => onlyEngine e s u ∧
      vectorResult [rV ra, rV rb, rP pg] 0 rd
        (lanesUnder ((s.engine e).preg pg)
          (fun i => if i + k < 16 then (s.engine e).lane ra (i + k) else (s.engine e).lane rb (i + k - 16)) ((s.engine e).lane rd))
        (s.engine e) (u.engine e))) ∧
  (∀ (s : State) (e rd ra k : Nat) (signed : Bool), rd < 32 → ra < 32 → k < 16 → s.settled = true → s.issues e [rV ra] = true →
    answers (.vgetl e rd ra k signed) s (fun u => onlyEngine e s u ∧
      scalarResult [rV ra] 0 rd (if signed then ((s.engine e).lane ra k).signExtend 32 else ((s.engine e).lane ra k).zeroExtend 32)
        (s.engine e) (u.engine e))) ∧
  (∀ (s : State) (e rd ra rb pg k : Nat), rd < 8 → ra < 32 → rb < 32 → pg < 8 → k < 6 →
    s.settled = true → s.issues e [rV ra, rV rb, rP pg] = true →
    answers (.vcmp e rd ra rb pg k) s (fun u => onlyEngine e s u ∧ ∃ h : Half,
      predicateResult [rV ra, rV rb, rP pg] rd h (s.engine e) (u.engine e) ∧
      ∀ i, i < 16 → h.getLsbD i = (((s.engine e).preg pg).getLsbD i &&
        (Claims.comparisons.getD k (fun _ _ => false)) ((s.engine e).lane ra i) ((s.engine e).lane rb i))))

/-- Reductions and predicate operations (R116). Accumulators read (R118): VNARROW and ARED round half to even and limit. Readings it rests on: log entry 33. -/
def Obligations.ReductionResults : Prop :=
  (∀ p ∈ Claims.reductions, ∀ (s : State) (e rd ra pg : Nat), rd < 32 → ra < 32 → pg < 8 →
    s.settled = true → s.issues e [rV ra, rP pg] = true →
    answers (p.1 e rd ra pg) s (fun u => onlyEngine e s u ∧
      scalarResult [rV ra, rP pg] 0 rd (BitVec.ofInt 32 (p.2 (Claims.activeLanes (s.engine e) pg ra))) (s.engine e) (u.engine e))) ∧
  (∀ p ∈ Claims.predicates, ∀ (s : State) (e rd ra rb : Nat), rd < 8 → ra < 8 → rb < 8 →
    s.settled = true → s.issues e [rP ra, rP rb] = true →
    answers (p.1 e rd ra rb) s (fun u => onlyEngine e s u ∧
      predicateResult [rP ra, rP rb] rd (p.2 ((s.engine e).preg ra) ((s.engine e).preg rb)) (s.engine e) (u.engine e))) ∧
  (∀ (s : State) (e rd ra : Nat), rd < 8 → ra < 8 → s.settled = true → s.issues e [rP ra] = true →
    answers (.predNot e rd ra) s (fun u => onlyEngine e s u ∧
      predicateResult [rP ra] rd (~~~((s.engine e).preg ra)) (s.engine e) (u.engine e))) ∧
  (∀ (s : State) (e rd ra : Nat), rd < 8 → ra < 32 → s.settled = true → s.issues e [rS ra] = true →
    answers (.predFroms e rd ra) s (fun u => onlyEngine e s u ∧
      predicateResult [rS ra] rd (((s.engine e).sreg ra).truncate 16) (s.engine e) (u.engine e))) ∧
  (∀ (s : State) (e rd ra : Nat), rd < 32 → ra < 8 → s.settled = true → s.issues e [rP ra] = true →
    answers (.predTos e rd ra) s (fun u => onlyEngine e s u ∧
      scalarResult [rP ra] 0 rd (((s.engine e).preg ra).zeroExtend 32) (s.engine e) (u.engine e))) ∧
  (∀ (s : State) (e rd ra : Nat), rd < 32 → ra < 8 → s.settled = true → s.issues e [rP ra] = true →
    answers (.predCnt e rd ra) s (fun u => onlyEngine e s u ∧
      scalarResult [rP ra] 0 rd (BitVec.ofNat 32 ((List.range 16).countP (fun i => ((s.engine e).preg ra).getLsbD i))) (s.engine e) (u.engine e))) ∧
  (∀ (signed : Bool) (s : State) (e rd ra pg k : Nat), rd < 32 → ra < 4 → pg < 8 → k < 40 →
    s.settled = true → s.issues e [rA ra, rP pg] = true →
    answers (if signed then .vnarrowSigned e rd ra pg k else .vnarrowUnsigned e rd ra pg k) s (fun u => onlyEngine e s u ∧
      vectorResult [rA ra, rP pg] 0 rd
        (lanesUnder ((s.engine e).preg pg)
          (fun i => BitVec.ofInt 16 (if signed then max (-32768) (min 32767 (shrHalfEven (((s.engine e).areg ra).getD i 0) k))
            else max 0 (min 65535 (shrHalfEven (((s.engine e).areg ra).getD i 0) k))))
          ((s.engine e).lane rd)) (s.engine e) (u.engine e))) ∧
  (∀ (s : State) (e rd ra pg k : Nat), rd < 32 → ra < 4 → pg < 8 → k < 40 → s.settled = true → s.issues e [rA ra, rP pg] = true →
    answers (.ared e rd ra pg k) s (fun u => onlyEngine e s u ∧
      scalarResult [rA ra, rP pg] 0 rd
        (BitVec.ofInt 32 (max (-2147483648) (min 2147483647
          (shrHalfEven ((List.range 16).map (fun i => if ((s.engine e).preg pg).getLsbD i then ((s.engine e).areg ra).getD i 0 else 0)).sum k))))
        (s.engine e) (u.engine e)))

/-- Accumulator operations (R117): VMAC, VMACS and ACLR with their limit and ACC_SAT. Readings it rests on: log entry 33. -/
def Obligations.AccumulatorResults : Prop :=
  (∀ p ∈ Claims.vmac, ∀ (s : State) (e rd ra rb pg : Nat), rd < 4 → ra < 32 → rb < 32 → pg < 8 →
    s.settled = true → s.issues e [rP pg, rM rd, rV ra, rV rb] = true →
    answers (p.1 e rd ra rb pg) s (fun u => onlyEngine e s u ∧
      Claims.accResult [rP pg, rM rd, rV ra, rV rb] rd pg
        (fun i => p.2 (((s.engine e).areg rd).getD i 0) ((s.engine e).lane ra i) ((s.engine e).lane rb i)) (s.engine e) (u.engine e))) ∧
  (∀ (signed : Bool) (s : State) (e rd ra rb pg : Nat), rd < 4 → ra < 32 → rb < 32 → pg < 8 →
    s.settled = true → s.issues e [rP pg, rM rd, rV ra, rS rb] = true →
    answers (if signed then .vmacsSigned e rd ra rb pg else .vmacsUnsigned e rd ra rb pg) s (fun u => onlyEngine e s u ∧
      Claims.accResult [rP pg, rM rd, rV ra, rS rb] rd pg
        (fun i => ((s.engine e).areg rd).getD i 0 +
          (if signed then ((s.engine e).lane ra i).toInt else (((s.engine e).lane ra i).toNat : Int)) * (((s.engine e).sreg rb).truncate 16).toInt)
        (s.engine e) (u.engine e))) ∧
  (∀ (s : State) (e rd pg : Nat), rd < 4 → pg < 8 → s.settled = true → s.issues e [rP pg, rM rd] = true →
    answers (.vmacAclr e rd pg) s (fun u => onlyEngine e s u ∧
      Claims.accResult [rP pg, rM rd] rd pg (fun _ => 0) (s.engine e) (u.engine e)))

/-- Scalar loads and stores (R110, R113): a permitted, aligned address that no outstanding fetch lands on. Vector loads and stores (R110, R112, R113): VLD and VST
take an offset, VLDP and VSTP advance s[ra] by 32; the lanes that the predicate leaves out are not loaded and not stored. Readings it rests on: log entries 33
and 39. -/
def Obligations.LdmResults : Prop :=
  (∀ p ∈ Claims.scalarLoads, ∀ (s : State) (e rd ra : Nat) (imm : BitVec 16), rd < 32 → ra < 32 → s.settled = true → s.issues e [rS ra] = true →
    (s.engine e).permits false p.2 [ldmAddr ((s.engine e).sreg ra) imm.toInt] = true →
    (s.engine e).touches (ldmAddr ((s.engine e).sreg ra) imm.toInt) p.2 = false →
    answers (p.1 e rd ra imm) s (fun u => onlyEngine e s u ∧
      scalarResult [rS ra] 0 rd (BitVec.ofNat 32 ((s.engine e).ldmLe (ldmAddr ((s.engine e).sreg ra) imm.toInt) p.2)) (s.engine e) (u.engine e))) ∧
  (∀ p ∈ Claims.scalarStores, ∀ (s : State) (e rd ra : Nat) (imm : BitVec 16), rd < 32 → ra < 32 → s.settled = true →
    s.issues e [rS ra, rS rd] = true →
    (s.engine e).permits true p.2 [ldmAddr ((s.engine e).sreg ra) imm.toInt] = true →
    (s.engine e).touches (ldmAddr ((s.engine e).sreg ra) imm.toInt) p.2 = false →
    answers (p.1 e rd ra imm) s (fun u => onlyEngine e s u ∧ Claims.advanced [rS ra, rS rd] (s.engine e) (u.engine e) ∧
      u.engine e = { s.engine e with ldm := (u.engine e).ldm, cycles := (u.engine e).cycles, pc := (u.engine e).pc, loops := (u.engine e).loops } ∧
      (∀ b, Claims.ldmAt (u.engine e) b =
        if ldmAddr ((s.engine e).sreg ra) imm.toInt ≤ b ∧ b < ldmAddr ((s.engine e).sreg ra) imm.toInt + p.2 then
          BitVec.ofNat 8 (((s.engine e).sreg rd).toNat / 256 ^ (b - ldmAddr ((s.engine e).sreg ra) imm.toInt))
        else Claims.ldmAt (s.engine e) b))) ∧
  (∀ (off : Option (BitVec 8)) (s : State) (e rd ra pg : Nat), rd < 32 → ra < 32 → pg < 8 → s.settled = true →
    s.issues e [rS ra, rP pg] = true →
    (s.engine e).permits false 2 (vecAddrs (ldmAddr ((s.engine e).sreg ra) (Claims.vectorOffset off))) = true →
    (vecAddrs (ldmAddr ((s.engine e).sreg ra) (Claims.vectorOffset off))).all (fun a => !((s.engine e).touches a 2)) = true →
    answers (match off with | some o => .vld e rd ra pg o | none => .vldp e rd ra pg) s (fun u => onlyEngine e s u ∧
      wentOn [rS ra, rP pg] 0 (s.engine e) (u.engine e) ∧
      vectorsBut rd (lanesUnder ((s.engine e).preg pg)
        (fun i => BitVec.ofNat 16 ((s.engine e).ldmLe ((ldmAddr ((s.engine e).sreg ra) (Claims.vectorOffset off) + 2 * i) % 65536) 2))
        ((s.engine e).lane rd)) (s.engine e) (u.engine e) ∧
      (match off with
        | some _ => (u.engine e).s = (s.engine e).s
        | none => scalarsBut ra ((s.engine e).sreg ra + 32) (s.engine e) (u.engine e)) ∧
      (u.engine e).a = (s.engine e).a ∧ (u.engine e).p = (s.engine e).p ∧ (u.engine e).estat = (s.engine e).estat)) ∧
  (∀ (off : Option (BitVec 8)) (s : State) (e rd ra pg : Nat), rd < 32 → ra < 32 → pg < 8 → s.settled = true →
    s.issues e [rS ra, rV rd, rP pg] = true →
    (s.engine e).permits true 2 (vecAddrs (ldmAddr ((s.engine e).sreg ra) (Claims.vectorOffset off))) = true →
    (vecAddrs (ldmAddr ((s.engine e).sreg ra) (Claims.vectorOffset off))).all (fun a => !((s.engine e).touches a 2)) = true →
    answers (match off with | some o => .vst e rd ra pg o | none => .vstp e rd ra pg) s (fun u => onlyEngine e s u ∧
      Claims.advanced [rS ra, rV rd, rP pg] (s.engine e) (u.engine e) ∧
      u.engine e = { s.engine e with s := (u.engine e).s, ldm := (u.engine e).ldm, ready := (u.engine e).ready, cycles := (u.engine e).cycles,
                                     pc := (u.engine e).pc, loops := (u.engine e).loops } ∧
      (match off with
        | some _ => (u.engine e).s = (s.engine e).s
        | none => scalarsBut ra ((s.engine e).sreg ra + 32) (s.engine e) (u.engine e)) ∧
      (∀ i, i < 16 → ((s.engine e).preg pg).getLsbD i = true →
        Claims.ldmAt (u.engine e) ((ldmAddr ((s.engine e).sreg ra) (Claims.vectorOffset off) + 2 * i) % 65536) =
          ((s.engine e).lane rd i).truncate 8 ∧
        Claims.ldmAt (u.engine e) ((ldmAddr ((s.engine e).sreg ra) (Claims.vectorOffset off) + 2 * i) % 65536 + 1) =
          (((s.engine e).lane rd i) >>> 8).truncate 8) ∧
      (∀ b, (∀ i, i < 16 → ((s.engine e).preg pg).getLsbD i = true →
          b ≠ (ldmAddr ((s.engine e).sreg ra) (Claims.vectorOffset off) + 2 * i) % 65536 ∧
          b ≠ (ldmAddr ((s.engine e).sreg ra) (Claims.vectorOffset off) + 2 * i) % 65536 + 1) →
        Claims.ldmAt (u.engine e) b = Claims.ldmAt (s.engine e) b))) ∧
  (∀ (s : State) (e rd ra rb pg k : Nat), rd < 32 → ra < 32 → rb < 32 → pg < 8 → k < 16 → s.settled = true →
    s.issues e [rS ra, rV rb, rP pg] = true →
    (s.engine e).permits false 2 ((List.range 16).filterMap (fun i => if ((s.engine e).preg pg).getLsbD i then
      some ((((s.engine e).sreg ra).toNat + 2 * (((s.engine e).lane rb i).toNat / 2 ^ k)) % 65536) else none)) = true →
    ((List.range 16).all (fun i => !(((s.engine e).preg pg).getLsbD i) ||
      !((s.engine e).touches ((((s.engine e).sreg ra).toNat + 2 * (((s.engine e).lane rb i).toNat / 2 ^ k)) % 65536) 2))) = true →
    answers (.vlut e rd ra rb pg k) s (fun u => onlyEngine e s u ∧
      vectorResult [rS ra, rV rb, rP pg]
        (lutConflicts ((List.range 16).filterMap (fun i => if ((s.engine e).preg pg).getLsbD i then
          some ((((s.engine e).sreg ra).toNat + 2 * (((s.engine e).lane rb i).toNat / 2 ^ k)) % 65536) else none))) rd
        (lanesUnder ((s.engine e).preg pg)
          (fun i => BitVec.ofNat 16 ((s.engine e).ldmLe ((((s.engine e).sreg ra).toNat + 2 * (((s.engine e).lane rb i).toNat / 2 ^ k)) % 65536) 2))
          ((s.engine e).lane rd)) (s.engine e) (u.engine e)))

/-- Task values and ports (R122, R124, R125, R126): SGET, POP LINE, POP REF, and PUSH and PUSHS into a buffer with room. Readings it rests on: log entries 33 and
39. -/
def Obligations.PortResults : Prop :=
  (∀ (s : State) (e rd sel : Nat) (t : Task), rd < 32 → sel < 21 → s.settled = true → s.issues e [] = true → (s.engine e).task = some t →
    answers (.sget e rd sel) s (fun u => onlyEngine e s u ∧
      scalarResult [] 0 rd (BitVec.ofNat 32 (s.taskValue e { s.engine e with cycles := (s.engine e).issueCycle [] } t sel)) (s.engine e) (u.engine e))) ∧
  (∀ (s : State) (e rd pg : Nat) (t : Task), rd < 32 → pg < 8 → s.settled = true → s.issues e [rP pg] = true → (s.engine e).task = some t →
    (s.lineVectors t ≤ (s.engine e).popped ∨ (s.engine e).popped < (s.engine e).arrived) →
    answers (.popLine e rd pg) s (fun u => onlyEngine e s u ∧ Claims.advanced [rP pg] (s.engine e) (u.engine e) ∧
      u.engine e = { s.engine e with v := (u.engine e).v, popped := (u.engine e).popped, estat := (u.engine e).estat, ready := (u.engine e).ready,
                                     cycles := (u.engine e).cycles, pc := (u.engine e).pc, loops := (u.engine e).loops } ∧
      if s.lineVectors t ≤ (s.engine e).popped then
        (u.engine e).popped = (s.engine e).popped ∧ (u.engine e).estat = withBit (s.engine e).estat 1 true ∧
        vectorsBut rd (lanesUnder ((s.engine e).preg pg) (fun _ => 0xFFFF) ((s.engine e).lane rd)) (s.engine e) (u.engine e)
      else
        (u.engine e).popped = (s.engine e).popped + 1 ∧ (u.engine e).estat = (s.engine e).estat ∧
        vectorsBut rd (lanesUnder ((s.engine e).preg pg) (fun i => (s.lineVector t (s.engine e).popped).getD i 0) ((s.engine e).lane rd))
          (s.engine e) (u.engine e))) ∧
  (∀ (s : State) (e rd pg : Nat), rd < 32 → pg < 8 → s.settled = true → s.issues e [rP pg] = true →
    answers (.popRef e rd pg) s (fun u => onlyEngine e s u ∧ Claims.advanced [rP pg] (s.engine e) (u.engine e) ∧
      u.engine e = { s.engine e with v := (u.engine e).v, refPos := (u.engine e).refPos, estat := (u.engine e).estat, ready := (u.engine e).ready,
                                     cycles := (u.engine e).cycles, pc := (u.engine e).pc, loops := (u.engine e).loops } ∧
      if (s.engine e).refLen < (s.engine e).refPos + 32 then
        (u.engine e).refPos = (s.engine e).refPos ∧ (u.engine e).estat = withBit (s.engine e).estat 2 true ∧
        vectorsBut rd (lanesUnder ((s.engine e).preg pg) (fun _ => 0xFFFF) ((s.engine e).lane rd)) (s.engine e) (u.engine e)
      else
        (u.engine e).refPos = (s.engine e).refPos + 32 ∧ (u.engine e).estat = (s.engine e).estat ∧
        vectorsBut rd (lanesUnder ((s.engine e).preg pg)
          (fun i => BitVec.ofNat 16 ((s.engine e).ldmLe (((s.engine e).refAt + (s.engine e).refPos + 2 * i) % 65536) 2)) ((s.engine e).lane rd))
          (s.engine e) (u.engine e))) ∧
  (∀ (vec : Bool) (s : State) (e ra : Nat) (t : Task), ra < 32 → s.settled = true → s.issues e [if vec then rV ra else rS ra] = true →
    (s.engine e).task = some t → (s.engine e).outBytes + (if vec then 32 else 4) ≤ t.image.outBytes (s.taskKernel t) →
    answers (if vec then .push e ra false else .pushs e ra false) s (fun u => onlyEngine e s u ∧
      Claims.advanced [if vec then rV ra else rS ra] (s.engine e) (u.engine e) ∧
      u.engine e = { s.engine e with
        out := (s.engine e).out ++ (if vec then ((s.engine e).vreg ra).flatMap (fun h => leBytes 2 h.toNat) else leBytes 4 ((s.engine e).sreg ra).toNat)
        outBytes := (s.engine e).outBytes + (if vec then 32 else 4)
        cycles := (u.engine e).cycles, pc := (u.engine e).pc, loops := (u.engine e).loops })) ∧
  (∀ (vec : Bool) (s : State) (e ra : Nat), e < 128 → ra < 32 → s.settled = true → (s.engine e).runs = true →
    answers (if vec then .push e ra true else .pushs e ra true) s (fun u => onlyEngine e s u ∧
      u.engine e = { s.engine e with held := some (if vec then .push ra else .pushs ra) }))

/-- Waiting for data (R124, R126, R129, R186): vectors that arrive, a buffer that drains and a freed table entry let what waits go on as the instruction itself
would; WAITTAG releases a completed tag to the REF port and waits for another. Readings it rests on: log entries 33 and 39. -/
def Obligations.WaitingResults : Prop :=
  (∀ (s : State) (e tag : Nat), tag < 8 → s.settled = true → s.issues e [] = true → ((s.engine e).tag tag).all (fun f => f.done) = true →
    answers (.waittag e tag) s (fun u => onlyEngine e s u ∧ Claims.advanced [] (s.engine e) (u.engine e) ∧
      u.engine e = { s.engine e with
        refAt := (match (s.engine e).tag tag with | some f => f.landing | none => 0)
        refLen := (match (s.engine e).tag tag with | some f => f.landed | none => 0)
        refPos := 0, cycles := (u.engine e).cycles, pc := (u.engine e).pc, loops := (u.engine e).loops })) ∧
  (∀ (s : State) (e tag : Nat), tag < 8 → s.settled = true → s.issues e [] = true → ((s.engine e).tag tag).any (fun f => !f.done) = true →
    answers (.waittag e tag) s (fun u => onlyEngine e s u ∧ u.engine e = { s.engine e with held := some (.wait tag) })) ∧
  (∀ (s : State) (t e n : Nat), e < 128 → s.settled = true → (s.engine e).task.isSome = true → (∀ rd pg, (s.engine e).held ≠ some (.popLine rd pg)) →
    answers (.lineDataArrival t e n) s (fun u => onlyEngine e (s.at t) u ∧ u.engine e = { s.engine e with arrived := (s.engine e).arrived + n })) ∧
  (∀ (s : State) (t e n rd pg : Nat), e < 128 → rd < 32 → pg < 8 → (s.engine e).task.isSome = true → (s.engine e).held = some (.popLine rd pg) →
    exec (.lineDataArrival t e n) s =
      exec (.popLine e rd pg) ((s.at t).setEngine e { s.engine e with arrived := (s.engine e).arrived + n, held := none })) ∧
  (∀ (vec : Bool) (s : State) (t e ra : Nat), e < 128 → ra < 32 → (s.engine e).held = some (if vec then .push ra else .pushs ra) →
    exec (.outSpaceFreed t e) s =
      exec (if vec then .push e ra false else .pushs e ra false) ((s.at t).setEngine e { s.engine e with held := none })) ∧
  (∀ (s : State) (t e rd ra rb tag : Nat) (table : Bool) (r : List Nat), e < 128 → rd < 32 → ra < 32 → rb < 32 → 1 ≤ tag → tag < 8 →
    s.cu.fetchers = e :: r → s.fetchesOut < 1024 → (s.engine e).held = some (.fetch rd ra rb tag table) →
    exec (.fetchTableEntryFreed t) s =
      exec (.fetch e rd ra rb tag table)
        (State.setEngine { s.at t with cu := { s.cu with fetchers := r } } e { s.engine e with held := none }))

/-- FETCH, the landing of a tag and the prefetch (R127, R128, R129, R130, R186). Readings it rests on: log entries 33 and 39. Refused operands and kept prefetches
are the model's choice: log entries 21 and 22. -/
def Obligations.FetchResults : Prop :=
  (∀ (s : State) (e rd ra rb tag : Nat) (table : Bool) (t : Task), rd < 32 → ra < 32 → rb < 32 → 1 ≤ tag → tag < 8 → s.settled = true →
    s.issues e [rS rd, rS ra, rS rb] = true → (s.engine e).task = some t →
    ((s.engine e).tag tag).all (fun f => f.done) = true →
    ((s.engine e).sreg rd).toNat % 65536 % 32 = 0 → ((s.engine e).sreg ra).toNat % 32 = 0 → ((s.engine e).sreg rb).toNat % 32 = 0 →
    32 ≤ ((s.engine e).sreg rb).toNat → ((s.engine e).sreg rb).toNat ≤ 16384 →
    (s.engine e).touches (((s.engine e).sreg rd).toNat % 65536) ((s.engine e).sreg rb).toNat = false →
    ((s.engine e).sreg ra).toNat + ((s.engine e).sreg rb).toNat ≤ s.spaceBytes t table →
    ((s.engine e).sreg rd).toNat % 65536 + ((s.engine e).sreg rb).toNat ≤ (s.engine e).limit →
    (s.engine e).fetched + ((s.engine e).sreg rb).toNat ≤ t.image.refBytes (s.taskKernel t) → s.fetchesOut < 1024 →
    answers (.fetch e rd ra rb tag table) s (fun u => onlyEngine e s u ∧ Claims.advanced [rS rd, rS ra, rS rb] (s.engine e) (u.engine e) ∧
      u.engine e = { s.engine e with tags := (u.engine e).tags, fetched := (s.engine e).fetched + ((s.engine e).sreg rb).toNat
                                     cycles := (u.engine e).cycles, pc := (u.engine e).pc, loops := (u.engine e).loops } ∧
      (∀ k, (u.engine e).tag k = if k = tag then
          some ⟨if table then t.image.u32 0x2C + ((s.engine e).sreg ra).toNat
                else (match s.lineRec t.number with | some l => slotBase l.slot | none => 0) + ((s.engine e).sreg ra).toNat,
            ((s.engine e).sreg rb).toNat, ((s.engine e).sreg rd).toNat % 65536, table, true, false, 0⟩
        else (s.engine e).tag k))) ∧
  (∀ (s : State) (e rd ra rb tag : Nat) (table : Bool) (t : Task), rd < 32 → ra < 32 → rb < 32 → 1 ≤ tag → tag < 8 → s.settled = true →
    s.issues e [rS rd, rS ra, rS rb] = true → (s.engine e).task = some t →
    ((s.engine e).tag tag).all (fun f => f.done) = true →
    (s.engine e).touches (((s.engine e).sreg rd).toNat % 65536) ((s.engine e).sreg rb).toNat = false →
    s.spaceBytes t table < ((s.engine e).sreg ra).toNat + ((s.engine e).sreg rb).toNat →
    answers (.fetch e rd ra rb tag table) s (fun u => effects s.now [(0x2312, 0)] [.cu] [Obj.SE_FETCH_ERRORS] s u ∧
      Claims.advanced [rS rd, rS ra, rS rb] (s.engine e) (u.engine e) ∧
      u.reg Obj.SE_FETCH_ERRORS = (s.reg Obj.SE_FETCH_ERRORS + 1) % 2 ^ 32 ∧
      (u.engine e).tag tag = some ⟨0, 0, ((s.engine e).sreg rd).toNat % 65536, false, true, true, 0⟩ ∧
      (u.engine e).estat = withBit (s.engine e).estat 3 true)) ∧
  (∀ (s : State) (t e tag : Nat) (w : Task) (f : Fetch) (k : Nat), e < 128 → tag < 8 → s.settled = true → (s.engine e).task = some w →
    w.image.slot = some k → (s.engine e).held = none → (s.engine e).tag tag = some f → f.issued = true → f.done = false → f.table = true →
    answers (.fetchTagComplete t e tag []) s (fun u => effects t [] [.cu, .moved] [] s u ∧ (∀ j, j ≠ e → u.engine j = s.engine j) ∧
      u.engine e = { s.engine e with ldm := (u.engine e).ldm, tags := (u.engine e).tags } ∧
      (∀ j, (u.engine e).tag j = if j = tag then some { f with done := true, landed := f.length } else (s.engine e).tag j) ∧
      (∀ b, Claims.ldmAt (u.engine e) b =
        if f.landing ≤ b ∧ b < f.landing + (sliceBytes w.image.bytes f.address f.length).length then
          (sliceBytes w.image.bytes f.address f.length).getD (b - f.landing) 0
        else Claims.ldmAt (s.engine e) b))) ∧
  (∀ (s : State) (t e : Nat) (f : Fetch), e < 128 → s.settled = true → (s.engine e).zeroDue = some f → s.cu.fetchers.contains e = false →
    s.fetchesOut < 1024 →
    answers (.prefetchIssue t e) s (fun u => onlyEngine e (s.at t) u ∧
      u.engine e = { s.engine e with tags := (u.engine e).tags } ∧
      (∀ j, (u.engine e).tag j = if j = 0 then some { f with issued := true } else (s.engine e).tag j))) ∧
  (∀ (s : State) (t e : Nat) (f : Fetch), e < 128 → s.settled = true → (s.engine e).zeroDue = some f → s.cu.fetchers.contains e = false →
    1024 ≤ s.fetchesOut →
    answers (.prefetchIssue t e) s (fun u => effects t [] [.cu] [Obj.CU_FETCH_WAITS] s u ∧
      u.reg Obj.CU_FETCH_WAITS = (s.reg Obj.CU_FETCH_WAITS + 1) % 2 ^ 32 ∧ u.cu = { s.cu with fetchers := s.cu.fetchers ++ [e] }))

/-- The end of a task (R134, R136): YIELD of an image's task and of a built-in task whose reference has not landed, the drain of a task without a result, and the
cut at the limit of busy cycles. Task faults (R110, R120, R121, R137): an access that is not permitted, a third LOOP, a JR past the code. Readings it rests
on: log entries 33 and 39. That a cut task is listed at once rests on log entry 39. -/
def Obligations.TaskEnds : Prop :=
  (∀ (s : State) (e k : Nat) (t : Task), s.settled = true → s.issues e [] = true → (s.engine e).task = some t → t.image.slot = some k →
    answers (.sysYield e) s (fun u => onlyEngine e s u ∧
      u.engine e = { s.engine e with cycles := (s.engine e).issueCycle [], ending := some .yielded })) ∧
  (∀ (s : State) (e : Nat) (t : Task), s.settled = true → s.issues e [] = true → (s.engine e).task = some t → t.image.slot = none →
    (s.engine e).zeroDone = false →
    answers (.sysYield e) s (fun u => onlyEngine e s u ∧
      u.engine e = { s.engine e with cycles := (s.engine e).issueCycle [], held := some .finish })) ∧
  (∀ (s : State) (t e : Nat) (w : Task) (l : LineRec), e < 128 → s.settled = true → (s.engine e).task = some w → (s.engine e).ending = some .yielded →
    (s.engine e).outstanding = [] → (s.engine e).out = [] → s.lineRec w.number = some l →
    answers (.yieldDrainDone t e) s (fun u => effects t [] [.cu] [Obj.ST_TASKS w.strip] s u ∧
      u.reg (Obj.ST_TASKS w.strip) = (s.reg (Obj.ST_TASKS w.strip) + 1) % 2 ^ 64 ∧ (∀ k, k ≠ e → u.engine k = s.engine k) ∧
      u.engine e = { s.engine e with task := none, ending := none, held := none, tags := [], out := [], outCrops := [], outRequests := [] } ∧
      (u.hall (e / 16)).idleFrom = Nat.max s.now t ∧ u.cu.waiting = s.cu.waiting ∧ u.cu.lines.map LineRec.number = s.cu.lines.map LineRec.number)) ∧
  (∀ (s : State) (t e : Nat) (w : Task) (l : LineRec), e < 128 → s.settled = true → (s.engine e).task = some w → (s.engine e).ending = none →
    s.lineRec w.number = some l →
    answers (.budgetCut t e) s (fun u =>
      effects t [(0x2310, taskParam (s.taskKernel w) e l.head.line.toNat)] [.cu] [Obj.SE_BUDGET_CUTS, Obj.ST_CUT w.strip] s u ∧
      Claims.cutWith 3 (s.engine e) (u.engine e) ∧ (∀ k, k ≠ e → u.engine k = s.engine k) ∧
      u.reg Obj.SE_BUDGET_CUTS = (s.reg Obj.SE_BUDGET_CUTS + 1) % 2 ^ 32 ∧
      u.reg (Obj.ST_CUT w.strip) = (s.reg (Obj.ST_CUT w.strip) + 1) % 2 ^ 32 ∧
      (∃ x, u.lineRec w.number = some x ∧ x.unjudged = l.unjudged ++ [⟨w.region, w.strip, 3⟩]))) ∧
  (∀ (s : State) (e rd ra rb pg k : Nat) (imm : BitVec 16) (off : BitVec 8) (t : Task),
    rd < 32 → ra < 32 → rb < 32 → pg < 8 → k < 16 → s.settled = true → (s.engine e).task = some t →
    ∀ p ∈ Claims.ldmAccesses e rd ra rb pg k imm off, s.issues e p.2.2.2.2 = true →
      (s.engine e).permits p.2.2.1 p.2.1 (p.2.2.2.1 (s.engine e)) = false → answers p.1 s (fun u => Claims.faulted e 0 t s u)) ∧
  (∀ (s : State) (e ra b : Nat) (t : Task), ra < 32 → 1 ≤ b → b < 256 → s.settled = true → s.issues e [rS ra] = true →
    (s.engine e).task = some t → 2 ≤ (s.engine e).loops.length → answers (.loop e ra b) s (fun u => Claims.faulted e 1 t s u)) ∧
  (∀ (s : State) (e ra : Nat) (t : Task), ra < 32 → s.settled = true → s.issues e [rS ra] = true → (s.engine e).task = some t →
    t.image.codeWords ≤ ((s.engine e).sreg ra).toNat % 4096 → answers (.jr e ra) s (fun u => Claims.faulted e 2 t s u))

/-- EVENT (R132, R133, R173): an event of a disabled line is counted and recorded; one of an enabled line, the first of its instant, enters the event FIFO of
every enabled pin engine whose mask has the line and whose FIFO has room. Readings it rests on: log entries 33 and 39. -/
def Obligations.EventLineResults : Prop :=
  (∀ (s : State) (t e line ra : Nat), line < 64 → ra < 32 → s.settled = true → s.issues e [rS ra] = true →
    bit (s.act Obj.KN_EVENT_ENABLE) line = false →
    answers (.event t e line ra) s (fun u => effects t [(0x2402, 0)] [.cu] [Obj.KN_EVENTS_SUPPRESSED] s u ∧
      u.reg Obj.KN_EVENTS_SUPPRESSED = (s.reg Obj.KN_EVENTS_SUPPRESSED + 1) % 2 ^ 32 ∧
      Claims.passed [rS ra] (s.engine e) (u.engine e) ∧ (∀ k, k ≠ e → u.engine k = s.engine k))) ∧
  (∀ (s : State) (t e line ra : Nat), line < 64 → ra < 32 → s.settled = true → s.issues e [rS ra] = true →
    bit (s.act Obj.KN_EVENT_ENABLE) line = true → storeFind line s.cu.raised = none →
    (List.range 32).all (fun k => !(s.pinRuns k && bit (s.reg (Obj.PEN_EVENT_MASK k)) line) || Nat.blt (s.pinEngine k).ev.length 8) = true →
    answers (.event t e line ra) s (fun u => effects t [] [.cu, .pins] [Obj.KN_EVENTS_RAISED] s u ∧
      u.reg Obj.KN_EVENTS_RAISED = (s.reg Obj.KN_EVENTS_RAISED + 1) % 2 ^ 64 ∧
      Claims.passed [rS ra] (s.engine e) (u.engine e) ∧ (∀ k, k ≠ e → u.engine k = s.engine k) ∧
      (∀ k, k < 32 → u.pinEngine k = if s.pinRuns k && bit (s.reg (Obj.PEN_EVENT_MASK k)) line then
          { s.pinEngine k with ev := (s.pinEngine k).ev ++ [(eventWord line e (((s.engine e).sreg ra).toNat % 65536), (s.at t).pos32)] }
        else s.pinEngine k)))

/-- Loads and starts (R107, R108, R145, R181, R182): a load brings the image and clears LDM but for the constants; a task placed with it starts; a free engine
takes the first task queued for it, at once where it holds the image and by a load where it does not. The clocks of the halls (R184): an idle hall's stops, a
restarted one runs, and the oldest task that has waited CU_STEAL_WAIT restarts its own hall when no engine of the pool is free. Readings it rests on: log
entry 39. -/
def Obligations.CuratorResults : Prop :=
  (∀ (s : State) (t e k : Nat) (i : Image), e < 128 → s.settled = true → (s.engine e).loading = some (i, none) → i.slot = some k →
    answers (.kernelLoadDone t e) s (fun u => onlyEngine e (s.at t) u ∧
      u.engine e = { s.engine e with image := some i, loading := none, reloaded := true, ldm := (u.engine e).ldm } ∧
      (∀ b, Claims.ldmAt (u.engine e) b =
        if i.u32 0x28 ≤ b ∧ b < i.u32 0x28 + (sliceBytes i.bytes (i.u32 0x20) (i.u32 0x24)).length then
          (sliceBytes i.bytes (i.u32 0x20) (i.u32 0x24)).getD (b - i.u32 0x28) 0
        else if b < i.ldmLimit then 0 else Claims.ldmAt (s.engine e) b))) ∧
  (∀ (s : State) (t e k : Nat) (w : Task) (l : LineRec), e < 128 → s.settled = true → (s.engine e).loading = some (w.image, some w) →
    w.image.slot = some k → s.lineRec w.number = some l →
    answers (.kernelLoadDone t e) s (fun u => onlyEngine e (s.at t) u ∧ (u.engine e).image = some w.image ∧ (u.engine e).loading = none ∧
      Claims.startedTask w (regionParams l.bank (region l.bank w.region)) (w.image.u32 0x1C) (Nat.max s.now t) (u.engine e))) ∧
  (∀ (s : State) (t e k : Nat) (w : Task) (l : LineRec), e < 128 → s.settled = true → s.ready e = true →
    s.cu.waiting.find? (fun x => x.pinned && Nat.beq x.strip e) = some w → (s.engine e).image = some w.image → w.image.slot = some k →
    s.lineRec w.number = some l →
    answers (.taskStart t e) s (fun u => effects t [] [.cu] [] s u ∧ (∀ j, j ≠ e → u.engine j = s.engine j) ∧
      u.cu = { s.cu with waiting := s.cu.waiting.erase w, engines := u.cu.engines } ∧ (u.engine e).image = some w.image ∧
      Claims.startedTask w (regionParams l.bank (region l.bank w.region)) (w.image.u32 0x1C) (Nat.max s.now t) (u.engine e))) ∧
  (∀ (s : State) (t e : Nat) (w : Task), e < 128 → s.settled = true → s.ready e = true →
    s.cu.waiting.find? (fun x => x.pinned && Nat.beq x.strip e) = some w → (s.engine e).image ≠ some w.image →
    answers (.taskStart t e) s (fun u => effects t [] [.cu] [Obj.CU_KERNEL_LOADS] s u ∧ (∀ j, j ≠ e → u.engine j = s.engine j) ∧
      u.cu = { s.cu with waiting := s.cu.waiting.erase w, engines := u.cu.engines } ∧
      u.engine e = { s.engine e with image := none, loading := some (w.image, some w) } ∧
      u.reg Obj.CU_KERNEL_LOADS = (s.reg Obj.CU_KERNEL_LOADS + 1) % 2 ^ 32)) ∧
  (∀ (s : State) (t h : Nat), h < 8 → s.settled = true → (s.hall h).running = true → s.hallIdle h = true →
    (s.hall h).idleFrom + 1000 * s.reg Obj.CU_HALL_IDLE ≤ Nat.max s.now t →
    answers (.hallClockStop t h) s (fun u => effects t [] [.cu] [] s u ∧ u.cu = { s.cu with halls := u.cu.halls } ∧
      ∀ k, u.hall k = if k = h then { s.hall h with running := false } else s.hall k)) ∧
  (∀ (s : State) (t h r : Nat), h < 8 → s.settled = true → (s.hall h).readyAt = some r → r ≤ Nat.max s.now t →
    answers (.hallClockReady t h) s (fun u => effects t [] [.cu] [] s u ∧ u.cu = { s.cu with halls := u.cu.halls } ∧
      ∀ k, u.hall k = if k = h then { running := true, readyAt := none, idleFrom := Nat.max s.now t } else s.hall k)) ∧
  (∀ (s : State) (t : Nat) (w : Task), s.settled = true → s.cu.waiting.find? (fun x => !x.pinned) = some w → w.strip < 128 →
    w.queuedAt + s.reg Obj.CU_STEAL_WAIT ≤ Nat.max s.now t → (List.range 128).any (fun e => s.inPool e && s.ready e) = false →
    (s.hall (w.strip / 16)).running = false → (s.hall (w.strip / 16)).readyAt = none →
    (List.range 16).any (fun i => s.inPool (16 * (w.strip / 16) + i)) = true →
    answers (.stealWaitExpiry t) s (fun u => effects t [] [.cu] [] s u ∧ u.cu = { s.cu with halls := u.cu.halls } ∧
      ∀ k, u.hall k = if k = w.strip / 16 then { s.hall k with readyAt := some (Nat.max s.now t + 2000) } else s.hall k))

/-- The retirement of lines (R190, R191, R196): the oldest line retires when it has no task left and no line before it is still open; past CU_MAX_AGE it retires
with what is left unjudged. Stated for lines without crops. Readings it rests on: log entry 39. -/
def Obligations.LineRetirementResults : Prop :=
  (∀ (s : State) (t : Nat) (l : LineRec) (r : List LineRec), s.settled = true → s.cu.lines = l :: r → s.lineComplete l.number = true →
    s.earlierOpen l.number = false → s.cu.crops = [] → l.requests = [] → l.unjudged = [] →
    answers (.lineRetire t) s (fun u =>
      effects t [] [.cu, .portA, .portB, .rg] [Obj.CU_LINES_RETIRED, Obj.CU_WINDOW_FILL, Obj.CU_STATUS, Obj.FOL_STATUS] s u ∧
      u.reg Obj.CU_LINES_RETIRED = (s.reg Obj.CU_LINES_RETIRED + 1) % 2 ^ 64 ∧
      u.cu.lines = s.cu.lines.filter (fun x => !(Nat.beq x.number l.number)) ∧ u.reg Obj.CU_WINDOW_FILL = u.cu.lines.length % 2 ^ 64 ∧
      u.cu.engines = s.cu.engines ∧ u.cu.waiting = s.cu.waiting)) ∧
  (∀ (s : State) (t : Nat) (l : LineRec) (r : List LineRec), s.settled = true → s.cu.lines = l :: r → s.earlierOpen l.number = false →
    s.cu.crops = [] → l.requests = [] → r = [] → 0 < s.act Obj.CU_MAX_AGE → l.closedAt + 1000 * s.act Obj.CU_MAX_AGE ≤ Nat.max s.now t →
    answers (.lineAgeRetire t) s (fun u =>
      u.cu.lines = [] ∧ u.reg Obj.CU_WINDOW_FILL = 0 ∧ u.reg Obj.CU_LINES_RETIRED = (s.reg Obj.CU_LINES_RETIRED + 1) % 2 ^ 64 ∧
      (∀ w, w ∈ u.cu.waiting → w.number ≠ l.number ∧ w ∈ s.cu.waiting) ∧
      (∀ w, w ∈ s.cu.waiting → w.number ≠ l.number → w ∈ u.cu.waiting) ∧ u.tile = s.tile ∧ u.cat.active = s.cat.active ∧ u.fol = s.fol ∧ u.lt = s.lt))

/-- The encoder (R50, R52, R53): a single edge counts, a change of both inputs is an error, an open pair freezes the count until it is good again. Readings it
rests on: log entry 35. -/
def Obligations.EncoderResults : Prop :=
  (∀ (s : State) (t : Nat) (aLeads : Bool), s.settled = true → s.tile.state ≠ .off → s.tile.state ≠ .rest → s.tile.phase = .none →
    s.posMaster = true → s.lt.frozen = false →
    answers (.encoderEdge t (.single aLeads)) s (fun u => effects t [] [.lt] [] s u ∧
      u.lt = { s.lt with
        count := fromSigned 48 ((s.lt.count : Int) + (if (if s.reg Obj.LT_ENC_DIRECTION = 0 then aLeads else !aLeads) then 1 else -1))
        edges := (⟨Nat.max s.now t, if (if s.reg Obj.LT_ENC_DIRECTION = 0 then aLeads else !aLeads) then 1 else -1⟩ :: s.lt.edges).take 16 })) ∧
  (∀ (s : State) (t : Nat), s.settled = true → s.tile.state ≠ .off → s.tile.state ≠ .rest → s.tile.phase = .none →
    answers (.encoderEdge t .both) s (fun u => effects t [(0x2102, 0)] [] [Obj.LT_ENC_ERRORS] s u ∧
      u.reg Obj.LT_ENC_ERRORS = (s.reg Obj.LT_ENC_ERRORS + 1) % 2 ^ 32)) ∧
  (∀ (s : State) (t : Nat), s.settled = true → s.lt.frozen = false →
    answers (.ltEncFault t) s (fun u => effects t [(0x2104, 0)] [.lt] [Obj.LT_STATUS] s u ∧
      u.lt = { s.lt with frozen := true } ∧ u.reg Obj.LT_STATUS = withBit (s.reg Obj.LT_STATUS) 1 true)) ∧
  (∀ (s : State) (t : Nat), s.settled = true → s.lt.frozen = true →
    answers (.ltPosRestored t) s (fun u => effects t [(0x210C, 0)] [.lt] [Obj.LT_STATUS] s u ∧
      u.lt = { s.lt with frozen := false } ∧ u.reg Obj.LT_STATUS = withBit (s.reg Obj.LT_STATUS) 1 false)) ∧
  (∀ (s : State) (t : Nat), s.settled = true → s.posMaster = true → s.readyOrRunning = true → s.reg Obj.LT_MASTER_MARK = 0 →
    answers (.encZMark t) s (fun u =>
      effects t [] (Claims.maybeEvent ++ [.lt, .portA, .portB])
        [Obj.TW_ALERT_PENDING, Obj.LT_STATUS, Obj.LT_POS_STEPS, Obj.LT_REPEAT_SHORT, Obj.LT_MARK_LATE, Obj.LT_MARKS_IGNORED] s u ∧
      u.lt.marks = (s.lt.marks + 1) % 2 ^ 32 ∧
      (u.lt.markPos : Int) = ((fromSigned 48 ((s.lt.count : Int) - s.stationOffset) : Int) + s.stationOffset) % 2 ^ 48 ∧
      u.lt.sendSeq = (s.lt.sendSeq + 1) % 2 ^ 32 ∧ u.lt.sentAt = some (Nat.max s.now t)))

/-- The position master's role and its tokens (R55, R57, R58): LT_POS_MASTER written, and the token of every LT_POS_PERIOD, which goes out of both ports and which
the master applies itself. The position of a follower (R58, R60, R363): a token of the installation's master sets its model; without tokens it goes into
holdover, and after LT_POS_LOSS the model stops. Readings it rests on: log entry 35. -/
def Obligations.PositionResults : Prop :=
  (∀ (s : State) (t v : Nat) (r : Requester), s.settled = true → v < 2 → s.takesWrite t r Obj.LT_POS_MASTER (leBytes 1 v) = true →
    answers (.ltPosMasterWrite t r v) s (fun u => written t r [] [.lt] [Obj.LT_POS_MASTER, Obj.LT_STATUS] s u ∧
      u.reg Obj.LT_POS_MASTER = v ∧ u.flag Obj.LT_STATUS 0 = (v == 1) ∧
      (v = 1 → s.reg Obj.LT_POS_MASTER ≠ 1 → s.lt.tokenAt = none → u.lt.count = 0 ∧ u.lt.sendSeq = 0))) ∧
  (∀ (s : State) (t : Nat), s.settled = true → s.posMaster = true → s.readyOrRunning = true →
    s.lt.sentAt.all (fun a => Nat.ble (a + s.reg Obj.LT_POS_PERIOD * 1000) (Nat.max s.now t)) = true →
    answers (.positionTokenSend t) s (fun u =>
      effects t [] (Claims.maybeEvent ++ [.lt, .portA, .portB]) [Obj.TW_ALERT_PENDING, Obj.LT_POS_STEPS] s u ∧
      u.lt.model = ⟨countPos s.lt.count, 1000 * ((s.at t).itime : Int), (s.at t).masterSpeed⟩ ∧
      u.lt.sendSeq = (s.lt.sendSeq + 1) % 2 ^ 32 ∧ u.lt.sentAt = some (Nat.max s.now t) ∧ u.lt.tokenAt = some (Nat.max s.now t) ∧
      u.lt.tokenSource = some s.address ∧
      (∀ p, (s.port p).takes = true → Claims.toSend u p
        ((s.at t).newFrame 0xFFF 3 0x31 ((s.at t).positionPayload ((s.lt.sendSeq + 1) % 2 ^ 32) (s.at t).masterSpeed))))) ∧
  (∀ (s : State) (t : Nat) (p : Port) (x : RxFrame), s.settled = true → Claims.arrives s p x = true → (Frame.read x.bytes).vc = 3 →
    (Frame.read x.bytes).type = 0x31 → (Frame.read x.bytes).payload.length = 40 → s.romFault = false → s.posMaster = false →
    (s.lt.tokenSource = none ∨ (s.lt.tokenSource = some (Frame.read x.bytes).source ∧
      1 ≤ (leAt (Frame.read x.bytes).payload 0 4 + 2 ^ 32 - s.lt.tokenSeq % 2 ^ 32) % 2 ^ 32 ∧
      (leAt (Frame.read x.bytes).payload 0 4 + 2 ^ 32 - s.lt.tokenSeq % 2 ^ 32) % 2 ^ 32 < 2 ^ 31)) →
    answers (.positionToken t p x) s (fun u =>
      u.lt.model = ⟨countPos (leAt (Frame.read x.bytes).payload 8 8 % 2 ^ 48), 1000 * (leAt (Frame.read x.bytes).payload 0x10 8 : Int),
        if bit (leAt (Frame.read x.bytes).payload 4 4) 0 then 0 else toSigned 32 (leAt (Frame.read x.bytes).payload 0x18 4)⟩ ∧
      u.lt.tokenAt = some (Nat.max s.now t) ∧ u.lt.tokenSource = some (Frame.read x.bytes).source ∧
      u.lt.tokenSeq = leAt (Frame.read x.bytes).payload 0 4 ∧ u.lt.fresh = false ∧
      u.flag Obj.LT_STATUS 2 = false ∧ u.flag Obj.LT_STATUS 3 = false ∧
      keepsBut ([.now, .lt] ++ Claims.maybeEvent ++ Claims.arrival) s u)) ∧
  (∀ (s : State) (t : Nat), s.settled = true → s.readyOrRunning = true → s.posMaster = false → s.flag Obj.LT_STATUS 2 = false →
    s.posSince + s.reg Obj.LT_POS_HOLDOVER * 1000 ≤ Nat.max s.now t →
    answers (.ltPosHoldover t) s (fun u => effects t [(0x2105, 0)] [] [Obj.LT_STATUS] s u ∧
      u.reg Obj.LT_STATUS = withBit (s.reg Obj.LT_STATUS) 2 true)) ∧
  (∀ (s : State) (t : Nat), s.settled = true → s.readyOrRunning = true → s.posMaster = false → s.posLost = false →
    s.posSince + s.reg Obj.LT_POS_LOSS * 1000 ≤ Nat.max s.now t →
    answers (.ltPosLost t) s (fun u =>
      effects t [] (Claims.maybeEvent ++ [.lt]) [Obj.TW_ALERT_PENDING, Obj.LT_STATUS, Obj.LT_REVERSE_COUNTS] s u ∧
      u.flag Obj.LT_STATUS 3 = true ∧ u.lt.hold = none ∧ u.lt.model = ⟨(s.at t).webPos, (s.at t).itimePs, 0⟩))

/-- A line's trigger (R64, R67, R68): the boundary reached fires, with its number, and the next boundary follows; a held trigger fires at the end of the busy
window. The first clause is stated without a waiting mark, a pending ACCESSION and a due restart of the registration. Readings it rests on: log entries 35 and
37. -/
def Obligations.TriggerResults : Prop :=
  (∀ (s : State) (t : Nat), s.settled = true → s.tile.state = .run → s.tile.stopping = [] → (s.posMaster = true ∨ s.posLost = false) →
    s.lt.origins = [] → s.lt.late = false → s.lt.held = none → s.fol.waiting = none → s.la.restartDue = false → s.lineClockLost = false →
    0 ≤ posDiff (s.at t).webPos s.lt.seenPos → atOrBeyond (s.at t).trigPos (boundaryPos s.lt.cand) = true → s.lt.busyUntil ≤ Nat.max s.now t →
    answers (.lineTrigger t) s (fun u =>
      effects t [] (Claims.maybeEvent ++ [.lt, .la, .fol, .am, .cu])
        [Obj.LT_LINE_COUNT, Obj.LT_REPEAT_INDEX, Obj.LT_REPEAT_LONG, Obj.LT_STATUS, Obj.CU_STATUS, Obj.TW_ALERT_PENDING] s u ∧
      u.reg Obj.LT_LINE_COUNT = (s.reg Obj.LT_LINE_COUNT + 1) % 2 ^ 64 ∧
      u.lt.cand = (s.lt.cand + s.pitch) % 2 ^ 56 ∧ u.lt.high = some s.lt.cand ∧ u.lt.pulses = s.lt.pulses + 1 ∧
      u.lt.busyUntil = Nat.max s.now t + folioBusy s.cat.active ∧
      (∃ f : Flight, u.la.flights = s.la.flights ++ [f] ∧ f.t0 = Nat.max s.now t ∧ f.exposing = false ∧ f.ended = false ∧ f.done = 0 ∧
        f.trig.number = s.reg Obj.LT_LINE_COUNT ∧ f.trig.boundary = s.lt.cand ∧ f.trig.bank = s.cat.active ∧ f.trig.era = s.cu.era ∧
        f.trig.head.kind = 1 ∧ f.trig.head.line = BitVec.ofNat 32 (s.reg Obj.LT_LINE_COUNT) ∧ f.trig.head.holdDelay = 0 ∧
        f.trig.head.repeatIndex = u.lt.lastIndex) ∧
      u.cu.engines = s.cu.engines ∧ u.cu.lines = s.cu.lines ∧ u.cu.waiting = s.cu.waiting)) ∧
  (∀ (s : State) (t : Nat) (g : Trig), s.settled = true → s.lt.held = some g → s.lt.busyUntil ≤ Nat.max s.now t →
    answers (.heldTriggerFire t) s (fun u => effects t [] [.lt, .la, .am] [Obj.FOL_STATUS] s u ∧
      u.lt.held = none ∧ u.lt.busyUntil = s.lt.busyUntil + folioBusy g.bank ∧ u.lt.pulses = s.lt.pulses + 1 ∧
      (∃ f : Flight, u.la.flights = s.la.flights ++ [f] ∧ f.t0 = s.lt.busyUntil ∧ f.trig.number = g.number ∧ f.trig.boundary = g.boundary ∧
        f.trig.bank = g.bank ∧ f.trig.head.flags = Nat.lor g.head.flags flHeld ∧
        f.trig.head.holdDelay = divHalfEvenNat (s.lt.busyUntil - g.arrival) 40)))

/-- The exposure of a line (R33, R39): the long rows start 110 ns after the trigger, the short ones later, and the transfer ends both; only the first line that is
due is touched. Strobe windows (R69, R472): an enabled window of the first line that is due opens, unless PLL-A is lost, and one that has ended closes. A
clause for a condition that does not hold rests on log entry 1 (the model's choice). Readings it rests on: log entries 35 and 37. -/
def Obligations.ExposureAndStrobeResults : Prop :=
  (∀ (s : State) (t : Nat) (f : Flight), s.settled = true →
    s.la.flights.find? (fun x => !x.exposing && Nat.ble (x.t0 + 110) (Nat.max s.now t)) = some f →
    answers (.exposureStart t) s (fun u => effects t [] [.la, .am] [] s u ∧ u.la = s.la.setFlight { f with exposing := true })) ∧
  (∀ (s : State) (t : Nat) (f : Flight), s.settled = true →
    s.la.flights.find? (fun x => x.exposing && !x.shortExposing && anyDual x.trig.bank &&
      Nat.ble (x.t0 + 110 + x.exposure - x.trig.bank.num Obj.PX_EXPOSURE_SHORT) (Nat.max s.now t)) = some f →
    answers (.shortExposureStart t) s (fun u => effects t [] [.la, .am] [] s u ∧ u.la = s.la.setFlight { f with shortExposing := true })) ∧
  (∀ (s : State) (t : Nat) (f : Flight), s.settled = true →
    s.la.flights.find? (fun x => x.exposing && !x.ended && Nat.ble (x.t0 + 110 + x.exposure) (Nat.max s.now t)) = some f →
    answers (.exposureEnd t) s (fun u => effects t [] [.la] [] s u ∧ u.la = s.la.setFlight { f with ended := true })) ∧
  (∀ (s : State) (t x : Nat) (f : Flight), x < 4 → s.settled = true → s.lineClockLost = false →
    s.la.flights.find? (fun g => bit (g.trig.bank.num Obj.LT_STB_ENABLE) x && !(g.strobed.contains x) &&
      Nat.ble (g.t0 + g.trig.bank.num (Obj.LT_STB_START x)) (Nat.max s.now t)) = some f →
    answers (.strobeWindowOpen t x) s (fun u => effects t [] [.la, .lt, .am] [] s u ∧
      u.la = s.la.setFlight { f with strobed := x :: f.strobed } ∧
      u.lt = { s.lt with strobes := (x, f.t0 + f.trig.bank.num (Obj.LT_STB_START x) + f.trig.bank.num (Obj.LT_STB_WIDTH x)) :: s.lt.strobes })) ∧
  (∀ (s : State) (t x : Nat), x < 4 → s.settled = true → s.lineClockLost = true →
    answers (.strobeWindowOpen t x) s (fun u => effects t [] [] [] s u)) ∧
  (∀ (s : State) (t x : Nat), x < 4 → s.settled = true →
    answers (.strobeWindowClose t x) s (fun u => effects t [] [.lt] [] s u ∧
      u.lt = { s.lt with strobes := s.lt.strobes.filter (fun p => !(Nat.beq p.1 x && Nat.ble p.2 (Nat.max s.now t))) }))

/-- Row codes and the close of a line (R83, R85, R86, R93, R102): a row's codes are captured once its slot is ready, and a line with all its rows closes into the
window with its samples and header. The array temperature (R43): IMAGE_TEMP is set above 70 degrees and cleared below 68, each recorded once. Readings it
rests on: log entries 35 and 37. -/
def Obligations.LineResults : Prop :=
  (∀ (s : State) (t slot : Nat) (codes : List (BitVec 12)) (f : Flight), s.settled = true → s.la.converting slot = some f →
    f.calibrates = false → f.t0 + 610 + f.exposure + slot * 125 ≤ Nat.max s.now t → slot < rowCount f.trig.bank →
    answers (.rowCodeReady t slot codes) s (fun u =>
      effects t [] (Claims.maybeEvent ++ [.la]) [Obj.TW_ALERT_PENDING, Obj.LA_CLAMP_FALLBACK, Obj.PX_STATUS, Obj.PX_TEST_COL_ERRORS] s u ∧
      u.la.flights = (s.la.setFlight { f with done := f.done + 1 }).flights ∧
      (∃ c : Capture, u.la.capture f.trig.number = some c ∧
        c.rows.head? = some (f.trig.cal.captureRow f.trig.bank ((enabledRows f.trig.bank).getD slot 0)
          (if (shortRows f.trig.bank).contains ((enabledRows f.trig.bank).getD slot 0) then c.qShort else c.qLong) codes)))) ∧
  (∀ (s : State) (t : Nat) (f : Flight), s.settled = true → s.la.flights.find? (fun x => !x.calibrates) = some f → f.ended = true →
    f.done = rowCount f.trig.bank → f.t0 + 710 + f.exposure + rowCount f.trig.bank * 125 ≤ Nat.max s.now t → s.cu.lines.length < 256 →
    answers (.lineClose t) s (fun u =>
      u.reg Obj.LA_LINES = (s.reg Obj.LA_LINES + 1) % 2 ^ 64 ∧
      u.la.flights = s.la.flights.filter (fun x => !(Nat.beq x.trig.number f.trig.number)) ∧ u.la.captures = s.la.captures ∧
      u.reg Obj.CU_WINDOW_FILL = u.cu.lines.length % 2 ^ 64 ∧
      (∃ l : LineRec, l ∈ u.cu.lines ∧ l.number = f.trig.number ∧ l.closedAt = Nat.max s.now t ∧
        l.head = s.closeHead f.trig (s.lineOut f.trig) ∧
        l.samples = (enabledBands f.trig.bank).map (fun k => handOn f.trig.bank (s.bandOut f.trig k).samples)) ∧
      u.tile = s.tile ∧ u.cat.active = s.cat.active ∧ u.cat.staged = s.cat.staged ∧ u.cat.work = s.cat.work ∧ u.cat.used = s.cat.used ∧ u.lt = s.lt ∧ u.pw = s.pw ∧ u.ck = s.ck)) ∧
  (∀ (s : State) (t : Nat) (temp : Int), s.settled = true → 1120 < temp → s.flag Obj.PX_STATUS 0 = false →
    answers (.pxImageTemp t temp) s (fun u => effects t [(0x2001, 0)] [] [Obj.PX_ARRAY_TEMP, Obj.PX_STATUS] s u ∧
      u.reg Obj.PX_ARRAY_TEMP = fromSigned 16 temp ∧ u.reg Obj.PX_STATUS = withBit (s.reg Obj.PX_STATUS) 0 true)) ∧
  (∀ (s : State) (t : Nat) (temp : Int), s.settled = true → temp < 1088 → s.flag Obj.PX_STATUS 0 = true →
    answers (.pxImageTempClear t temp) s (fun u => effects t [(0x2002, 0)] [] [Obj.PX_ARRAY_TEMP, Obj.PX_STATUS] s u ∧
      u.reg Obj.PX_ARRAY_TEMP = fromSigned 16 temp ∧ u.reg Obj.PX_STATUS = withBit (s.reg Obj.PX_STATUS) 0 false)) ∧
  (∀ (s : State) (t : Nat) (temp : Int), s.settled = true → 1088 ≤ temp → temp ≤ 1120 →
    answers (.pxImageTemp t temp) s (fun u => effects t [] [] [Obj.PX_ARRAY_TEMP] s u ∧ u.reg Obj.PX_ARRAY_TEMP = fromSigned 16 temp) ∧
    answers (.pxImageTempClear t temp) s (fun u => effects t [] [] [Obj.PX_ARRAY_TEMP] s u ∧ u.reg Obj.PX_ARRAY_TEMP = fromSigned 16 temp))

/-- Start-up (R18, R19, R407, R469, R476, R487, R514, R524, R534, R547, R549, R556, R557, R559, R561): a qualified VIN takes OFF to BOOT; an admissible image runs
and takes BOOT to SELFTEST; passed tests take it to CALLOAD; the loaded set takes it to LINKUP with both ports in DETECT. Readings it rests on: log entry 40.
-/
def Obligations.StartUpResults : Prop :=
  (∀ (s : State) (t mV : Nat), s.tile.state = .off → 18000 ≤ mV → mV ≤ 36000 → Claims.nothingTorn s = true →
    answers (.vinQualified t mV) s (fun u => Claims.booted 0 1 (Nat.max s.now t) u ∧ Claims.fixed s u ∧ u.now = Nat.max s.now t ∧
      u.reg Obj.PWR_VIN = mV ∧ u.pw.vin = mV ∧ u.pw.connected = true ∧ u.pw.phase = .disabled ∧ u.tile.onAt = Nat.max s.now t)) ∧
  (∀ (s : State) (t : Nat), s.settled = true → s.tile.state = .boot → s.sec.owner0 ≠ .spent → s.sec.owner1 ≠ .spent →
    (s.sec.slot s.sec.preferred).cause s.sec.fuse = none →
    answers (.bootVerify t) s (fun u => effects t [(0x1703, 0x12)] [.tile, .sec, .ck, .bytes, .version] [Obj.CLK_STATUS, Obj.CLK_C_FREQ] s u ∧
      u.tile = { s.tile with state := .selftest, since := Nat.max s.now t } ∧
      u.sec = { s.sec with running := s.sec.preferred, runs := true } ∧
      u.cat.vol.all Obj.ID_FW_DIGEST = (s.sec.slot s.sec.preferred).digest ∧ u.cat.vol.all Obj.ID_FW_VERSION = (s.sec.slot s.sec.preferred).version ∧
      u.ck.freq = 500000 ∧ u.ck.divider = 8 ∧ u.ck.lost = [] ∧ u.ck.excursion = none ∧ u.reg Obj.CLK_C_FREQ = 500000)) ∧
  (∀ (s : State) (t c : Nat), s.settled = true → s.tile.state = .boot → s.sec.owner0 ≠ .spent → s.sec.owner1 ≠ .spent →
    (s.sec.slot s.sec.preferred).cause s.sec.fuse = some c → (s.sec.slot (1 - s.sec.preferred)).cause s.sec.fuse = none →
    answers (.bootVerify t) s (fun u =>
      effects t [(0x1601, 256 * s.sec.preferred + c), (0x1602, s.sec.preferred), (0x1703, 0x12)] [.tile, .sec, .ck, .bytes, .version]
        [Obj.CLK_STATUS, Obj.CLK_C_FREQ, Obj.SEC_STATUS] s u ∧
      u.tile.state = .selftest ∧ u.sec = { s.sec with running := 1 - s.sec.preferred, runs := true } ∧ u.flag Obj.SEC_STATUS 1 = true)) ∧
  (∀ (s : State) (t : Nat) (r : SelfTestReport), s.settled = true → s.tile.state = .selftest → r.failed = none →
    answers (.selftestDone t r) s (fun u =>
      u.tile = { s.tile with state := .calload, since := Nat.max s.now t, trim := some r } ∧ u.am = { s.am with refAt := some (Nat.max s.now t) } ∧
      u.log.mirror = true ∧ u.flag Obj.EVT_STATUS 1 = true ∧ (∀ a, inMirror a = false → u.archByte a = archiveDefault a) ∧ u.cu.ue = [] ∧
      (r.switched = [] → r.failedChains = [] → u.flag Obj.CAL_STATUS 5 = false) ∧ (r.switched ≠ [] → u.flag Obj.CAL_STATUS 5 = true) ∧
      keepsBut [.now, .tile, .am, .log, .version, .bytes, .archive, .mirror, .moved] s u ∧
      numsBut [Obj.EVT_STATUS, Obj.CAL_STATUS, Obj.TW_ALERT_PENDING] s u)) ∧
  (∀ (s : State) (t : Nat) (a b : MonCal) (g : BitVec 32), s.tile.state = .calload → s.am.refAt.getD 0 + 47000000 ≤ Nat.max s.now t →
    s.cal.generation = some g → s.cal.tornPages g = [] → s.reg Obj.PWR_PATH_STATE ≠ 4 → s.mramBusy = false →
    answers (.calloadDone t a b) s (fun u =>
      u.tile = { s.tile with state := .linkup, since := Nat.max s.now t } ∧ u.cat.used = s.cal.loaded g ∧ u.reg Obj.CAL_GEN = g.toNat ∧
      u.reg Obj.LNK_RING_LENGTH = s.cal.ringWord % 2 ^ 64 ∧ u.reg Obj.AM_REF_BUFFER = 1 ∧
      u.portA.state = .detect ∧ u.portB.state = .detect ∧ u.portA.ceiling = s.reg Obj.LNK_RATE_MAX ∧ u.portB.ceiling = s.reg Obj.LNK_RATE_MAX ∧
      u.reg Obj.LNK_PORT_STATE_A = 1 ∧ u.reg Obj.LNK_PORT_STATE_B = 1 ∧
      u.fol.toLoad = (s.fol.toLoad || s.fol.stored.any (fun d => d.valid && s.kernelsSigned d.bank)) ∧
      u.cat.active = s.cat.active ∧ u.cat.staged = s.cat.staged ∧ u.sec = s.sec ∧ u.lt = s.lt ∧ u.la = s.la ∧ u.ga = s.ga ∧ u.tw = s.tw ∧ u.pins = s.pins ∧
      u.cal.stored = s.cal.stored ∧ u.cal.pages = s.cal.pages ∧ u.cal.recordsPending = false))

/-- FAULT (R289, R534, R547 to R554): where the tile runs, an expired watchdog, a disagreement of the cores, an uncorrectable word, a state beyond its limit, too
high a temperature, a failed self-test and a BOOT without an admissible image take it to FAULT, each with its cause and detail; a corrected word is counted;
RESET takes FAULT to BOOT. Readings it rests on: log entry 40. -/
def Obligations.FaultResults : Prop :=
  (∀ (s : State) (t pc : Nat), s.settled = true → s.ck.waitRef = false → Claims.canFault s = true →
    answers (.coreWatchdogExpiry t pc) s (fun u => Claims.intoFault 6 pc s.tile.state (Nat.max s.now t) s u) ∧
    answers (.lockstepMismatch t pc) s (fun u => Claims.intoFault 7 pc s.tile.state (Nat.max s.now t) s u) ∧
    answers (.coreMemoryError t (some pc)) s (fun u => Claims.intoFault 8 pc s.tile.state (Nat.max s.now t) s u)) ∧
  (∀ (s : State) (t : Nat), s.settled = true → s.coreRuns = true →
    answers (.coreMemoryError t none) s (fun u => effects t [(0x1706, 0)] [] [Obj.EVT_CORE_CE] s u ∧
      u.reg Obj.EVT_CORE_CE = (s.reg Obj.EVT_CORE_CE + 1) % 2 ^ 32)) ∧
  (∀ (s : State) (t n : Nat), s.settled = true → s.ck.waitRef = false → Claims.canFault s = true → stateLimit s.tile.state = some n → n * 1000000 < Nat.max s.now t - s.tile.since →
    (s.tile.state ≠ .calload → answers (.stateTimeout t) s (fun u => Claims.intoFault 9 s.tile.state.code s.tile.state (Nat.max s.now t) s u)) ∧
    (s.tile.state = .calload → answers (.stateTimeout t) s (fun u => Claims.intoFault 9 3 .calload (Nat.max s.now t) s.loadRecords u ∧
      u.lifeVal 0 = BitVec.ofNat 32 (satNat 32 ((s.loadRecords.lifeVal 0).toNat + 1))))) ∧
  (∀ (s : State) (t : Nat) (temp : Int), s.settled = true → s.ck.waitRef = false → Claims.canFault s = true → 2080 ≤ temp →
    answers (.overtempFault t temp) s (fun u => Claims.intoFault 10 (fromSigned 32 temp) s.tile.state (Nat.max s.now t) s u)) ∧
  (∀ (s : State) (t c d : Nat), s.settled = true → s.ck.waitRef = false → s.tile.state = .boot → s.tile.phase = .none → s.sec.owner0 ≠ .spent → s.sec.owner1 ≠ .spent →
    (s.sec.slot s.sec.preferred).cause s.sec.fuse = some c → (s.sec.slot (1 - s.sec.preferred)).cause s.sec.fuse = some d →
    answers (.bootVerify t) s (fun u => Claims.intoFault 1 0 .boot (Nat.max s.now t) s u ∧ u.flag Obj.SEC_STATUS 2 = true)) ∧
  (∀ (s : State) (t n : Nat) (r : SelfTestReport), s.settled = true → s.ck.waitRef = false → s.tile.state = .selftest → s.tile.phase = .none → r.failed = some n →
    n ≤ 4 → answers (.selftestDone t r) s (fun u => Claims.intoFault 2 n .selftest (Nat.max s.now t) s u)) ∧
  (∀ (s : State) (t pc : Nat), s.settled = true → s.tile.state = .fault → s.tile.server = .bootRom → Nat.max s.now t / 2 ≠ s.tile.faultAt / 2 →
    answers (.coreWatchdogExpiry t pc) s (fun u => effects t [(0x1701, 6 * 2 ^ 24 + pc % 2 ^ 24)] [] [] s u) ∧
    answers (.lockstepMismatch t pc) s (fun u => effects t [(0x1701, 7 * 2 ^ 24 + pc % 2 ^ 24)] [] [] s u)) ∧
  (∀ (s : State) (t : Nat) (r : Requester), s.tile.state = .fault → Claims.nothingTorn s = true → s.takesWrite t r Obj.CAT_STATE_REQUEST (leBytes 1 4) = true →
    answers (.reset t r) s (fun u => Claims.booted 15 2 (Nat.max s.now t) u ∧ Claims.fixed s u ∧ u.tile.onAt = s.tile.onAt ∧ u.archive = s.archive))

/-- START and STOP (R21, R64, R289): START takes READY with an Active Folio to RUN on a fresh grid; STOP is accepted in RUN and answered once the last line has
retired, which takes RUN to READY. Readings it rests on: log entry 40. -/
def Obligations.RunResults : Prop :=
  (∀ (s : State) (t : Nat) (r : Requester), s.settled = true → s.ck.waitRef = false → s.tile.state = .ready → s.tile.phase = .none → s.fol.hasActive = true →
    s.fol.computing = false → s.cal.run = none → s.takesWrite t r Obj.CAT_STATE_REQUEST (leBytes 1 1) = true →
    answers (.start t r) s (fun u =>
      written t r [(0x1703, 0x56)] [.tile, .lt, .la, .am, .fol, .cu] (Claims.channelNums ++ [Obj.LT_STATUS]) s u ∧
      u.tile = { s.tile with state := .run, since := Nat.max s.now t, runAt := Nat.max s.now t } ∧ u.la = { s.la with restartDue := true } ∧
      u.fol = { s.fol with lastLine := none } ∧ u.lt.busyUntil = Nat.max s.now t ∧ u.lt.held = none ∧ u.lt.origins = [] ∧ u.lt.high = none ∧
      u.lt.accepted = false ∧ u.lt.inRepeat = false ∧ u.cu.lines = s.cu.lines)) ∧
  (∀ (s : State) (t : Nat) (r : Requester), s.settled = true → s.tile.state = .run → s.takesWrite t r Obj.CAT_STATE_REQUEST (leBytes 1 2) = true →
    answers (.stop t r) s (fun u => effects t [] [.tile, .mailbox] [Obj.CAT_REQUESTS] s u ∧
      u.tile = { s.tile with stopping := s.tile.stopping ++ [r] } ∧ u.reg Obj.CAT_REQUESTS = (s.reg Obj.CAT_REQUESTS + 1) % 2 ^ 64)) ∧
  (∀ (s : State) (t : Nat) (r : Requester), s.settled = true → s.ck.waitRef = false → s.tile.state = .run → s.tile.stopping = [r] → s.linesDone = true →
    (∀ c, (s.gaCtx c).applied.source ≠ 3) → Claims.canAnswer s r = true →
    answers (.stopComplete t) s (fun u =>
      effects t [(0x1703, 0x65)] (pathPieces r ++ [.tile, .am, .cu]) (Claims.channelNums ++ [Obj.TW_ALERT_PENDING]) s u ∧
      u.tile = { s.tile with state := .ready, since := Nat.max s.now t, stopping := [], runPart := s.tile.runPart + (Nat.max s.now t - s.tile.runAt),
                             runAt := Nat.max s.now t }))

/-- REST entered (R21, R323, R324, R350, R480, R483): the request is answered and the drain begins; after 1 ms what the ports still hold is discarded and they are
joined, or the chain's end goes silent; then REST is reached, with Gallery, engines, monitor and PLLs off. Readings it rests on: log entry 41. -/
def Obligations.RestResults : Prop :=
  (∀ (s : State) (t : Nat) (r : Requester), s.settled = true → s.tile.state = .ready → s.tile.phase = .none → s.posMaster = false → s.timeMaster = false →
    s.cal.commit = none → s.cal.run = none → s.portA.rate = s.portB.rate → s.takesWrite t r Obj.CAT_STATE_REQUEST (leBytes 1 3) = true →
    answers (.rest t r) s (fun u => written t r [] [.tile] [] s u ∧ u.tile = { s.tile with phase := .draining, phaseAt := Nat.max s.now t })) ∧
  (∀ (s : State) (t : Nat), s.settled = true → s.tile.phase = .draining → s.tile.phaseAt + 1000000 ≤ Nat.max s.now t →
    s.portA.queue = [] → s.portB.queue = [] → s.rg.waiting = [] → s.portB.everUp = true → s.ck.waitRef = false →
    answers (.restDrainTimeout t) s (fun u => effects t [(0x1209, 0)] [.tile, .portA, .portB, .rg] [Obj.LNK_PORT_STATE_A, Obj.LNK_PORT_STATE_B] s u ∧
      u.tile = { s.tile with phase := .passing } ∧ u.portA.state = .pass ∧ u.portB.state = .pass ∧ u.reg Obj.LNK_PORT_STATE_A = 7 ∧
      u.reg Obj.LNK_PORT_STATE_B = 7 ∧ u.portA.wire = none ∧ u.portB.wire = none)) ∧
  (∀ (s : State) (t : Nat), s.settled = true → s.tile.phase = .draining → s.tile.phaseAt + 1000000 ≤ Nat.max s.now t →
    s.portA.queue = [] → s.portB.queue = [] → s.rg.waiting = [] → s.portB.everUp = false → s.ck.waitRef = false →
    answers (.restDrainTimeout t) s (fun u =>
      effects t [] [.tile, .portA, .portB, .rg, .bytes, .version] [Obj.LNK_PORT_STATE_A, Obj.LNK_PORT_STATE_B] s u ∧
      u.tile = { s.tile with phase := .passing } ∧ u.portA.state = .idleEnd ∧ u.portB.state = .down)) ∧
  (∀ (s : State) (t : Nat), s.settled = true → s.tile.phase = .draining → s.tile.phaseAt + 1000000 ≤ Nat.max s.now t → s.ck.waitRef = false →
    answers (.restDrainTimeout t) s (fun u => u.portA.queue = [] ∧ u.portB.queue = [] ∧ u.rg.waiting = [] ∧ u.rg.onward = none ∧ u.tile.phase = .passing)) ∧
  (∀ (s : State) (t : Nat), s.settled = true → s.tile.state = .ready → s.tile.phase = .passing → s.tw.xfer = none → s.tw.recovering = false →
    answers (.restEntered t) s (fun u =>
      u.tile = { s.tile with state := .rest, since := Nat.max s.now t, phase := .inRest } ∧ u.log.live = false ∧
      u.reg Obj.CLK_REST_COUNT = (s.reg Obj.CLK_REST_COUNT + 1) % 2 ^ 32 ∧ u.cat.transfers = [] ∧ u.reg Obj.CAT_SEG_OPEN = 0 ∧
      u.cu.lines = [] ∧ u.cu.waiting = [] ∧ u.cu.engines = [] ∧ u.cu.halls = [] ∧ u.ga.clock = false ∧ u.am.refAt = none ∧
      u.ck.lost = [] ∧ u.ck.excursion = none ∧ u.reg Obj.CLK_REF_ACTIVE = 0 ∧ u.flag Obj.CLK_STATUS 8 = false ∧
      u.lt.model = ⟨(s.at t).webPos, (s.at t).itimePs, 0⟩ ∧ u.lt.tokenAt = none ∧ u.flag Obj.LNK_STATUS 4 = false ∧
      keepsBut [.now, .tile, .transfers, .bytes, .version, .log, .recs, .mirror, .moved, .lt, .rg, .am, .sec, .ck, .pw, .cu, .ga] s u))

/-- Wakes (R22, R326, R426, R457, R458, R461, R480 to R482): each source wakes a tile in REST under its own code and abandons an entry, and a woken tile comes
back to READY. Stated for the sources whose condition holds; the STRETCH hold ends after 450 us. A clause for a condition that does not hold rests on log
entry 1 (the model's choice). Readings it rests on: log entry 41. -/
def Obligations.WakeResults : Prop :=
  (∀ (s : State) (t : Nat), s.settled = true → s.tile.phase = .inRest →
    answers (.wakeAlertN t) s (fun u => Claims.wakes 7 t [] [] s u) ∧
    (∀ p, answers (.wakeElectricalIdleExit t p) s (fun u => Claims.wakes (1 + p.code) t [] [] s u)) ∧
    (0 < s.reg Obj.CLK_REST_TIMER → s.tile.since + 980000 * s.reg Obj.CLK_REST_TIMER ≤ Nat.max s.now t →
      answers (.restTimerExpiry t) s (fun u => Claims.wakes 8 t [] [] s u)) ∧
    (∀ e, s.tile.state = .rest → answers (.encoderEdge t e) s (fun u => Claims.wakes 3 t [] [] s u)) ∧
    (∀ (pin : Nat) (rising : Bool), pin < 256 → bit (s.pinCfg pin) 6 = true → decide (rising ≠ cfgInvert (s.pinCfg pin)) = !(bit (s.pinCfg pin) 5) →
      answers (.wakePinEdge t pin rising) s (fun u => Claims.wakes 4 t [.pins] [] s u ∧ u.pins = { s.pins with pads := storeInsert pin rising s.pins.pads })) ∧
    (∀ (p : TwPort) (addr : Nat), addr < 128 → s.reg (Obj.TW_REST_MODE p.code) = 0 → addr ≠ 0x0C → s.twAnswers p addr = true → (s.tw.target p).woke = false →
      answers (.restAddressMatch t p addr) s (fun u => Claims.wakes (5 + p.code) t [.tw] [Obj.TW_REST_WAKES p.code] s u ∧
        u.tw = s.tw.setTarget p { s.tw.target p with woke := true } ∧
        u.reg (Obj.TW_REST_WAKES p.code) = (s.reg (Obj.TW_REST_WAKES p.code) + 1) % 2 ^ 32))) ∧
  (∀ (s : State) (t : Nat), s.settled = true → (s.tile.phase = .draining ∨ s.tile.phase = .passing) → Claims.linkAwake s →
    answers (.wakeAlertN t) s (fun u => Claims.abandons 7 t [] [] s u) ∧
    (∀ p, answers (.wakeElectricalIdleExit t p) s (fun u => Claims.abandons (1 + p.code) t [] [] s u))) ∧
  (∀ (s : State) (t : Nat), s.settled = true → s.tile.phase = .none →
    answers (.wakeAlertN t) s (fun u => effects t [] [] [] s u) ∧
    (∀ (pin : Nat) (rising : Bool), pin < 256 → answers (.wakePinEdge t pin rising) s (fun u => effects t [] [.pins] [] s u ∧
      u.pins = { s.pins with pads := storeInsert pin rising s.pins.pads }))) ∧
  (∀ (s : State) (t : Nat) (p : TwPort) (h : Nat), s.settled = true → (s.tw.target p).holdSince = some h → h + 450000 ≤ Nat.max s.now t →
    answers (.stretchExpired t p) s (fun u => effects t [(0x2907, 0)] [.tw] [Obj.TW_STRETCH_MAX p.code] s u ∧
      u.tw = s.tw.setTarget p { s.tw.target p with holdSince := none } ∧
      u.reg (Obj.TW_STRETCH_MAX p.code) = Nat.max (s.reg (Obj.TW_STRETCH_MAX p.code)) (Nat.min 65535 ((Nat.max s.now t - h) / 1000)))) ∧
  (∀ (s : State) (t : Nat), s.settled = true → s.tile.state = .rest → s.tile.phase = .waking → s.log.live = false → s.isUp .a = false →
    answers (.wakeComplete t) s (fun u =>
      u.tile = { s.tile with state := .ready, since := Nat.max s.now t, readyAt := Nat.max s.now t, phase := .none } ∧
      u.log.live = true ∧ u.log.held = [] ∧ (∀ h, h < 8 → (u.hall h).running = true ∧ (u.hall h).idleFrom = Nat.max s.now t) ∧
      u.ck.freq = 500000 ∧ u.ck.divider = 8 ∧ u.ck.lost = [] ∧ u.ck.waitRef = Nat.beq (s.reg Obj.CLK_REF_SEL) 1 ∧
      (s.tw.a.woke = true → u.tw.a.woke = false) ∧ u.tw.a.holdSince = none ∧ u.tw.b.holdSince = none ∧
      (∀ p, (s.port p).state = .pass ∨ (s.port p).state = .idleEnd → (u.port p).state = .recovery) ∧
      (∀ p, (s.port p).state ≠ .pass → (s.port p).state ≠ .idleEnd → u.port p = s.port p) ∧
      u.cat.active = s.cat.active ∧ u.cat.staged = s.cat.staged ∧ u.cat.work = s.cat.work ∧ u.cat.used = s.cat.used ∧ u.fol = s.fol ∧ u.lt = s.lt ∧ u.sec = s.sec))

/-- Sealing and its reverse (R236 to R241): a seal whose checks pass leaves the Staged Folio sealing, a failed one records the check; the digests make it sealed;
UNSEAL opens it again; COPY takes the Active values. The first two clauses are stated without an open transfer. Readings it rests on: log entry 36. -/
def Obligations.SealResults : Prop :=
  (∀ (s : State) (t v : Nat) (r : Requester), s.settled = true → s.takesWrite t r Obj.CAT_FOLIO_SEAL (leBytes 1 v) = true → s.sealRefusal = none →
    s.cat.transfers = [] → s.cat.long = none →
    answers (.catFolioSeal t r v) s (fun u => written t r [] [.fol] [Obj.FOL_STATUS, Obj.CAT_SEG_OPEN] s u ∧
      u.fol = { s.fol with staging := .sealing, since := Nat.max s.now t } ∧ u.flag Obj.FOL_STATUS 1 = true ∧ u.flag Obj.FOL_STATUS 0 = false)) ∧
  (∀ (s : State) (t v c p : Nat) (r : Requester), s.settled = true → s.takesWrite t r Obj.CAT_FOLIO_SEAL (leBytes 1 v) = true → s.sealRefusal = some (c, p) →
    s.cat.long = none →
    answers (.catFolioSeal t r v) s (fun u => Claims.refusedWith t r Obj.CAT_FOLIO_SEAL .range [(c, p)] s u)) ∧
  (∀ (s : State) (t : Nat), s.settled = true → s.fol.staging = .sealing →
    answers (.folSealed t) s (fun u => effects t [(0x1101, 0)] [.fol, .bytes, .version] [Obj.FOL_STATUS, Obj.FOL_SEAL_PROGRESS] s u ∧
      u.fol = { s.fol with staging := .sealed } ∧ u.flag Obj.FOL_STATUS 0 = true ∧ u.reg Obj.FOL_SEAL_PROGRESS = 100 ∧
      u.cat.vol.all Obj.FOL_STAGED_OBJ_DIGEST = sm3 (objectStream s.cat.staged) ∧
      u.cat.vol.all Obj.FOL_STAGED_REF_DIGEST = sm3 (s.archRead s.stagedSlot (refExtent s.cat.staged)) ∧
      u.cat.vol.all Obj.FOL_STAGED_DIGEST =
        sm3 (u.cat.vol.all Obj.FOL_STAGED_OBJ_DIGEST ++ u.cat.vol.all Obj.FOL_STAGED_REF_DIGEST))) ∧
  (∀ (s : State) (t v : Nat) (r : Requester), s.settled = true → s.takesWrite t r Obj.CAT_FOLIO_UNSEAL (leBytes 1 v) = true → s.fol.staging ≠ .opened →
    s.oldLines = false → (s.fol.waiting = none ∨ s.flag Obj.FOL_STATUS 8 = false) →
    answers (.catFolioUnseal t r v) s (fun u => written t r [] [.fol, .bytes, .version] [Obj.FOL_STATUS, Obj.FOL_SEAL_PROGRESS] s u ∧
      u.fol = { s.fol with staging := .opened } ∧ u.reg Obj.FOL_SEAL_PROGRESS = 0 ∧ u.flag Obj.FOL_STATUS 0 = false ∧
      u.cat.vol.all Obj.FOL_STAGED_DIGEST = zeros 32 ∧ u.cat.vol.all Obj.FOL_STAGED_OBJ_DIGEST = zeros 32 ∧ u.cat.vol.all Obj.FOL_STAGED_REF_DIGEST = zeros 32)) ∧
  (∀ (s : State) (t v : Nat) (r : Requester), s.settled = true → s.takesWrite t r Obj.CAT_FOLIO_COPY (leBytes 1 v) = true → s.fol.hasActive = true →
    s.fol.staging = .opened →
    answers (.catFolioCopy t r v) s (fun u => written t r [] [.staged, .version] [] s u ∧ u.cat.staged.nums = s.cat.active.nums ∧
      (∀ x, x ∈ Obj.folio → u.cat.staged.value x.1 x.2 = s.cat.active.value x.1 x.2)))

/-- ACCESSION (R242 to R248): a well-formed token with a new ACC_ID is kept as pending, or switches at once in READY with FLAGS 1; one that is not well-formed is
refused; at the position, a Folio that passes the test of R244 becomes Active and any other is missed with its cause. Stated for READY. Readings it rests on:
log entry 36. -/
def Obligations.AccessionResults : Prop :=
  (∀ (s : State) (t : Nat) (p : Port) (x : RxFrame) (l : List Byte), s.settled = true → s.tile.state = .ready → Claims.arrives s p x = true →
    (Frame.read x.bytes).vc = 3 → (Frame.read x.bytes).type = 0x32 → (Frame.read x.bytes).payload = l → Claims.wellAnnounced l 0 →
    s.fol.lastAcc ≠ some (BitVec.ofNat 32 (leAt l 0 4)) → s.fol.waiting = none →
    answers (.accession t p x) s (fun u =>
      effects t [] (.fol :: Claims.arrival) [Obj.FOL_STATUS, Obj.FOL_ACC_PENDING_POS, Obj.FOL_ACC_LAST_ID] s u ∧
      u.fol = { s.fol with lastAcc := some (BitVec.ofNat 32 (leAt l 0 4)), waiting := some (Claims.announced l) } ∧
      u.reg Obj.FOL_ACC_LAST_ID = leAt l 0 4 ∧ u.reg Obj.FOL_ACC_PENDING_POS = leAt l 8 8 ∧ u.flag Obj.FOL_STATUS 2 = true ∧
      u.flag Obj.FOL_STATUS 8 = (s.accFails (Claims.announced l)).isNone)) ∧
  (∀ (s : State) (t : Nat) (p : Port) (x : RxFrame) (l : List Byte), s.settled = true → s.tile.state = .ready → Claims.arrives s p x = true →
    (Frame.read x.bytes).vc = 3 → (Frame.read x.bytes).type = 0x32 → (Frame.read x.bytes).payload = l → Claims.wellAnnounced l 1 →
    s.fol.lastAcc ≠ some (BitVec.ofNat 32 (leAt l 0 4)) → s.fol.waiting = none → s.accFails (Claims.announced l) = none →
    answers (.accession t p x) s (fun u =>
      effects t [(0x1103, leAt l 4 4)] (Claims.switchPieces ++ Claims.arrival) Claims.switchNums s u ∧ Claims.exchanged s u ∧
      u.fol.lastAcc = some (BitVec.ofNat 32 (leAt l 0 4)) ∧ Claims.counts 32 Obj.FOL_ACC_DONE s u)) ∧
  (∀ (s : State) (t : Nat) (p : Port) (x : RxFrame), s.settled = true → s.tile.state = .ready → Claims.arrives s p x = true →
    (Frame.read x.bytes).vc = 3 → (Frame.read x.bytes).type = 0x32 → (Frame.read x.bytes).payload.length ≠ 40 →
    answers (.accession t p x) s (fun u => effects t [(0x1106, 0)] Claims.arrival [Obj.FOL_ACC_REFUSED] s u ∧ Claims.counts 32 Obj.FOL_ACC_REFUSED s u)) ∧
  (∀ (s : State) (t : Nat) (a : PendingAcc), s.settled = true → s.tile.state = .ready → s.fol.waiting = some a →
    atOrBeyond (s.at t).station (countPos a.pos) = true → s.accFails a = none →
    answers (.accessionSwitchReady t) s (fun u => effects t [(0x1103, a.folio)] Claims.switchPieces Claims.switchNums s u ∧ Claims.exchanged s u ∧
      Claims.counts 32 Obj.FOL_ACC_DONE s u ∧ u.flag Obj.FOL_STATUS 2 = false ∧ u.flag Obj.FOL_STATUS 3 = false)) ∧
  (∀ (s : State) (t c : Nat) (a : PendingAcc), s.settled = true → s.tile.state = .ready → s.fol.waiting = some a →
    atOrBeyond (s.at t).station (countPos a.pos) = true → s.accFails a = some c →
    answers (.accessionSwitchReady t) s (fun u =>
      effects t [(0x1104, c * 2 ^ 28 + a.accId.toNat % 2 ^ 28)] [.fol] [Obj.FOL_STATUS, Obj.FOL_ACC_PENDING_POS, Obj.FOL_ACC_MISSED, Obj.FOL_ACC_MISSED_CAUSE] s u ∧
      u.fol = { s.fol with waiting := none } ∧ Claims.counts 32 Obj.FOL_ACC_MISSED s u ∧ u.reg Obj.FOL_ACC_MISSED_CAUSE = c % 2 ^ 64 ∧
      u.flag Obj.FOL_STATUS 3 = true))

/-- Beacons and quotes (R251 to R255): within 20 us of its instant the tile sends one beacon; a nonce takes the quote's fields, and the signed quote holds them
before its 64 signature bytes, whose values are free. Readings it rests on: log entry 36. The signature is free: log entry 24. -/
def Obligations.ProvenanceResults : Prop :=
  (∀ (s : State) (t i : Nat), s.settled = true → s.readyOrRunning = true → s.positioned = true → s.isUp .a = true → s.isUp .b = true →
    (s.at t).beaconInstant (s.at t).itime = some i → (s.at t).itime ≤ i + 20000 → s.fol.beaconAt ≠ some i →
    answers (.beacon t) s (fun u => effects t [] [.fol, .portA, .portB] [Obj.FOL_BEACON_SEQ] s u ∧ u.fol = { s.fol with beaconAt := some i } ∧
      Claims.counts 32 Obj.FOL_BEACON_SEQ s u ∧
      Claims.toSend u s.homePort
        ((s.at t).newFrame (s.address / 64 * 64) 3 0x33 ((s.at t).beaconPayload ((s.reg Obj.FOL_BEACON_SEQ + 1) % 2 ^ 32) i)))) ∧
  (∀ (s : State) (t : Nat) (r : Requester) (n : List Byte), s.settled = true → s.readyOrRunning = true → s.takesWrite t r Obj.FOL_QUOTE_NONCE n = true →
    s.fol.quoting = none → n.length = 32 →
    answers (.folQuoteNonce t r n) s (fun u => written t r [] [.fol, .bytes, .version] [Obj.FOL_STATUS] s u ∧
      u.fol = { s.fol with quoting := some ((s.at t).quoteFields n) } ∧ u.flag Obj.FOL_STATUS 5 = true)) ∧
  (∀ (s : State) (t : Nat) (q : List Byte), s.settled = true → s.fol.quoting = some q → q.length = 176 →
    answers (.quoteSigned t) s (fun u => effects t [] [.fol, .bytes, .version, .free] [Obj.FOL_STATUS] s u ∧ u.fol = { s.fol with quoting := none } ∧
      (u.cat.vol.all Obj.FOL_QUOTE).take 176 = q ∧ (u.cat.vol.all Obj.FOL_QUOTE).length = 240 ∧ u.flag Obj.FOL_STATUS 5 = false ∧ u.free = s.free + 1))

/-- The resume Folio (R256 to R258, R270, R522): a save begins as a long operation and its end stores the Active Folio; CLEAR forgets it; the digests of a resumed
Folio complete. Stated with the hold-up energy that R522 asks for. Readings it rests on: log entry 36. -/
def Obligations.ResumeResults : Prop :=
  (∀ (s : State) (t v : Nat) (r : Requester), s.settled = true → s.takesWrite t r Obj.CAT_FOLIO_SAVE_RESUME (leBytes 1 v) = true → s.fol.hasActive = true →
    (objectStream s.cat.active).length ≤ 4194304 → 800 ≤ s.reg Obj.PWR_HOLDUP_ENERGY →
    answers (.catFolioSaveResume t r v) s (fun u => effects t [] [.fol, .long, .mailbox] [Obj.CAT_REQUESTS] s u ∧
      (∃ d : ResumeFolio, u.fol = { s.fol with saving := some d } ∧ d.bank = s.cat.active ∧ d.number = s.cat.active.num Obj.FOL_NUMBER ∧ d.valid = true ∧
        d.digest = s.cat.vol.all Obj.FOL_ACTIVE_DIGEST ∧ d.objDigest = s.cat.vol.all Obj.FOL_ACTIVE_OBJ_DIGEST) ∧
      (∃ x : LongRun, u.cat.long = some x ∧ x.op = .saveResume ∧ x.sender.path = r.path ∧ x.started = Nat.max s.now t))) ∧
  (∀ (s : State) (t : Nat) (x : LongRun) (d : ResumeFolio), s.settled = true → s.cat.long = some x → x.op = .saveResume → x.id = Obj.CAT_FOLIO_SAVE_RESUME →
    x.rtype = 2 → s.fol.saving = some d → Claims.canAnswer s x.sender = true →
    answers (.folResumeSaved t) s (fun u =>
      effects t [(0x1107, 0)] (pathPieces x.sender ++ [.fol, .long, .bytes, .version]) [Obj.FOL_RESUME_NUMBER, Obj.FOL_STATUS, Obj.TW_ALERT_PENDING] s u ∧
      u.fol = { s.fol with stored := some d, saving := none } ∧ u.cat.long = none ∧ u.reg Obj.FOL_RESUME_NUMBER = d.number % 2 ^ 64 ∧
      u.cat.vol.all Obj.FOL_RESUME_DIGEST = d.digest ∧ u.flag Obj.FOL_STATUS 7 = true)) ∧
  (∀ (s : State) (t v : Nat) (r : Requester), s.settled = true → s.takesWrite t r Obj.CAT_FOLIO_CLEAR_RESUME (leBytes 1 v) = true →
    answers (.catFolioClearResume t r v) s (fun u => written t r [] [.fol, .bytes, .version] [Obj.FOL_RESUME_NUMBER, Obj.FOL_STATUS] s u ∧
      u.fol = { s.fol with stored := none, toLoad := false } ∧ u.reg Obj.FOL_RESUME_NUMBER = 0 ∧ u.cat.vol.all Obj.FOL_RESUME_DIGEST = zeros 32 ∧
      u.flag Obj.FOL_STATUS 7 = false)) ∧
  (∀ (s : State) (t : Nat), s.settled = true → s.fol.computing = true →
    answers (.resumeDigestDone t) s (fun u => effects t [] [.fol, .bytes, .version] [Obj.FOL_STATUS] s u ∧ u.fol = { s.fol with computing := false } ∧
      u.cat.vol.all Obj.FOL_ACTIVE_REF_DIGEST = sm3 (s.archRead s.activeSlot (refExtent s.cat.active)) ∧
      u.cat.vol.all Obj.FOL_ACTIVE_DIGEST = sm3 (sm3 (objectStream s.cat.active) ++ sm3 (s.archRead s.activeSlot (refExtent s.cat.active))))) 

/-- Reads (R267, R273, R276, R277, R280, R281): a GET that passes the tests answers the value, a GET-SEG its part from the offset, a LIST its entries; nothing but
the answer and its count changes. Readings it rests on: log entry 44. -/
def Obligations.ReadResults : Prop :=
  (∀ (s : State) (t id : Nat) (r : Requester) (row : ObjRow), s.settled = true → s.hearsRequest r = true → r.word = 0 → id < 2 ^ 24 → id % 256 ≠ 0 →
    s.reach false false id = .ok row → s.admits false id = true → s.readBusy id = false → id ≠ Obj.SEC_AUTH_CHALLENGE → id / 65536 ≠ 0x28 →
    ((s.at t).presented r 1 (getPayload id)).objLen row id false ≤ r.valueLimit →
    answers (.get t r (getPayload id)) s (fun u => written t r [] [] [] s u ∧
      Claims.answered r (Answer.payload
        { status := .ok, rtype := 1, id := id, bytes := ((s.at t).presented r 1 (getPayload id)).objBytes row id false
          version := (s.objVersion row id false).toNat, total := ((s.at t).presented r 1 (getPayload id)).objLen row id false }) s u)) ∧
  (∀ (s : State) (t id n : Nat) (r : Requester) (row : ObjRow), s.settled = true → s.hearsRequest r = true → n < 2 ^ 32 → id < 2 ^ 24 → id % 256 ≠ 0 →
    s.reach false true id = .ok row → s.admits false id = true → s.readBusy id = false → id ≠ Obj.SEC_AUTH_CHALLENGE → id / 65536 ≠ 0x28 →
    r.word ≤ ((s.at t).presented r 3 (Claims.getSegPayload id n)).objLen row id false →
    answers (.getSeg t r (Claims.getSegPayload id n)) s (fun u => written t r [] [] [] s u ∧
      (∃ a : Answer, Claims.answered r a.payload s u ∧ a.status = .ok ∧ a.rtype = 3 ∧ a.id = id ∧
        a.bytes = ((s.at t).presented r 3 (Claims.getSegPayload id n)).objPart row id false r.word (Nat.min n r.valueLimit) ∧
        a.total = ((s.at t).presented r 3 (Claims.getSegPayload id n)).objLen row id false ∧ a.last = Nat.beq (r.word + a.bytes.length) a.total))) ∧
  (∀ (s : State) (t id n : Nat) (r : Requester), s.settled = true → s.hearsRequest r = true → r.word = 0 → n < 2 ^ 16 → id < 2 ^ 24 →
    s.admits false id = true →
    answers (.list t r (Claims.listPayload id n)) s (fun u => written t r [] [] [] s u ∧
      (∃ a : Answer, Claims.answered r a.payload s u ∧ a.status = .ok ∧ a.rtype = 5 ∧ a.id = id ∧ a.total = 1088 ∧
        leAt a.bytes 4 2 = ((s.listed.filter (fun x => Nat.ble (if id % 256 = 0 then id + 1 else id) x.1)).take
          (if n = 0 then listLimit r false else Nat.min n (listLimit r false))).length)))

/-- Writes (R234, R264, R267, R272, R275 to R279): a write of a plain object of PX, LA or CU that passes the tests stores the value in the bank of its access
class, by SET and by the general write alike; a first segment opens a transfer, which CAT_SEG_TIMEOUT later is given up. Readings it rests on: log entry 44.
-/
def Obligations.WriteResults : Prop :=
  (∀ (s : State) (t id : Nat) (r : Requester) (row : ObjRow) (l : List Byte), s.settled = true → s.takesWrite t r id l = true → Obj.find id = some row →
    (id / 65536 = 0x20 ∨ id / 65536 = 0x22 ∨ id / 65536 = 0x23) → row.access ≠ .wo →
    (∀ c, (c = .set t r (setPayload id l) ∨ c = .registerWrite t r id l) →
      answers c s (fun u => written t r [] (Claims.bankPieces row) [id] s u ∧ (bankOf row.access true u).value id row = l))) ∧
  (∀ (s : State) (t id : Nat) (r : Requester) (row : ObjRow) (l : List Byte), s.settled = true → s.hearsRequest r = true → r.word = 0 → id < 2 ^ 24 →
    s.descriptor true id = false → s.reach true true id = .ok row → s.writeBarred r row id l = none → s.ownBusy row id l false = false → id ≠ Obj.SEC_FW_IMAGE →
    (∀ x ∈ s.cat.transfers, ¬ (x.id = id ∧ x.staged = toStaged row)) → s.cat.transfers.length < 8 → l.length ≤ row.maxLen → l.length % 4 = 0 → l.length ≤ 212 →
    answers (.setSeg t r (segPayload id totalOpen false l)) s (fun u => written t r [] [.transfers] [Obj.CAT_SEG_OPEN] s u ∧
      (∃ x : Transfer, u.cat.transfers = s.cat.transfers ++ [x] ∧ x.id = id ∧ x.staged = toStaged row ∧ x.data = l ∧ x.source = originOf r ∧
        x.lastAt = Nat.max s.now t) ∧ u.reg Obj.CAT_SEG_OPEN = s.cat.transfers.length + 1)) ∧
  (∀ (s : State) (t : Nat) (x : Transfer), s.settled = true → s.cat.transfers = [x] → x.id ≠ Obj.SEC_FW_IMAGE →
    x.lastAt + 1000000 * s.reg Obj.CAT_SEG_TIMEOUT ≤ Nat.max s.now t →
    answers (.catSegAbandoned t) s (fun u =>
      effects t [(0x1110, 256 * x.id + b2n x.staged)] [.transfers] [Obj.CAT_SEG_OPEN, Obj.CAT_SEG_ABANDONED] s u ∧ u.cat.transfers = [] ∧
      u.reg Obj.CAT_SEG_OPEN = 0 ∧ Claims.counts 32 Obj.CAT_SEG_ABANDONED s u))

/-- Long operations and kernels (R139, R140, R270): a kernel that passes every check is stored in the Staged Folio, one that fails is recorded with the check; the
long operation that runs ends, here the checks of a seal. Readings it rests on: log entry 44. -/
def Obligations.LongOperationResults : Prop :=
  (∀ (s : State) (t k : Nat) (r : Requester) (l : List Byte), s.settled = true → k < 16 → s.takesWrite t r (Obj.KN_KERNEL k) l = true → s.kernelCheck l = none →
    s.cat.long = none →
    answers (.kernelBlobWrite t r k l) s (fun u => written t r [] [.staged, .version] [] s u ∧ u.cat.staged.all (Obj.KN_KERNEL k) = l ∧
      u.cat.staged.nums = s.cat.staged.nums)) ∧
  (∀ (s : State) (t k c : Nat) (st : Status) (r : Requester) (l : List Byte), s.settled = true → k < 16 → s.takesWrite t r (Obj.KN_KERNEL k) l = true →
    s.kernelCheck l = some (c, st) → s.cat.long = none →
    answers (.kernelBlobWrite t r k l) s (fun u => Claims.refusedWith t r (Obj.KN_KERNEL k) st [(0x2315, 256 * Obj.KN_KERNEL k + c)] s u)) ∧
  (∀ (s : State) (t : Nat) (x : LongRun), s.settled = true → s.cat.long = some x → x.op = .sealChecks → x.id = Obj.CAT_FOLIO_SEAL → x.rtype = 2 →
    s.sealRefusal = none → s.cat.transfers = [] → Claims.canAnswer s x.sender = true →
    answers (.longOperationDone t) s (fun u =>
      effects t [] (pathPieces x.sender ++ [.fol, .long]) [Obj.FOL_STATUS, Obj.CAT_SEG_OPEN, Obj.TW_ALERT_PENDING] s u ∧
      u.cat.long = none ∧ u.fol = { s.fol with staging := .sealing, since := Nat.max s.now t }))

/-- The mailbox (R282 to R287): bytes written from the pointer on are kept, EXECUTE queues a request or rejects it for its head, the request is served in its
turn, and a read moves the pointer. Stated for an address that the port answers. Readings it rests on: log entry 44. -/
def Obligations.MailboxResults : Prop :=
  (∀ (s : State) (t a p : Nat) (l : List Byte), s.settled = true → a < 128 → s.twServes = true → s.twAnswers .i2cb a = true → (s.tw.target .i2cb).holdSince = none →
    s.cat.mbState ≠ .busy → 16 ≤ p → p + l.length ≤ 256 →
    answers (.i2cbWriteTransfer t a (BitVec.ofNat 8 p :: l)) s (fun u => effects t [] [.mailbox] [Obj.TW_TRANSFERS 1] s u ∧ u.cat.mbPointer = (p + l.length) % 256 ∧
      u.cat.mbState = s.cat.mbState ∧ (∀ k, k < l.length → u.mbByte (p + k) = l.getD k 0) ∧ (∀ k, k < p ∨ p + l.length ≤ k → u.mbByte k = s.mbByte k))) ∧
  (∀ (s : State) (t a n : Nat), s.settled = true → a < 128 → s.twServes = true → s.twAnswers .i2cb a = true → (s.tw.target .i2cb).holdSince = none →
    answers (.i2cbReadTransfer t a n) s (fun u => effects t [] [.mailbox] [Obj.TW_TRANSFERS 1] s u ∧ u.cat.mbPointer = (s.cat.mbPointer + n) % 256 ∧
      (∀ k, u.mbByte k = s.mbByte k))) ∧
  (∀ (s : State) (t : Nat), s.settled = true → s.cat.mbState ≠ .busy → s.tile.state ≠ .off → s.tile.state ≠ .boot → s.cat.queue.length < 32 →
    1 ≤ s.mbRequest.1 → s.mbRequest.1 ≤ 5 → leNat [s.mbByte 0x12, s.mbByte 0x13] ≤ 232 → leNat [s.mbByte 0x12, s.mbByte 0x13] % 4 = 0 →
    answers (.execute t) s (fun u => effects t [] [.mailbox, .queue] [] s u ∧ u.cat.mbState = .busy ∧ u.cat.queue = s.cat.queue ++ [s.mbRequest.2])) ∧
  (∀ (s : State) (t : Nat), s.settled = true → s.cat.mbState ≠ .busy → s.tile.state ≠ .off → s.tile.state ≠ .boot → s.mbRequest.1 = 0 →
    answers (.execute t) s (fun u => effects t [(0x1112, 0)] [.mailbox] [Obj.CAT_MB_REJECTED, Obj.TW_ALERT_PENDING] s u ∧ u.cat.mbState = .rejected ∧
      u.cat.mbSeq = s.cat.mbSeq + 1 ∧ Claims.counts 32 Obj.CAT_MB_REJECTED s u)) ∧
  (∀ (s : State) (t id n : Nat) (q : Request), s.settled = true → s.tile.state ≠ .rest → s.cat.mbState = .busy → s.cat.queue = [q] →
    q.sender.path = .i2cb → q.op = .list id false false false n → s.admits false id = true →
    answers (.mailboxDone t) s (fun u => effects t [] [.mailbox, .queue] [Obj.CAT_REQUESTS, Obj.TW_ALERT_PENDING] s u ∧ u.cat.queue = [] ∧
      u.cat.mbState = .done ∧ u.cat.mbSeq = s.cat.mbSeq + 1 ∧ u.flag Obj.TW_ALERT_PENDING 0 = true ∧ Claims.counts 64 Obj.CAT_REQUESTS s u))

/-- The Archive (R215, R222, R223, R227 to R230): a bulk write stores its bytes in the Staged slot and is acknowledged if it asks; a bulk read is queued and sent
in frames; a slot clear fills its extent with 0xFF; a patrol pass counts what it corrects. The reads are stated without uncorrectable words. Readings it rests
on: log entry 44. -/
def Obligations.ArchiveResults : Prop :=
  (∀ (s : State) (t v : Nat) (r : Requester), s.settled = true → s.takesWrite t r Obj.VA_SLOT_CLEAR (leBytes 1 v) = true →
    answers (.vaSlotClear t r v) s (fun u => written t r [] [.cu] [Obj.VA_SLOT_STATUS] s u ∧ u.reg Obj.VA_SLOT_STATUS = 1 ∧
      u.cu = { s.cu with clear := some ⟨!s.cu.slotB, refExtent s.cat.staged, Nat.max s.now t⟩ })) ∧
  (∀ (s : State) (t : Nat) (c : SlotClear), s.settled = true → s.cu.clear = some c → c.extent ≤ slotBytes →
    answers (.slotClearDone t) s (fun u => effects t [] [.cu, .moved, .archive] [Obj.VA_SLOT_STATUS] s u ∧ u.reg Obj.VA_SLOT_STATUS = 0 ∧
      u.cu = { s.cu with clear := none, moved := u.cu.moved, ue := u.cu.ue } ∧
      (∀ a, u.archByte a = if slotBase c.slot ≤ a ∧ a < slotBase c.slot + c.extent then 0xFF else s.archByte a))) ∧
  (∀ (s : State) (t ce : Nat), s.settled = true → s.readyOrRunning = true → s.cu.ue = [] →
    answers (.patrolScrubPass t ce []) s (fun u => effects t [] [] [Obj.VA_ARCH_CE, Obj.VA_SCRUB_PASSES] s u ∧
      u.reg Obj.VA_ARCH_CE = (s.reg Obj.VA_ARCH_CE + ce) % 2 ^ 32 ∧ Claims.counts 32 Obj.VA_SCRUB_PASSES s u)) ∧
  (∀ (s : State) (t w : Nat), s.settled = true → s.readyOrRunning = true → s.cu.ue = [] → 8 * w < archiveBytes →
    answers (.patrolScrubPass t 0 [w]) s (fun u => effects t [(0x2504, w)] [.moved] [Obj.VA_ARCH_CE, Obj.VA_ARCH_UE, Obj.VA_SCRUB_PASSES] s u ∧
      u.cu.ue = [w] ∧ Claims.counts 32 Obj.VA_ARCH_UE s u ∧ Claims.counts 32 Obj.VA_SCRUB_PASSES s u)) ∧
  (∀ (s : State) (t : Nat) (p : Port) (x : RxFrame) (l : List Byte), s.settled = true → Claims.arrives s p x = true → s.cu.ue = [] →
    (Frame.read x.bytes).vc = 1 → (Frame.read x.bytes).type = 0x10 → (Frame.read x.bytes).payload = l → s.bulkRefused true l = none →
    answers (.bulkWrite t p x) s (fun u => effects t [] ([.archive, .moved, .cu] ++ Claims.arrival) [] s u ∧
      u.cu = { s.cu with moved := u.cu.moved, acks := if bit (leAt l 1 1) 0 then
        s.cu.acks ++ [⟨p, (Frame.read x.bytes).source, (Frame.read x.bytes).tag, l.length - 16⟩] else s.cu.acks } ∧
      (∀ a, u.archByte a = if s.spaceBase 1 + leAt l 8 8 ≤ a ∧ a < s.spaceBase 1 + leAt l 8 8 + (l.length - 16) then
        l.getD (16 + (a - (s.spaceBase 1 + leAt l 8 8))) 0 else s.archByte a))) ∧
  (∀ (s : State) (t : Nat) (a : BulkAck) (l : List BulkAck), s.settled = true → s.cu.acks = a :: l → Claims.canSend s a.port = true →
    answers (.bulkWriteAck t) s (fun u => effects t [] [.cu, .portA, .portB] [] s u ∧ u.cu = { s.cu with acks := l } ∧
      Claims.toSend u a.port
        { s.newFrame a.source 1 0x06 (Answer.payload { status := .ok, rtype := 0x10, id := 0, total := a.bytes }) with tag := a.tag })) ∧
  (∀ (s : State) (t : Nat) (p : Port) (x : RxFrame) (l : List Byte), s.settled = true → Claims.arrives s p x = true →
    (Frame.read x.bytes).vc = 1 → (Frame.read x.bytes).type = 0x11 → (Frame.read x.bytes).payload = l → s.bulkRefused false l = none →
    answers (.bulkRead t p x) s (fun u => effects t [] (.cu :: Claims.arrival) [] s u ∧
      (∃ b : BulkRead, u.cu = { s.cu with reads := s.cu.reads ++ [b] } ∧ b.port = p ∧ b.source = (Frame.read x.bytes).source ∧ b.tag = (Frame.read x.bytes).tag ∧
        b.space = leAt l 0 1 ∧ b.base = s.spaceBase (leAt l 0 1) ∧ b.offset = leAt l 8 8 ∧ b.left = leAt l 4 4 ∧ b.stale = false))) ∧
  (∀ (s : State) (t k : Nat) (b : BulkRead), s.settled = true → s.cu.reads[k]? = some b → s.cu.ue = [] → b.space ≠ 3 → b.stale = false →
    Claims.canSend s b.port = true →
    answers (.bulkData t k []) s (fun u => effects t [] [.cu, .moved, .portA, .portB] [] s u ∧
      u.cu.reads = (if b.left ≤ 16368 then s.cu.reads.eraseIdx k else s.cu.reads.set k { b with offset := b.offset + 16368, left := b.left - 16368 }) ∧
      (∃ f : Frame, Claims.toSend u b.port f ∧ f.dest = b.source ∧ f.vc = 1 ∧ f.type = 0x12 ∧ f.tag = b.tag ∧ f.last = decide (b.left ≤ 16368) ∧
        f.payload.drop 16 = (List.range (Nat.min 16368 b.left)).map (fun i => s.archByte (b.base + (b.offset + i))))))

/-- Lane faults and retraining (R300 to R302, R304, R305, R312, R324 to R326): a lost lock and an elastic error take a port that carries columns to RECOVERY, as
the fourth deskew error within 1 ms does; RECOVERY of 1 ms retrains; a DOWN port retries; PASS sets lead through RECOVERY, an END to IDLE_END; wakes hold
electrical idle for 4 us. Readings it rests on: log entry 45. -/
def Obligations.LaneResults : Prop :=
  (∀ (s : State) (t lane errors : Nat) (p : Port), s.settled = true → lane < 4 → (s.port p).carries = true → (s.port p).passUntil ≤ Nat.max s.now t →
    answers (.lnkLockLost t p lane errors) s (fun u => effects t [(0x1201, laneNo p lane)] (Claims.lanePieces p) [portStateObj p] s u ∧
      Claims.recovers p (Nat.max s.now t) s u ∧ Claims.entryCounts Obj.LNK_LOCK_LOSSES (laneNo p lane) s u)) ∧
  (∀ (s : State) (t lane : Nat) (p : Port), s.settled = true → lane < 4 → (s.port p).carries = true → (s.port p).passUntil ≤ Nat.max s.now t →
    answers (.lnkElasticError t p lane) s (fun u => effects t [(0x1203, 0)] (Claims.lanePieces p) [portStateObj p] s u ∧
      Claims.recovers p (Nat.max s.now t) s u ∧ Claims.entryCounts Obj.LNK_ELASTIC_ERRORS (laneNo p lane) s u)) ∧
  (∀ (s : State) (t : Nat) (p : Port), s.settled = true → (s.port p).carries = true →
    ((s.port p).deskewTimes.filter (fun a => Nat.blt (Nat.max s.now t) (a + 1000000))).length ≤ 2 →
    answers (.lnkDeskewError t p) s (fun u => effects t [] (Claims.lanePieces p) [] s u ∧ (u.port p).state = (s.port p).state ∧
      Claims.entryCounts Obj.LNK_DESKEW_ERRORS p.code s u)) ∧
  (∀ (s : State) (t : Nat) (p : Port), s.settled = true → (s.port p).carries = true → (s.port p).passUntil ≤ Nat.max s.now t →
    3 ≤ ((s.port p).deskewTimes.filter (fun a => Nat.blt (Nat.max s.now t) (a + 1000000))).length →
    answers (.lnkDeskewError t p) s (fun u => effects t [(0x1202, 0)] (Claims.lanePieces p) [portStateObj p] s u ∧
      Claims.recovers p (Nat.max s.now t) s u ∧ Claims.entryCounts Obj.LNK_DESKEW_ERRORS p.code s u)) ∧
  (∀ (s : State) (t : Nat) (p : Port), s.settled = true → (s.port p).carries = true →
    1000 * (s.port p).skipAt + 4096 * symbolPs (s.port p).rate ≤ 1000 * Nat.max s.now t →
    answers (.skpSend t p) s (fun u => effects t [] [Claims.portPiece p] [] s u ∧ u.port p = { s.port p with skipAt := Nat.max s.now t })) ∧
  (∀ (s : State) (t : Nat) (p : Port), s.settled = true → (s.port p).state = .recovery → (s.port p).since + 1000000 ≤ Nat.max s.now t → (s.port p).queue = [] →
    answers (.recoveryTimeout t p) s (fun u => effects t [] (Claims.lanePieces p) [portStateObj p] s u ∧
      Claims.inState p .train (Nat.max s.now t) u ∧ (u.port p).rate = (s.port p).rate ∧
      (∀ l, l ∈ (u.port p).lanes → l.phase = .presets ∧ l.taps = ({} : Lane).taps ∧ l.presetNo = 0))) ∧
  (∀ (s : State) (t : Nat) (p : Port), s.settled = true → (s.port p).state = .down →
    (s.port p).since + s.reg Obj.LNK_RETRAIN_INTERVAL * 1000000 ≤ Nat.max s.now t → s.romFault = false → s.silent = false →
    answers (.retrainIntervalExpiry t p) s (fun u => effects t [] (Claims.lanePieces p) [portStateObj p] s u ∧
      Claims.detects p s.rateMax (Nat.max s.now t) u)) ∧
  (∀ (s : State) (t v : Nat) (r : Requester), s.settled = true →
    (s.takesWrite t r Obj.LNK_RETRAIN_A (leBytes 1 v) = true → s.portA.state ≠ .test → s.portA.state ≠ .pass → r.path ≠ .vc0 .a →
      answers (.lnkRetrainA t r v) s (fun u => written t r [] (Claims.lanePieces .a) [Obj.LNK_PORT_STATE_A] s u ∧ Claims.detects .a 2 (Nat.max s.now t) u)) ∧
    (s.takesWrite t r Obj.LNK_RETRAIN_B (leBytes 1 v) = true → s.portB.state ≠ .test → s.portB.state ≠ .pass → r.path ≠ .vc0 .b →
      answers (.lnkRetrainB t r v) s (fun u => written t r [] (Claims.lanePieces .b) [Obj.LNK_PORT_STATE_B] s u ∧ Claims.detects .b 2 (Nat.max s.now t) u)) ∧
    (s.takesWrite t r Obj.LNK_WAKE_A (leBytes 1 v) = true →
      answers (.lnkWakeA t r v) s (fun u => written t r [] [.portA] [] s u ∧ u.portA.wakeUntil = some (Nat.max s.now t + 4000) ∧
        u.portA.state = s.portA.state)) ∧
    (s.takesWrite t r Obj.LNK_WAKE_B (leBytes 1 v) = true →
      answers (.lnkWakeB t r v) s (fun u => written t r [] [.portB] [] s u ∧ u.portB.wakeUntil = some (Nat.max s.now t + 4000) ∧
        u.portB.state = s.portB.state))) ∧
  (∀ (s : State) (t a : Nat) (p : Port), s.settled = true → (s.port p).wakeUntil = some a → a ≤ Nat.max s.now t →
    ((s.port p).state ≠ .down → (s.port p).state ≠ .idleEnd →
      answers (.wakeIdleEnd t p) s (fun u => effects t [] [Claims.portPiece p] [] s u ∧ u.port p = { s.port p with wakeUntil := none })) ∧
    (((s.port p).state = .down ∨ (s.port p).state = .idleEnd) →
      answers (.wakeIdleEnd t p) s (fun u => effects t [] (Claims.lanePieces p) [portStateObj p] s u ∧
        Claims.detects p (if (s.port p).state = .down then 2 else (s.port p).ceiling) (Nat.max s.now t) u ∧ (u.port p).wakeUntil = none))) ∧
  (∀ (s : State) (t : Nat) (p : Port) (l : List Byte) (x : TrainSet), s.settled = true → Claims.spells l x → x.type = 5 → (s.port p).state = .up →
    (x.isEnd = false → answers (.pass t p l) s (fun u => effects t [] (Claims.lanePieces p) [portStateObj p, Obj.LNK_STATUS] s u ∧
      Claims.recovers p (Nat.max s.now t) s u ∧ (u.port p).passUntil = Nat.max s.now t + 1000000 ∧ u.flag Obj.LNK_STATUS (2 + p.code) = true)) ∧
    (x.isEnd = true → ∀ lane, lane < 4 → answers (.passEnd t p lane l) s (fun u =>
      effects t [] (Claims.lanePieces p) [portStateObj p, Obj.LNK_STATUS] s u ∧
      Claims.inState p .idleEnd (Nat.max s.now t) u ∧ u.flag Obj.LNK_STATUS (2 + p.code) = true)))

/-- Training (R306 to R316): TS1 and TS2 are counted in DETECT; 8 of each on every lane take a port to TRAIN at the target rate; a set with a wrong check is
ignored and counted; a request unanswered for 20 us is sent again; a measured preset leads to the next; the aligned port measures its hop delay with 64 LOOP
sets and comes into UP. Readings it rests on: log entry 45. -/
def Obligations.TrainingResults : Prop :=
  (∀ (s : State) (t lane : Nat) (p : Port) (l : List Byte) (x : TrainSet), s.settled = true → lane < 4 → (s.port p).lanes.length = 4 →
    (s.port p).state = .detect → Claims.spells l x → x.isEnd = false → bit x.b12 1 = false → (s.port p).heardTs1 = false →
    (x.type = 1 → x.rates = ((s.port p).lane lane).rates → ((s.port p).lane lane).ts1Run < 7 →
      answers (.ts1 t p lane l) s (fun u => effects t [] [Claims.portPiece p] [] s u ∧
        ((u.port p).lane lane).ts1Run = ((s.port p).lane lane).ts1Run + 1 ∧ ((u.port p).lane lane).ts2Run = 0 ∧
        ((u.port p).lane lane).partnerLane = x.lane ∧ (∀ k, k ≠ lane → (u.port p).lane k = (s.port p).lane k))) ∧
    (x.type = 2 → answers (.ts2 t p lane l) s (fun u => effects t [] [Claims.portPiece p] [] s u ∧
        ((u.port p).lane lane).ts2Run = ((s.port p).lane lane).ts2Run + 1 ∧ ((u.port p).lane lane).target = x.rate ∧
        (∀ k, k ≠ lane → (u.port p).lane k = (s.port p).lane k)))) ∧
  (∀ (s : State) (t lane : Nat) (p : Port) (l : List Byte), s.settled = true → lane < 4 → readSet l = none →
    (∀ c, (c = .ts1 t p lane l ∨ c = .ts2 t p lane l ∨ c = .loopSet t p l 0 ∨ c = .loopEcho t p l 0 ∨ c = .pass t p l) →
      answers c s (fun u => effects t [(0x120B, 0)] [] [Obj.LNK_TS_ERRORS] s u ∧ Claims.counts 32 Obj.LNK_TS_ERRORS s u))) ∧
  (∀ (s : State) (t : Nat) (p : Port), s.settled = true → (s.port p).state = .detect → (s.port p).heardTs1 = true → (s.port p).heardTs2 = true →
    (s.port p).laneOrder ≠ none →
    answers (.rateChangeDone t p) s (fun u => effects t [] (Claims.lanePieces p) [portStateObj p] s u ∧ Claims.inState p .train (Nat.max s.now t) u ∧
      (u.port p).rate = s.targetRate p ∧ (∀ l, l ∈ (u.port p).lanes → l.phase = .presets ∧ (∃ o, l.outstanding = some o ∧ o.req = .preset 0)))) ∧
  (∀ (s : State) (t lane : Nat) (p : Port) (o : Outstanding), s.settled = true → lane < 4 → (s.port p).lanes.length = 4 →
    ((s.port p).lane lane).outstanding = some o → o.sentAt + 20000 ≤ Nat.max s.now t →
    answers (.tapRequestResend t p lane) s (fun u => effects t [] [Claims.portPiece p] [] s u ∧
      (u.port p).lane lane = { (s.port p).lane lane with outstanding := some { o with sentAt := Nat.max s.now t, resends := o.resends + 1 } })) ∧
  (∀ (s : State) (t lane w h : Nat) (p : Port), s.settled = true → lane < 4 → (s.port p).lanes.length = 4 → (s.port p).state = .train →
    ((s.port p).lane lane).outstanding = none → ((s.port p).lane lane).reversing = false → ((s.port p).lane lane).phase = .presets →
    ((s.port p).lane lane).presetNo < 7 →
    answers (.trainingStepDone t p lane w h) s (fun u => effects t [] (Claims.lanePieces p) [] s u ∧
      ((u.port p).lane lane).presetNo = ((s.port p).lane lane).presetNo + 1 ∧
      (∃ o, ((u.port p).lane lane).outstanding = some o ∧ o.req = .preset (((s.port p).lane lane).presetNo + 1) ∧
        o.seq = (((s.port p).lane lane).reqSeq + 1) % 16) ∧
      ((u.port p).lane lane).bestProduct =
        (if ((s.port p).lane lane).presetNo = 0 ∨ ((s.port p).lane lane).bestProduct < w * h then w * h else ((s.port p).lane lane).bestProduct))) ∧
  (∀ (s : State) (t : Nat) (p : Port), s.settled = true → ((s.port p).state = .align ∨ (s.port p).state = .recovery) →
    answers (.deskewAcquired t p) s (fun u => effects t [] (Claims.lanePieces p) [] s u ∧
      (∃ h : HopRun, (u.port p).hop = some h ∧ h.count = 64 ∧ h.firstTag = (s.port p).loopTag ∧ h.trips = []) ∧
      (u.port p).loopTag = ((s.port p).loopTag + 64) % 256)) ∧
  (∀ (s : State) (t turnaround : Nat) (p : Port) (l : List Byte) (x : TrainSet), s.settled = true → Claims.spells l x → x.type = 3 →
    (s.port p).carries = true → turnaround < 2 ^ 32 →
    answers (.loopSet t p l turnaround) s (fun u => effects t [] [Claims.portPiece p] [] s u ∧
      (∃ e : TrainSet, (u.port p).echo = e.bytes ∧ e.type = 4 ∧ e.b9 = x.b9 ∧ e.b10 + 256 * e.b11 + 65536 * e.b12 + 16777216 * e.b13 = turnaround))) ∧
  (∀ (s : State) (t trip : Nat) (p : Port) (l : List Byte) (x : TrainSet) (h : HopRun), s.settled = true → Claims.spells l x → x.type = 4 →
    (s.port p).hop = some h → (x.b9 + 256 - h.firstTag) % 256 < h.count → h.tags.contains x.b9 = false → trip ≤ 10000000 →
    answers (.loopEcho t p l trip) s (fun u => effects t [] [Claims.portPiece p] [] s u ∧
      (u.port p).hop = some { h with tags := x.b9 :: h.tags,
                                       trips := ((trip : Int) - (x.b10 + 256 * x.b11 + 65536 * x.b12 + 16777216 * x.b13 : Nat)) :: h.trips })) ∧
  (∀ (s : State) (t : Nat) (p : Port) (h : HopRun), s.settled = true → ((s.port p).state = .align ∨ (s.port p).state = .recovery) → (s.port p).hop = some h →
    (32 ≤ h.trips.length → h.mean < 2 ^ 32 → h.spread < 2 ^ 32 →
      answers (.hopMeasureDone t p) s (fun u => effects t [] [Claims.portPiece p] [hopDelayObj p, hopSpreadObj p] s u ∧ (u.port p).hopDone = true ∧
        u.reg (hopDelayObj p) = h.mean ∧ u.reg (hopSpreadObj p) = h.spread)) ∧
    (h.trips.length < 32 → answers (.hopMeasureDone t p) s (fun u => effects t [] (Claims.lanePieces p) [portStateObj p] s u ∧
      Claims.recovers p (Nat.max s.now t) s u))) ∧
  (∀ (s : State) (t : Nat) (p : Port), s.settled = true → (s.port p).state = .up → 0 < s.reg Obj.LNK_HOP_PERIOD → (s.port p).hop = none →
    (s.port p).hopAt + s.reg Obj.LNK_HOP_PERIOD * 1000000 ≤ Nat.max s.now t →
    answers (.hopPeriodExpiry t p) s (fun u => effects t [] [Claims.portPiece p] [] s u ∧ (u.port p).hopAt = Nat.max s.now t ∧
      (∃ h : HopRun, (u.port p).hop = some h ∧ h.count = 16 ∧ h.firstTag = (s.port p).loopTag))) ∧
  (∀ (s : State) (t : Nat) (p : Port), s.settled = true → s.ck.waitRef = false → ((s.port p).state = .align ∨ (s.port p).state = .recovery) →
    (s.port p).hopDone = true → s.rg.waiting = [] → (Nat.max s.now t ≤ (s.port p).leftAt + 1000000 ∨ (s.port p).queue = []) →
    answers (.portUp t p) s (fun u => effects t [] [.portA, .portB, .rg] [portStateObj p, Obj.LNK_STATUS] s u ∧
      (∀ a b, s.portA.latestHops = some a → s.portB.latestHops = some b → u.flag Obj.LNK_STATUS 7 = decide (b < a)) ∧
      Claims.inState p .up (Nat.max s.now t) u ∧ (u.port p).everUp = true ∧ (u.port p).credits.heard = false ∧
      (u.port p).credits.sentInits = (s.port p).credits.sentInits + 1 ∧ u.rg.firstUpAt = some (s.rg.firstUpAt.getD (Nat.max s.now t))))

/-- Tests of the lanes (R317 to R321): a measured eye is shown and judged; a written test word takes the port to TEST and back to DETECT; a checker comes into
sync and loses it; injected bits are counted. Readings it rests on: log entry 45. -/
def Obligations.LaneTestResults : Prop :=
  (∀ (s : State) (t lane w h : Nat) (p : Port), s.settled = true → lane < 4 → w < 256 → h < 65536 → 4 * laneNo p lane + 4 ≤ (s.cat.vol.blob Obj.LNK_EYE).len →
    ((s.port p).state ≠ .up → answers (.eyeMeasureDone t p lane w h) s (fun u => effects t [] [.bytes, .version] [] s u ∧
      u.cat.vol.le Obj.LNK_EYE (4 * laneNo p lane) 1 = w ∧ u.cat.vol.le Obj.LNK_EYE (4 * laneNo p lane + 2) 2 = h)) ∧
    ((s.port p).state = .up → (w < 24 ∨ h < 50) → answers (.eyeMeasureDone t p lane w h) s (fun u =>
      effects t [(0x1206, laneNo p lane * 2 ^ 24 + w * 2 ^ 16 + h)] [.bytes, .version] [Obj.LNK_EYE_LOW_COUNT] s u ∧
      u.cat.vol.le Obj.LNK_EYE (4 * laneNo p lane) 1 = w ∧ u.cat.vol.le Obj.LNK_EYE (4 * laneNo p lane + 2) 2 = h ∧
      Claims.counts 32 Obj.LNK_EYE_LOW_COUNT s u))) ∧
  (∀ (s : State) (t : Nat) (p : Port), s.settled = true → (s.port p).state = .up → 0 < s.reg Obj.LNK_EYE_PERIOD →
    (s.port p).eyeAt + s.reg Obj.LNK_EYE_PERIOD * 1000000000 ≤ Nat.max s.now t →
    answers (.eyePeriodExpiry t p) s (fun u => effects t [] [Claims.portPiece p] [] s u ∧ u.port p = { s.port p with eyeAt := Nat.max s.now t })) ∧
  (∀ (s : State) (t v : Nat) (r : Requester), s.settled = true → s.takesWrite t r Obj.LNK_EYE_MEASURE (leBytes 1 v) = true →
    answers (.lnkEyeMeasure t r v) s (fun u => written t r [] [.portA, .portB] [] s u ∧ u.portA.eyeAt = Nat.max s.now t ∧ u.portB.eyeAt = Nat.max s.now t)) ∧
  (∀ (s : State) (t lane v : Nat) (p : Port) (r : Requester), s.settled = true → lane < 4 → (s.port p).lanes.length = 4 → r.path ≠ .vc0 p →
    s.takesWrite t r (Obj.LNK_LANE_TEST (laneNo p lane)) (leBytes 4 v) = true → v / 32 % 4 ≠ 1 → v < 2 ^ 32 →
    (holdsTest v = true → (s.port p).state ≠ .test →
      answers (.lnkLaneTest t r p lane v) s (fun u =>
        written t r [] (Claims.lanePieces p) [portStateObj p, Obj.LNK_LANE_TEST (laneNo p lane)] s u ∧
        Claims.inState p .test (Nat.max s.now t) u ∧ u.reg (Obj.LNK_LANE_TEST (laneNo p lane)) = v)) ∧
    ((∀ k, k < 4 → k ≠ lane → holdsTest (s.laneTest p k) = false) → holdsTest v = false → (s.port p).state = .test →
      answers (.lnkLaneTest t r p lane v) s (fun u =>
        written t r [] (Claims.lanePieces p) [portStateObj p, Obj.LNK_LANE_TEST (laneNo p lane)] s u ∧
        Claims.detects p (s.port p).ceiling (Nat.max s.now t) u ∧ u.reg (Obj.LNK_LANE_TEST (laneNo p lane)) = v))) ∧
  (∀ (s : State) (t lane : Nat) (p : Port), s.settled = true → lane < 4 → (s.port p).state = .up ∨ (s.port p).state = .test → s.laneTest p lane / 32 % 4 = 2 →
    bit (s.laneTest p lane) 7 = false →
    answers (.injectionPeriodic t p lane) s (fun u => effects t [] [Claims.portPiece p] [] s u ∧
      u.port p = { s.port p with injected := (s.port p).injected + 1 })) ∧
  (∀ (s : State) (t lane : Nat) (p : Port), s.settled = true → lane < 4 → (s.port p).lanes.length = 4 → (s.port p).state = .test →
    bit (s.laneTest p lane) 11 = true → ((s.port p).lane lane).syncAt = none →
    answers (.prbsSync t p lane) s (fun u => effects t [] (Claims.lanePieces p) [] s u ∧ ((u.port p).lane lane).syncAt = some (Nat.max s.now t))) ∧
  (∀ (s : State) (t lane errors a : Nat) (p : Port), s.settled = true → lane < 4 → (s.port p).lanes.length = 4 → ((s.port p).lane lane).syncAt = some a →
    8 * laneNo p lane + 8 ≤ (s.cat.vol.blob Obj.LNK_PRBS_ERRORS).len →
    answers (.lnkPrbsResync t p lane errors) s (fun u => effects t [(0x120A, 0)] (Claims.lanePieces p) [Obj.LNK_PRBS_RESYNC] s u ∧
      ((u.port p).lane lane).syncAt = none ∧ Claims.counts 32 Obj.LNK_PRBS_RESYNC s u ∧
      u.cat.vol.le Obj.LNK_PRBS_ERRORS (8 * laneNo p lane) 8 =
        satNat 64 (s.cat.vol.le Obj.LNK_PRBS_ERRORS (8 * laneNo p lane) 8 + errors)))

/-- Frames (R331, R337, R339 to R349): a sound frame for another tile leaves by the other port with HOPS up and TTL down; one with a wrong header is discarded
under its cause; a finished frame is counted; credits are told and heard; a frame without a route is discarded after 1 ms; a broken ring is shown. A clause
for a condition that does not hold rests on log entry 1 (the model's choice). Readings it rests on: log entry 46. -/
def Obligations.FrameResults : Prop :=
  (∀ (s : State) (t : Nat) (p : Port) (x : RxFrame), s.settled = true → Claims.sound s p x = true → s.routeOf (Frame.read x.bytes) = (false, true) →
    1 < (Frame.read x.bytes).ttl → (s.port p.other).takes = true → ((Frame.read x.bytes).vc ≠ 3 ∨ (Frame.read x.bytes).type ≠ 0x30) →
    answers (.frameReceive t p x) s (fun u => effects t [] Claims.arrival [] s u ∧ Claims.entryCounts64 Obj.LNK_FRAMES_RX p.code s u ∧
      Claims.toSend u p.other { Frame.read x.bytes with hops := ((Frame.read x.bytes).hops + 1) % 256, ttl := (Frame.read x.bytes).ttl - 1 })) ∧
  (∀ (s : State) (t c : Nat) (p : Port) (x : RxFrame), s.settled = true → s.hears p = true → x.marked = [] →
    s.headerFault p x (Frame.read x.bytes) = some (c, none) → c ≠ 8 →
    answers (.frameReceive t p x) s (fun u => effects t [(0x120C, 256 * p.code + c)] (Claims.lanePieces p) [] s u ∧
      (∀ q, q ∈ (u.port p).unsent ↔ q ∈ (s.port p).unsent) ∧ Claims.entryCounts (discardObj p) c s u ∧ Claims.entryCounts (discardObj p) 0 s u)) ∧
  (∀ (s : State) (t : Nat) (p : Port) (l : List Byte), s.settled = true → s.hears p = true →
    (headerOk l = false → answers (.frameAbort t p l) s (fun u =>
      effects t [(0x120C, 256 * p.code + 1)] (Claims.lanePieces p) [] s u ∧ Claims.entryCounts (discardObj p) 1 s u)) ∧
    ((Frame.read l).hops = 0 → s.headerFault p ⟨Nat.beq (Frame.read l).vc 3, l, [], 0, 0⟩ (Frame.read l) = none →
      (s.routeOf (Frame.read l)).1 = true → answers (.frameAbort t p l) s (fun u =>
        effects t [(0x120C, 256 * p.code + 2)] (Claims.lanePieces p) [] s u ∧ Claims.entryCounts (discardObj p) 2 s u)) ∧
    (headerOk l = true → 0 < (Frame.read l).hops → answers (.frameAbort t p l) s (fun u => effects t [] [Claims.portPiece p] [] s u))) ∧
  (∀ (s : State) (t : Nat) (p : Port) (l : List Byte), s.settled = true → (s.port p).state = .up →
    (∀ kind, Claims.creditHeard l kind → (kind = 1 ∨ kind = 3) → (s.port p).credits.heard = false →
      (s.port p).queue = [] → answers (.creditInit t p l false) s (fun u => effects t [] [Claims.portPiece p] [] s u ∧
      (u.port p).credits = { (s.port p).credits with heard := true, used := Claims.creditCounts l, freedSeen := [0, 0, 0, 0],
                                                     acked := (s.port p).credits.acked || bit kind 1 })) ∧
    (∀ kind, Claims.creditHeard l kind → (kind = 0 ∨ kind = 2) → (s.port p).credits.heard = true →
      (s.port p).queue = [] → answers (.creditUpdate t p l false) s (fun u => effects t [] [Claims.portPiece p] [] s u ∧
      (u.port p).credits.freedSeen = Claims.creditCounts l ∧
      (u.port p).credits.used = List.zipWith (fun a d => a - d) (s.port p).credits.used
        (List.zipWith (fun n o => (n + 65536 - o) % 65536) (Claims.creditCounts l) (s.port p).credits.freedSeen))) ∧
    (answers (.creditInit t p l true) s (fun u => effects t [] [] [] s u)) ∧ (answers (.creditUpdate t p l true) s (fun u => effects t [] [] [] s u)) ∧
    ((s.port p).credits.acked = false → (s.port p).credits.lastSent + 10000 ≤ Nat.max s.now t →
      answers (.creditInitResend t p) s (fun u => effects t [] [Claims.portPiece p] [] s u ∧
        (u.port p).credits = { (s.port p).credits with lastSent := Nat.max s.now t, sentInits := (s.port p).credits.sentInits + 1 })) ∧
    (s.tile.phase = .none → (s.freedUnits p ≠ (s.port p).credits.told ∨ (s.port p).credits.lastSent + 20000 ≤ Nat.max s.now t) →
      answers (.creditUpdateSend t p) s (fun u => effects t [] [Claims.portPiece p] [] s u ∧
        (u.port p).credits = { (s.port p).credits with told := s.freedUnits p, lastSent := Nat.max s.now t,
                                                       sentUpdates := (s.port p).credits.sentUpdates + 1 }))) ∧
  (∀ (s : State) (t : Nat) (q : Queued), s.settled = true → s.rg.waiting = [q] → q.since + 1000000 ≤ Nat.max s.now t →
    answers (.routeWaitTimeout t) s (fun u => effects t [(0x120C, 256 * s.homePort.code + 7)] [.rg, .bytes, .version] [] s u ∧
      u.rg = { s.rg with waiting := [] } ∧ Claims.entryCounts (discardObj s.homePort) 7 s u)) ∧
  (∀ (s : State) (t : Nat) (p : Port), s.settled = true → (s.port p).state = .up → (s.port p).queue = [] →
    answers (.lnkRingBreak t p) s (fun u => effects t [(0x120D, p.code)] (Claims.lanePieces p) [portStateObj p, Obj.LNK_STATUS] s u ∧
      Claims.inState p .down (Nat.max s.now t) u ∧ u.flag Obj.LNK_STATUS 1 = true ∧ (u.port p).fromUp = false ∧ (u.port p).wire = none)) ∧
  (∀ (s : State) (t : Nat), s.settled = true → s.flag Obj.LNK_STATUS 1 = true → s.isUp .a = true → s.isUp .b = true →
    answers (.lnkRingRestored t) s (fun u => effects t [(0x120E, 0)] [] [Obj.LNK_STATUS] s u ∧
      u.reg Obj.LNK_STATUS = withBit (s.reg Obj.LNK_STATUS) 1 false)) ∧
  (∀ (s : State) (t : Nat) (p : Port) (q : Queued), s.settled = true → (s.port p).token = none → (s.port p).wire = some q →
    answers (.frameBoundary t p) s (fun u => effects t [] (Claims.lanePieces p) [] s u ∧ Claims.entryCounts64 Obj.LNK_FRAMES_TX p.code s u ∧
      (∀ x, x ∈ (u.port p).unsent → x ∈ (s.port p).unsent) ∧ (∀ x, x ∈ (s.port p).queue → x ∈ (u.port p).unsent) ∧
      ((s.port p).queue = [] → (u.port p).unsent = [])))

/-- The Registrar (R19, R352 to R354): an OFFER that side A receives gives a tile its position and is answered with a REPORT; an OFFER waits for a woken port and
goes out once it is in UP; COMMIT under the tile's own ENUM_ID stores the ring length. Readings it rests on: log entry 46. -/
def Obligations.RegistrarResults : Prop :=
  (∀ (s : State) (t : Nat) (x : RxFrame) (l : List Byte), s.settled = true → s.ck.waitRef = false → Claims.arrives s .a x = true → (Frame.read x.bytes).vc = 3 →
    (Frame.read x.bytes).type = 0x38 → (Frame.read x.bytes).payload = l → l.length = 24 → leAt l 4 1 = 1 → leAt l 5 1 = 0 → leAt l 6 1 ≤ 62 →
    leAt l 7 1 < 62 → s.romFault = false → s.positioned = false → s.flag Obj.LNK_STATUS 3 = false → s.tile.state ≠ .linkup →
    answers (.offer t .a x) s (fun u =>
      effects t [] (.rg :: Claims.arrival) [Obj.ID_ADDRESS, Obj.ID_POSITION, Obj.LNK_CHAIN, Obj.LNK_ENUM_ID, Obj.LNK_STATUS] s u ∧
      u.reg Obj.ID_ADDRESS = 64 * leAt l 6 1 + (leAt l 7 1 + 1) ∧ u.reg Obj.ID_POSITION = 1 ∧ u.reg Obj.LNK_CHAIN = leAt l 6 1 ∧
      u.reg Obj.LNK_ENUM_ID = leAt l 0 4 ∧ u.flag Obj.LNK_STATUS 9 = false ∧ u.rg.finalUnder = some (leAt l 0 4) ∧
      Claims.toSend u .a (u.newFrame (64 * leAt l 6 1) 3 0x38
        (enumPayload (leAt l 0 4) 2 0 (leAt l 6 1) (leAt l 7 1 + 1) 0 (64 * leAt l 6 1 + (leAt l 7 1 + 1)) (s.reg Obj.ID_SERIAL))))) ∧
  (∀ (s : State) (t : Nat) (x : RxFrame) (l : List Byte), s.settled = true → s.ck.waitRef = false → Claims.arrives s .a x = true → (Frame.read x.bytes).vc = 3 →
    (Frame.read x.bytes).type = 0x38 → (Frame.read x.bytes).payload = l → l.length = 24 → leAt l 4 1 = 1 → leAt l 5 1 = 0 → leAt l 6 1 ≤ 62 →
    leAt l 7 1 < 62 → s.positioned = false → s.tile.state = .linkup →
    answers (.offer t .a x) s (fun u => u.tile.state = .ready ∧ u.tile.since = Nat.max s.now t ∧ u.tile.readyAt = Nat.max s.now t ∧
      u.reg Obj.ID_ADDRESS = 64 * leAt l 6 1 + (leAt l 7 1 + 1) ∧ u.reg Obj.ID_POSITION = 1)) ∧
  (∀ (s : State) (t : Nat) (x : RxFrame) (l : List Byte), s.settled = true → Claims.arrives s .a x = true → (Frame.read x.bytes).vc = 3 →
    (Frame.read x.bytes).type = 0x38 → (Frame.read x.bytes).payload = l → l.length = 24 → leAt l 4 1 = 1 → leAt l 5 1 ≠ 0 → leAt l 6 1 ≤ 62 →
    s.romFault = false → answers (.offer t .a x) s (fun u => effects t [(0x1211, 0)] Claims.arrival [] s u)) ∧
  (∀ (s : State) (t : Nat) (o : Onward), s.settled = true → s.rg.onward = some o → s.isUp o.port = true → s.silent = false →
    answers (.enumOnwardWaitEnd t) s (fun u => effects t [] [.rg, Claims.portPiece o.port] [] s u ∧ u.rg = { s.rg with onward := none } ∧
      Claims.toSend u o.port { s.newFrame 0 3 0x38
        (enumPayload (leAt o.payload 0 4) 1 (leAt o.payload 5 1) (leAt o.payload 6 1) (leAt o.payload 7 1) 0 0 0) with ttl := 1 })) ∧
  (∀ (s : State) (t : Nat) (p : Port) (x : RxFrame) (l : List Byte), s.settled = true → Claims.arrives s p x = true → (Frame.read x.bytes).vc = 3 →
    (Frame.read x.bytes).type = 0x38 → (Frame.read x.bytes).payload = l → l.length = 24 → leAt l 4 1 = 3 → leAt l 6 1 ≤ 62 → s.romFault = false →
    1 ≤ leAt l 8 1 → leAt l 8 1 ≤ 62 → s.rg.finalUnder = some (leAt l 0 4) → s.reg Obj.LNK_ENUM_ID = leAt l 0 4 →
    answers (.commit t p x) s (fun u => effects t [] (.cal :: Claims.arrival) [Obj.LNK_STATUS, Obj.LNK_RING_LENGTH] s u ∧
      u.flag Obj.LNK_STATUS 0 = true ∧ u.reg Obj.LNK_RING_LENGTH = leAt l 8 1 ∧
      (s.reg Obj.LNK_RING_LENGTH ≠ leAt l 8 1 → s.cal.commit = none → s.reg Obj.PWR_PATH_STATE ≠ 4 → u.cal = { s.cal with ringWord := leAt l 8 1, ringPending := none })))

/-- Installation time (R356 to R361): a TIME token of the time port corrects the clock by a slew up to 1 us and by a step above; the time master sends one every
LNK_TIME_PERIOD out of both ports; silence leads to holdover and to TIME_LOST; LNK_TIME_MASTER makes a master that counts from 0. Readings it rests on: log
entry 46. -/
def Obligations.TimeResults : Prop :=
  (∀ (s : State) (t : Nat) (x : RxFrame) (l : List Byte) (p : Port) (e : Int), s.settled = true → s.timePort = p → Claims.arrives s p x = true →
    (Frame.read x.bytes).vc = 3 → (Frame.read x.bytes).type = 0x30 → (Frame.read x.bytes).payload = l → l.length = 24 → bit (leAt l 4 4) 0 = true →
    s.timeMaster = false → s.romFault = false →
    e = ((1000 * Nat.max s.now t + x.refPs : Nat) : Int) + s.rg.offset + s.rg.worked (Nat.max s.now t) -
      ((1000 * leAt l 8 8 + leAt l 16 4 + s.reg (hopDelayObj p) : Nat) : Int) →
    (-1000000 ≤ e → e ≤ 1000000 → s.rg.lockRun < 15 → answers (.time t p x) s (fun u =>
      effects t [] (.rg :: Claims.arrival) [Obj.LNK_TIME_ERROR, Obj.LNK_STATUS] s u ∧
      u.reg Obj.LNK_TIME_ERROR = fromSigned 32 e ∧ u.rg.slew = -e ∧ u.rg.slewFrom = Nat.max s.now t ∧ u.rg.held = true ∧
      u.rg.offset = s.rg.offset + s.rg.worked (Nat.max s.now t) ∧ u.rg.followedAt = some (Nat.max s.now t) ∧
      u.rg.lockRun = (if -20000 ≤ e ∧ e ≤ 20000 then s.rg.lockRun + 1 else 0) ∧
      u.flag Obj.LNK_STATUS 5 = false ∧ u.flag Obj.LNK_STATUS 6 = false ∧ (u.port p).latestHops = some (Frame.read x.bytes).hops)) ∧
    ((e < -1000000 ∨ 1000000 < e) → answers (.time t p x) s (fun u =>
      effects t [] (Claims.maybeEvent ++ .rg :: .lt :: Claims.arrival)
        [Obj.LNK_TIME_ERROR, Obj.LNK_STATUS, Obj.LNK_TIME_STEPS, Obj.LT_POS_STEPS, Obj.TW_ALERT_PENDING] s u ∧
      Claims.counts 32 Obj.LNK_TIME_STEPS s u ∧ u.rg.slew = 0 ∧ u.rg.held = true ∧ u.rg.lockRun = 0 ∧ u.flag Obj.LNK_STATUS 4 = false ∧
      u.rg.offset = ((1000 * leAt l 8 8 + leAt l 16 4 + s.reg (hopDelayObj p) : Nat) : Int) - ((1000 * Nat.max s.now t + x.refPs : Nat) : Int)))) ∧
  (∀ (s : State) (t : Nat), s.settled = true → s.timeMaster = true → (s.tile.state = .linkup ∨ s.readyOrRunning = true) →
    s.rg.sentAt.all (fun a => Nat.ble (a + s.reg Obj.LNK_TIME_PERIOD * 1000) (Nat.max s.now t)) = true →
    answers (.timeTokenSend t) s (fun u => effects t [] [.rg, .portA, .portB] [] s u ∧
      u.rg = { s.rg with sendSeq := s.rg.sendSeq + 1, sentAt := some (Nat.max s.now t) } ∧
      (∀ p, (s.port p).takes = true → Claims.toSend u p (s.newFrame 0xFFF 3 0x30 (leBytes 4 (s.rg.sendSeq + 1).toNat ++ leBytes 4 1 ++
        leBytes 8 (s.at t).itime ++ zeros 4 ++ leBytes 2 s.address ++ zeros 2))))) ∧
  (∀ (s : State) (t a : Nat), s.settled = true → s.timeBase = some a → s.timeMaster = false →
    (s.flag Obj.LNK_STATUS 5 = false → a + s.reg Obj.LNK_TIME_HOLDOVER * 1000000 ≤ Nat.max s.now t →
      answers (.lnkTimeHoldover t) s (fun u => effects t [(0x1213, 0)] [] [Obj.LNK_STATUS] s u ∧
        u.reg Obj.LNK_STATUS = withBit (s.reg Obj.LNK_STATUS) 5 true)) ∧
    (s.flag Obj.LNK_STATUS 6 = false → a + s.reg Obj.LNK_TIME_LOSS * 1000000 ≤ Nat.max s.now t →
      answers (.lnkTimeLost t) s (fun u => effects t [] Claims.maybeEvent [Obj.LNK_STATUS, Obj.TW_ALERT_PENDING] s u ∧
        u.reg Obj.LNK_STATUS = withBit (s.reg Obj.LNK_STATUS) 6 true ∧ u.timeHeld = false))) ∧
  (∀ (s : State) (t : Nat) (r : Requester), s.settled = true → s.takesWrite t r Obj.LNK_TIME_MASTER (leBytes 1 1) = true → s.timeMaster = false →
    answers (.lnkTimeMasterWrite t r 1) s (fun u =>
      effects t [] (Claims.maybeEvent ++ pathPieces r ++ [.rg, .lt])
        [Obj.CAT_REQUESTS, Obj.TW_ALERT_PENDING, Obj.LNK_TIME_MASTER, Obj.LNK_STATUS, Obj.LT_POS_STEPS] s u ∧
      u.reg Obj.LNK_TIME_MASTER = 1 ∧ u.flag Obj.LNK_STATUS 8 = true ∧ u.flag Obj.LNK_STATUS 5 = false ∧ u.flag Obj.LNK_STATUS 6 = false ∧
      u.itimePs = 0 ∧ u.rg.slew = 0 ∧ u.rg.sentAt = none))

/-- The Gallery (R371 to R378, R381, R389): packets with a damaged header are counted and lost; a frame start opens a frame of the context bound to it, a line is
added, a frame end or the time limit ends it; a finished item is complete; an accepted APPLY takes the edit set; the clock stops. Stated with no other context
at work. Readings it rests on: log entry 47. -/
def Obligations.GalleryResults : Prop :=
  (∀ (s : State) (t p vc n dt : Nat) (crcOk : Bool) (l : List Byte), s.settled = true → p < 2 → vc < 16 → s.auxOn p = true →
    (∀ c, (c = .frameStart t p vc n .errors ∨ c = .frameEnd t p vc n .errors ∨ c = .longPacket t p vc dt .errors crcOk l) →
      answers c s (fun u => effects t [(0x2605, 256 * p + 1)] [] [Obj.GA_AUX_ECC_ERRORS p] s u ∧ Claims.counts 32 (Obj.GA_AUX_ECC_ERRORS p) s u)) ∧
    (∀ c, (c = .frameStart t p vc n .sot ∨ c = .frameEnd t p vc n .sot ∨ c = .longPacket t p vc dt .sot crcOk l) →
      answers c s (fun u => effects t [(0x2605, 256 * p + 3)] [] [Obj.GA_AUX_SOT_ERRORS p] s u ∧ Claims.counts 32 (Obj.GA_AUX_SOT_ERRORS p) s u)) ∧
    (s.bound p vc = [] → answers (.frameStart t p vc n .clean) s (fun u =>
      effects t [(0x2606, 0)] [] [Obj.GA_AUX_UNMATCHED p] s u ∧ Claims.counts 32 (Obj.GA_AUX_UNMATCHED p) s u)) ∧
    ((∀ c, c ∈ s.bound p vc → (s.gaCtx c).applied.dt ≠ dt) → answers (.longPacket t p vc dt .clean true l) s (fun u =>
      effects t [(0x2606, 0)] [] [Obj.GA_AUX_UNMATCHED p] s u ∧ Claims.counts 32 (Obj.GA_AUX_UNMATCHED p) s u))) ∧
  (∀ (s : State) (t p vc n c : Nat), s.settled = true → p < 2 → vc < 16 → s.auxOn p = true → s.bound p vc = [c] → Claims.onlyFrames s c [] →
    answers (.frameStart t p vc n .clean) s (fun u => effects t [] Claims.viewPieces (Obj.GA_CTX_FRAMES c :: Claims.viewNums c) s u ∧
      Claims.counts 32 (Obj.GA_CTX_FRAMES c) s u ∧
      (∃ f : GaFrame, (u.gaCtx c).frames = [f] ∧ f.set = (s.gaCtx c).applied ∧ f.seq = s.reg (Obj.GA_CTX_FRAMES c) ∧ f.first = n % 65536 ∧
        f.time = (s.at t).itime ∧ f.receiving = true ∧ f.rows = []))) ∧
  (∀ (s : State) (t p vc n c : Nat) (f : GaFrame), s.settled = true → p < 2 → vc < 16 → s.auxOn p = true → s.bound p vc = [c] → Claims.onlyFrames s c [f] →
    f.receiving = true → f.set.height ≤ f.rows.length →
    answers (.frameEnd t p vc n .clean) s (fun u => effects t [] Claims.viewPieces (Claims.viewNums c) s u ∧ (u.gaCtx c).open_ = none)) ∧
  (∀ (s : State) (t c : Nat) (f : GaFrame), s.settled = true → c < 8 → Claims.onlyFrames s c [f] → f.receiving = true → f.rows.length < f.set.height →
    f.set.source ≠ 3 → (s.gaCtx c).packetAt + f.set.timeout * 1000000 ≤ Nat.max s.now t →
    answers (.frameTimeout t c) s (fun u =>
      effects t [(0x2602, 0)] Claims.viewPieces (Obj.GA_CTX_FRAMES_SHORT c :: Claims.viewNums c) s u ∧
      Claims.counts 32 (Obj.GA_CTX_FRAMES_SHORT c) s u ∧ (u.gaCtx c).open_ = none)) ∧
  (∀ (s : State) (t p vc dt c : Nat) (f : GaFrame) (l : List Byte), s.settled = true → p < 2 → vc < 16 → s.auxOn p = true → s.bound p vc = [c] →
    (s.gaCtx c).applied.dt = dt → Claims.onlyFrames s c [f] → f.receiving = true → f.rows.length < f.set.height →
    (unpackLine dt l).length = f.set.cols * perPixel dt →
    ceilDiv ((f.rows.length + 1) * f.set.cols * storedBytes f.set) 4096 ≤ (s.gaCtx c).applied.resBlocks →
    answers (.longPacket t p vc dt .clean true l) s (fun u => effects t [] Claims.viewPieces (Claims.viewNums c) s u ∧
      (∃ g : GaFrame, (u.gaCtx c).open_ = some g ∧ g.rows = f.rows ++ [fitLine f.set (unpackLine dt l)] ∧ g.flags = f.flags ∧ g.seq = f.seq))) ∧
  (∀ (s : State) (t c v : Nat) (r : Requester), s.settled = true → c < 8 → s.takesWrite t r (Obj.GA_CTX_APPLY c) (leBytes 1 v) = true →
    s.applyRefusal c = none → (s.gaCtx c).open_ = none →
    answers (.gaCtxApply t r c v) s (fun u => written t r [] [.ga] [Obj.GA_CTX_FRAMES c, Obj.GA_CTX_STATUS c] s u ∧
      u.gaCtx c = { s.gaCtx c with applied := s.editSet c, pending := none, fresh := true } ∧ (∀ k, k ≠ c → u.gaCtx k = s.gaCtx k) ∧
      u.reg (Obj.GA_CTX_FRAMES c) = 0 ∧ u.flag (Obj.GA_CTX_STATUS c) 0 = (s.editSet c).enable)) ∧
  (∀ (s : State) (t c : Nat) (f : GaFrame) (i : ViewItem), s.settled = true → c < 8 → Claims.onlyFrames s c [f] → f.receiving = false → f.toBegin = [] →
    f.items = [i] → i.kind < 7 →
    answers (.viewItemDone t c i.kind) s (fun u =>
      effects t [] (.portA :: .portB :: .rg :: .free :: Claims.viewPieces) (Claims.viewNums c) s u ∧ (u.gaCtx c).frames = [] ∧
      (∀ x, x ∈ u.ga.items → x.id = i.id → x.offset = i.offset → x.state = 1))) ∧
  (∀ (s : State) (t : Nat), s.settled = true → s.ga.clock = true → s.pipeOrders = [] → s.ga.workAt + 50000 ≤ Nat.max s.now t →
    answers (.galleryClockStop t) s (fun u => effects t [] [.ga] [Obj.GA_STATUS] s u ∧ u.ga = { s.ga with clock := false } ∧
      u.reg Obj.GA_STATUS = withBit (s.reg Obj.GA_STATUS) 0 false))

/-- The monitor's channels (R397, R398, R401, R403 to R406): the reference and SYNC_RESET reset channels, a written setting is kept and resets its channel, a
channel settles, a self-calibration runs for 42 ms and is adopted or rejected, the background correction writes its factors. Readings it rests on: log entry
48. -/
def Obligations.ChannelResults : Prop :=
  (∀ (s : State) (t : Nat), s.settled = true → (s.at t).refReady = true →
    answers (.referenceReady t) s (fun u => effects t [] [.am] Claims.channelNums s u ∧
      (∀ c, if (s.am.chan c).running = true ∧ (s.am.chan c).resetAt < s.am.refAt.getD 0 + 5000000 then Claims.chanRestarts c (Nat.max s.now t) s u
        else u.am.chan c = s.am.chan c))) ∧
  (∀ (s : State) (t v : Nat) (r : Requester), s.settled = true → s.takesWrite t r Obj.AM_REF_BUFFER (leBytes 1 v) = true → v < 2 →
    answers (.amRefBuffer t r v) s (fun u => written t r [] [.am] (Obj.AM_REF_BUFFER :: Claims.channelNums) s u ∧ u.reg Obj.AM_REF_BUFFER = v ∧
      u.am.refAt = (if v = 1 then some (s.am.refAt.getD (Nat.max s.now t)) else none) ∧ (∀ c, (u.am.chan c).running = u.chanClock c))) ∧
  (∀ (s : State) (t v : Nat) (r : Requester), s.settled = true → s.takesWrite t r Obj.AM_SYNC_RESET (leBytes 1 v) = true → v < 256 →
    answers (.amSyncReset t r v) s (fun u => written t r [] [.am] Claims.channelNums s u ∧
      (∀ c, if bit v c.code = true then Claims.chanRestarts c (Nat.max s.now t) s u else u.am.chan c = s.am.chan c))) ∧
  (∀ (s : State) (t k : Nat) (c : Chan) (r : Requester) (l : List Byte), s.settled = true → 2 ≤ k → k ≤ 6 →
    s.takesWrite t r (0x270100 + 256 * c.code + k) l = true →
    answers (.amChannelConfigWrite t r (0x270100 + 256 * c.code + k) l) s (fun u =>
      written t r [] [.am] ((0x270100 + 256 * c.code + k) :: Claims.channelNums) s u ∧ u.reg (0x270100 + 256 * c.code + k) = leNat l ∧
      Claims.chanRestarts c (Nat.max s.now t) s u)) ∧
  (∀ (s : State) (t : Nat) (c : Chan) (r : Requester) (l : List Byte), s.settled = true → s.takesWrite t r (Obj.AM_CH_ENABLE c.code) l = true →
    answers (.amChannelConfigWrite t r (Obj.AM_CH_ENABLE c.code) l) s (fun u =>
      written t r [] [.am] (Obj.AM_CH_ENABLE c.code :: Claims.channelNums) s u ∧ u.reg (Obj.AM_CH_ENABLE c.code) = leNat l ∧
      (u.am.chan c).running = u.chanClock c)) ∧
  (∀ (s : State) (t k : Nat) (r : Requester) (l : List Byte), s.settled = true → k < 8 → s.takesWrite t r (Obj.AM_IN_OFFSET k) l = true →
    answers (.amChannelConfigWrite t r (Obj.AM_IN_OFFSET k) l) s (fun u => written t r [] [.am, .work] Claims.channelNums s u ∧
      u.wrk (Obj.AM_IN_OFFSET k) = leNat l ∧
      (s.reg (Obj.AM_CH_INPUT (k / 4)) = k % 4 → Claims.chanRestarts (chanOf (k / 4)) (Nat.max s.now t) s u))) ∧
  (∀ (s : State) (t : Nat) (c : Chan), s.settled = true → (s.am.chan c).running = true → (s.at t).refReady = true →
    s.am.refAt.getD 0 + 5000000 ≤ (s.am.chan c).resetAt → (s.am.chan c).calUntil = none → (s.am.chan c).settledAt = none → s.settleAt c ≤ Nat.max s.now t →
    answers (.channelSettled t c) s (fun u => effects t [] [.am] Claims.channelNums s u ∧
      u.am.chan c = { s.am.chan c with settledAt := some (Nat.max s.now t) } ∧ u.flag (Obj.AM_CH_STATUS c.code) 2 = true)) ∧
  (∀ (s : State) (t v : Nat) (r : Requester), s.settled = true → s.takesWrite t r Obj.AM_CAL_START (leBytes 1 v) = true → s.readyOrRunning = true →
    (s.at t).refReady = true → (∀ c, bit v c.code = true → (s.am.chan c).calUntil = none) → 1 ≤ v → v ≤ 3 →
    answers (.amCalStart t r v) s (fun u => written t r [] [.am] (Obj.AM_CAL_STATUS :: Claims.channelNums) s u ∧
      (∀ c, bit v c.code = true → (u.am.chan c).calUntil = some (Nat.max s.now t + 42000000) ∧ (u.am.chan c).settledAt = none ∧
        u.flag Obj.AM_CAL_STATUS c.code = true))) ∧
  (∀ (s : State) (t a : Nat) (c : Chan) (m : MonCal), s.settled = true → (s.am.chan c).calUntil = some a → a ≤ Nat.max s.now t → m.spur < 65536 →
    m.factors.length = 48 →
    (s.reg Obj.AM_CAL_MIN_SPUR ≤ m.spur → answers (.amCalVerdict t c m) s (fun u =>
      effects t [(0x2706, 0)] [.am, .work, .bytes, .version] (Obj.AM_CAL_STATUS :: Claims.channelNums) s u ∧
      u.cat.work.all (Claims.factorsOf c) = m.factors ∧ (u.am.chan c).calUntil = none ∧ Claims.chanRestarts c (Nat.max s.now t) s u)) ∧
    (m.spur < s.reg Obj.AM_CAL_MIN_SPUR → answers (.amCalVerdict t c m) s (fun u =>
      effects t [(0x2705, c.code * 2 ^ 24 + m.spur)] [.am, .bytes, .version] (Obj.AM_CAL_STATUS :: Claims.channelNums) s u ∧
      (u.am.chan c).calUntil = none ∧ Claims.chanRestarts c (Nat.max s.now t) s u))) ∧
  (∀ (s : State) (t : Nat) (c : Chan) (m : MonCal), s.settled = true → s.reg Obj.AM_BG_ENABLE = 1 → (s.am.chan c).running = true → (s.at t).refReady = true →
    (s.am.chan c).calUntil = none → (s.am.chan c).bgAt + 1048576 ≤ Nat.max s.now t → m.factors.length = 48 →
    answers (.bgFactorUpdate t c m) s (fun u => effects t [] [.am, .work, .version] [Obj.AM_CH_SPUR c.code] s u ∧ u.reg (Obj.AM_CH_SPUR c.code) = m.spur ∧
      (u.am.chan c).bgAt = Nat.max s.now t ∧ (∀ k j, k < 4 → j < 6 → (u.cat.work.byte (Claims.factorsOf c) (8 * k + j)) = m.factors.getD (8 * k + j) 0))) ∧
  (∀ (s : State) (t : Nat) (c : Chan), s.settled = true → s.reg Obj.AM_BG_ENABLE = 1 → (s.am.chan c).running = true →
    (s.am.chan c).spurBand = s.spurBand (s.reg (Obj.AM_CH_SPUR c.code)) → (s.am.chan c).spurFrom + 1000000000 ≤ Nat.max s.now t →
    (s.spurBand (s.reg (Obj.AM_CH_SPUR c.code)) = 0 → s.flag (Obj.AM_CH_STATUS c.code) 4 = false →
      answers (.amSpurLow t c) s (fun u => effects t [(0x2707, 0)] [] [Obj.AM_CH_STATUS c.code] s u ∧ u.flag (Obj.AM_CH_STATUS c.code) 4 = true)) ∧
    (s.spurBand (s.reg (Obj.AM_CH_SPUR c.code)) = 2 →
      answers (.amSpurLow t c) s (fun u => effects t [] [] [Obj.AM_CH_STATUS c.code] s u ∧ u.flag (Obj.AM_CH_STATUS c.code) 4 = false)))

/-- Accumulators, trackers and detectors (R396, R408 to R416): a window opens at its gate, at a pin's edge or at the host's request; its result is latched; an
overlap, a clip and an overflow are recorded; a tracker is cleared; a detector's block is counted. Readings it rests on: log entry 48. -/
def Obligations.WindowResults : Prop :=
  (∀ (s : State) (t k : Nat) (f : Flight), s.settled = true → k < 8 → s.la.flights = [f] → f.exposing = false → s.reg (Obj.AM_ACC_GATE k) = 1 →
    s.reg (Obj.AM_ACC_ENABLE k) = 1 → f.t0 + 110 ≤ Nat.max s.now t → Nat.max s.now t < f.t0 + 110 + f.exposure →
    hasWindow (s.am.acc k).windows 1 (f.trig.number % 2 ^ 32) = false →
    answers (.accWindowOpen t (.acc k)) s (fun u => effects t [] [.am] [] s u ∧
      (∃ w : Window, (u.am.acc k).windows = (s.am.acc k).windows ++ [w] ∧ w.openAt = Nat.max s.now t ∧ w.closeAt = some (f.t0 + 110 + f.exposure) ∧
        w.line = f.trig.number % 2 ^ 32 ∧ w.gate = 1 ∧ w.sum = 0))) ∧
  (∀ (s : State) (t k slice : Nat) (w : Window) (codes : List (BitVec 12)), s.settled = true → k < 8 → (s.am.acc k).windows = [w] →
    (s.at t).takeClosed [w] = some (w, []) → w.line < 2 ^ 32 →
    (addOutputs (presetD (s.preset (chanOf w.chan))) w.sum w.ovf (s.windowOutputs w slice codes)).2 = w.ovf →
    answers (.accResultLatch t (.acc k) slice codes) s (fun u => effects t [] [.am, .bytes, .version] [Obj.AM_ACC_WINDOWS k] s u ∧
      (u.am.acc k).windows = [] ∧ (u.am.acc k).lastLine = some w.line ∧
      (u.am.acc k).lastValue = (addOutputs (presetD (s.preset (chanOf w.chan))) w.sum w.ovf (s.windowOutputs w slice codes)).1 ∧
      u.cat.vol.le (Obj.AM_ACC_RESULT k) 8 4 = w.line ∧ Claims.counts 32 (Obj.AM_ACC_WINDOWS k) s u)) ∧
  (∀ (s : State) (t pin : Nat), s.settled = true → s.readyOrRunning = true → pin < 256 →
    (∀ k, k < 8 → s.reg (Obj.AM_ACC_PIN k) = pin → openNow (Nat.max s.now t) (s.am.acc k).windows = false) →
    answers (.accPinTrigger t pin) s (fun u => effects t [] [.am, .pins] [] s u ∧ u.pins = { s.pins with pads := storeInsert pin true s.pins.pads } ∧
      (∀ k, k < 8 → s.reg (Obj.AM_ACC_PIN k) = pin → s.reg (Obj.AM_ACC_ENABLE k) = 1 → s.reg (Obj.AM_ACC_GATE k) = 8 →
        Claims.triggered k 8 s u (Nat.max s.now t)) ∧
      (∀ k, s.reg (Obj.AM_ACC_PIN k) ≠ pin → u.am.acc k = s.am.acc k))) ∧
  (∀ (s : State) (t k v : Nat) (r : Requester), s.settled = true → s.readyOrRunning = true → k < 8 → s.takesWrite t r (Obj.AM_ACC_CAPTURE k) (leBytes 1 v) = true →
    s.reg (Obj.AM_ACC_ENABLE k) = 1 → s.reg (Obj.AM_ACC_GATE k) = 9 →
    (openNow (Nat.max s.now t) (s.am.acc k).windows = false → answers (.amAccCapture t r k v) s (fun u => written t r [] [.am] [] s u ∧
      Claims.triggered k 9 s u (Nat.max s.now t))) ∧
    (openNow (Nat.max s.now t) (s.am.acc k).windows = true → answers (.amAccCapture t r k v) s (fun u =>
      written t r [(0x2701, 0)] [] [Obj.AM_ACC_OVERLAPS k] s u ∧ Claims.counts 32 (Obj.AM_ACC_OVERLAPS k) s u))) ∧
  (∀ (s : State) (t k v : Nat) (r : Requester), s.settled = true → k < 4 → s.takesWrite t r (Obj.AM_MM_CLEAR k) (leBytes 1 v) = true →
    answers (.amMmClear t r k v) s (fun u => written t r [] [.am, .bytes, .version] [] s u ∧ (u.am.mm k).samples = 0 ∧ (u.am.mm k).min = 8388607 ∧
      (u.am.mm k).max = -8388608 ∧ (u.am.mm k).windows = [] ∧ (∀ c, u.am.chan c = s.am.chan c) ∧ u.cat.vol.le (Obj.AM_MM_RESULT k) 12 4 = 0)) ∧
  (∀ (s : State) (t slice : Nat) (c : Chan) (codes : List (BitVec 12)), s.settled = true → s.reg (Obj.AM_GZ_ENABLE c.code) = 1 →
    (s.am.chan c).settledAt.isSome = true → (s.am.chan c).calUntil = none → (s.am.gz c).block + 1 < 2 ^ 32 →
    answers (.gzBlockDone t c slice codes) s (fun u => effects t [] [.am, .bytes, .version] [] s u ∧
      u.am.gz c = { block := (s.am.gz c).block + 1, freq := s.reg (Obj.AM_GZ_FREQ c.code), n := s.reg (Obj.AM_GZ_N c.code) } ∧
      u.cat.vol.le (Obj.AM_GZ_RESULT c.code) 12 4 = (s.am.gz c).block + 1)) ∧
  (∀ (s : State) (t : Nat) (c : Chan), s.settled = true → (s.am.chan c).running = true →
    answers (.amClip t c) s (fun u => effects t [(0x2703, 0)] [.am] [Obj.AM_CH_CLIPS c.code] s u ∧ Claims.counts 32 (Obj.AM_CH_CLIPS c.code) s u ∧
      (u.am.gz c).clip = true ∧ (∀ d, u.am.chan d = s.am.chan d))) ∧
  (∀ (s : State) (t k slice : Nat) (w : Window) (rest : List Window) (codes : List (BitVec 12)), s.settled = true → k < 8 → (s.am.acc k).windows = w :: rest →
    w.ovf = false → (addOutputs (presetD (s.preset (chanOf w.chan))) w.sum false (s.windowOutputs w slice codes)).2 = true →
    answers (.amAccOverflow t k slice codes) s (fun u => effects t [(0x2702, 0)] [.am] [] s u ∧
      (∃ x : Window, (u.am.acc k).windows = x :: rest ∧ x.ovf = true ∧ (x.sum = 2 ^ 47 - 1 ∨ x.sum = -(2 ^ 47)) ∧ x.openAt = w.openAt ∧ x.line = w.line)))

/-- The registers and the program counter of a pin engine (R429, R430, R434): what each instruction leaves in AG, CT, SO and pc, the tick level first; TAKE
without an event and AWAIT without its condition stall. Readings it rests on: log entry 49. -/
def Obligations.PinOperationResults : Prop :=
  (∀ (s : State) (e tick : Nat), s.settled = true → e < 32 → tick < 4 → Claims.pinReady s e = true →
    answers (.ctlNop e tick) s (fun u => Claims.pinCompletes e tick (fun g => g) s u) ∧
    answers (.ctlAdd e tick) s (fun u => Claims.pinCompletes e tick (fun g => { g with ag := g.ag + g.ct }) s u) ∧
    answers (.ctlSub e tick) s (fun u => Claims.pinCompletes e tick (fun g => { g with ag := g.ag - g.ct }) s u) ∧
    answers (.ctlXch e tick) s (fun u => Claims.pinCompletes e tick (fun g => { g with ag := g.ct, ct := g.ag }) s u) ∧
    (∀ n, n < 1024 → answers (.pause e tick n) s (fun u => Claims.pinCompletes e tick (fun g => g) s u)) ∧
    ((s.pinEngine e).ev = [] → answers (.ctlTake e tick) s (fun u => Claims.pinStalls e tick .take s u)) ∧
    (∀ x r, (s.pinEngine e).ev = x :: r →
      answers (.ctlTake e tick) s (fun u => Claims.pinCompletes e tick (fun g => { g with ag := x.1, ct := x.2, ev := r }) s u)) ∧
    (∀ v, v < 512 → answers (.ldi e tick false v) s (fun u => Claims.pinCompletes e tick (fun g => { g with ag := BitVec.ofNat 32 v }) s u) ∧
      answers (.ldi e tick true v) s (fun u => Claims.pinCompletes e tick (fun g => { g with ct := BitVec.ofNat 32 v }) s u)) ∧
    (∀ k, k < 4 →
      answers (.ldk e tick 0 k) s (fun u => Claims.pinCompletes e tick (fun g => { g with ag := BitVec.ofNat 32 (storeGet (fun _ => 0) g.k k) }) s u) ∧
      answers (.ldk e tick 1 k) s (fun u => Claims.pinCompletes e tick (fun g => { g with ct := BitVec.ofNat 32 (storeGet (fun _ => 0) g.k k) }) s u) ∧
      answers (.ldk e tick 2 k) s (fun u => Claims.pinCompletes e tick (fun g =>
        { g with so := BitVec.ofNat 32 (storeGet (fun _ => 0) g.k k), soBits := frameOut (s.shiftCfg e) }) s u))) ∧
  (∀ (s : State) (e tick src op : Nat) (b : BitVec 8), s.settled = true → e < 32 → tick < 4 → Claims.pinReady s e = true → src < 8 → op < 4 → src ≠ 4 →
    (∀ v, v = Claims.moved op (Claims.moveSource s e (Claims.ticked s e tick) src) →
      answers (.move e tick 0 src op b) s (fun u => Claims.pinCompletes e tick (fun g => { g with ag := v }) s u) ∧
      answers (.move e tick 1 src op b) s (fun u => Claims.pinCompletes e tick (fun g => { g with ct := v }) s u) ∧
      answers (.move e tick 2 src op b) s (fun u => Claims.pinCompletes e tick (fun g => { g with so := v, soBits := frameOut (s.shiftCfg e) }) s u) ∧
      answers (.move e tick 3 src op b) s (fun u => Claims.pinCompletes e tick (fun g => { g with si := v, siBits := 0 }) s u) ∧
      answers (.move e tick 4 src op b) s (fun u => Claims.pinCompletes e tick (fun g => s.driveField e g v.toNat 255) s u) ∧
      answers (.move e tick 5 src op b) s (fun u => Claims.pinCompletes e tick (fun g => { g with dirs := v.toNat % 256 }) s u) ∧
      answers (.move e tick 6 src op b) s (fun u =>
        Claims.pinLeaves e { Claims.ticked s e tick with pc := v.toNat % 32, stall := none } s.pins.pads s u))) ∧
  (∀ (s : State) (e tick op : Nat) (b : BitVec 8), s.settled = true → e < 32 → tick < 4 → Claims.pinReady s e = true → op < 4 →
    answers (.move e tick 0 4 op b) s (fun u => effects s.now [] [.pins] [] s u ∧ u.pins.pads = Claims.fieldPads s e b.toNat ∧
      (u.pinEngine e).ag = Claims.moved op (BitVec.ofNat 32 ((s.seeField e b.toNat).readField e (s.fieldWidth e))) ∧
      (u.pinEngine e).pc = (s.pinEngine e).follow)) ∧
  (∀ (s : State) (e tick cond target : Nat) (level : Bool), s.settled = true → e < 32 → tick < 4 → Claims.pinReady s e = true → cond < 14 → target < 32 →
    cond ≠ 7 → cond ≠ 8 →
    (s.goTaken e (Claims.ticked s e tick) cond = true → answers (.go e tick cond target level) s (fun u =>
      Claims.pinLeaves e { Claims.ticked s e tick with pc := target, stall := none
                                                       ct := if cond = 4 then (s.pinEngine e).ct - 1 else (s.pinEngine e).ct } s.pins.pads s u)) ∧
    (s.goTaken e (Claims.ticked s e tick) cond = false → answers (.go e tick cond target level) s (fun u =>
      Claims.pinCompletes e tick (fun g => g) s u))) ∧
  (∀ (s : State) (e tick target : Nat) (level : Bool), s.settled = true → e < 32 → tick < 4 → Claims.pinReady s e = true → target < 32 →
    s.pinDrive (s.probeBase e) = none → cfgFunc (s.pinCfg (s.probeBase e)) < 3 → s.probeBase e % 2 = 0 →
    answers (.go e tick 7 target level) s (fun u => u.pins.pads = storeInsert (s.probeBase e) level s.pins.pads ∧ effects s.now [] [.pins] [] s u ∧
      (u.pinEngine e).pc = (if (level != cfgInvert (s.pinCfg (s.probeBase e))) = true then target else (s.pinEngine e).follow)) ∧
    answers (.go e tick 8 target level) s (fun u => u.pins.pads = storeInsert (s.probeBase e) level s.pins.pads ∧ effects s.now [] [.pins] [] s u ∧
      (u.pinEngine e).pc = (if (level != cfgInvert (s.pinCfg (s.probeBase e))) = true then (s.pinEngine e).follow else target))) ∧
  (∀ (s : State) (e tick src idx : Nat) (sense level : Bool), s.settled = true → e < 32 → tick < 4 → Claims.pinReady s e = true →
    awaitExists sense src idx = true → src ≠ 0 →
    (s.awaitHolds e (Claims.ticked s e tick) sense src idx s.lt.pulses s.lt.starts = true →
      answers (.await e tick sense src idx level) s (fun u => Claims.pinCompletes e tick (fun g => g) s u)) ∧
    (s.awaitHolds e (Claims.ticked s e tick) sense src idx s.lt.pulses s.lt.starts = false →
      answers (.await e tick sense src idx level) s (fun u => Claims.pinStalls e tick (.await sense src idx) s u)))

/-- Pins and shifting (R430, R431): levels and directions of the field pins; bits out of SO and into SI at the end that the settings name, refills from TX and
frames to RX, which stall where they must wait. Readings it rests on: log entry 49. -/
def Obligations.PinShiftResults : Prop :=
  (∀ (s : State) (e tick v : Nat), s.settled = true → e < 32 → tick < 4 → Claims.pinReady s e = true → v < 256 →
    answers (.pinLevels e tick v) s (fun u => Claims.pinCompletes e tick (fun g => s.driveField e g v 255) s u) ∧
    answers (.pinSet e tick v) s (fun u => Claims.pinCompletes e tick (fun g => s.driveField e g v v) s u) ∧
    answers (.pinClear e tick v) s (fun u => Claims.pinCompletes e tick (fun g => s.driveField e g 0 v) s u) ∧
    answers (.pinDirections e tick v) s (fun u => Claims.pinCompletes e tick (fun g => { g with dirs := v }) s u)) ∧
  (∀ (s : State) (e tick v i : Nat), s.settled = true → e < 32 → tick < 4 → Claims.pinReady s e = true → v < 256 → i < s.fieldWidth e → s.fieldWidth e ≤ 8 →
    s.owns e (s.fieldPin e i) = true →
    answers (.pinLevels e tick v) s (fun u => (u.pinEngine e).level (s.fieldPin e i) = bit v i)) ∧
  (∀ (s : State) (e tick n : Nat), s.settled = true → e < 32 → tick < 4 → Claims.pinReady s e = true → 1 ≤ n → n ≤ 32 → n ≤ (s.pinEngine e).soBits →
    (bit (s.shiftCfg e) 3 = true →
      answers (.shout e tick 1 n) s (fun u => Claims.pinCompletes e tick (fun g =>
        { g with ag := BitVec.ofNat 32 (g.so.toNat / 2 ^ (32 - n)), so := g.so <<< n, soBits := g.soBits - n }) s u) ∧
      answers (.shout e tick 0 n) s (fun u => Claims.pinCompletes e tick (fun g =>
        s.driveField e { g with so := g.so <<< n, soBits := g.soBits - n } (g.so.toNat / 2 ^ (32 - n)) (2 ^ n - 1)) s u)) ∧
    (bit (s.shiftCfg e) 3 = false →
      answers (.shout e tick 2 n) s (fun u => Claims.pinCompletes e tick (fun g =>
        { g with ct := BitVec.ofNat 32 (g.so.toNat % 2 ^ n), so := g.so >>> n, soBits := g.soBits - n }) s u) ∧
      answers (.shout e tick 3 n) s (fun u => Claims.pinCompletes e tick (fun g => { g with so := g.so >>> n, soBits := g.soBits - n }) s u))) ∧
  (∀ (s : State) (e tick dst n : Nat), s.settled = true → e < 32 → tick < 4 → Claims.pinReady s e = true → dst < 4 → 1 ≤ n → n ≤ 32 →
    bit (s.shiftCfg e) 1 = true → (s.pinEngine e).soBits = 0 → (s.pinEngine e).tx = [] →
    answers (.shout e tick dst n) s (fun u => Claims.pinStalls e tick (.shout dst n) s u)) ∧
  (∀ (s : State) (e tick n : Nat) (b : BitVec 8) (w : Word), s.settled = true → e < 32 → tick < 4 → Claims.pinReady s e = true → 1 ≤ n → n ≤ 32 →
    bit (s.shiftCfg e) 0 = false → w = BitVec.ofNat 32 ((s.pinEngine e).ag.toNat % 2 ^ n) →
    answers (.shin e tick 1 n b) s (fun u => Claims.pinCompletes e tick (fun g =>
      { g with si := (if bit (s.shiftCfg e) 2 then (g.si <<< n) ||| w else (g.si >>> n) ||| (w <<< (32 - n)))
               siBits := Nat.min 32 (g.siBits + n) }) s u)) ∧
  (∀ (s : State) (e tick n : Nat) (b : BitVec 8), s.settled = true → e < 32 → tick < 4 → Claims.pinReady s e = true → 1 ≤ n → n ≤ 32 →
    bit (s.shiftCfg e) 0 = true → frameIn (s.shiftCfg e) ≤ Nat.min 32 ((s.pinEngine e).siBits + n) →
    ((s.pinEngine e).rx.length < 8 → answers (.shin e tick 1 n b) s (fun u =>
      effects s.now [] [.pins] [] s u ∧ (∃ w, (u.pinEngine e).rx = (s.pinEngine e).rx ++ [w]) ∧ (u.pinEngine e).siBits = 0)) ∧
    (8 ≤ (s.pinEngine e).rx.length → answers (.shin e tick 1 n b) s (fun u => Claims.pinStalls e tick (.shin 1 n) s u))) ∧
  (∀ (s : State) (e tick : Nat) (block : Bool), s.settled = true → e < 32 → tick < 4 → Claims.pinReady s e = true →
    (∀ w r, (s.pinEngine e).tx = w :: r → answers (.fill e tick false block) s (fun u =>
      Claims.pinCompletes e tick (fun g => { g with so := w, soBits := frameOut (s.shiftCfg e), tx := r }) s u)) ∧
    ((s.pinEngine e).tx = [] → answers (.fill e tick false true) s (fun u => Claims.pinStalls e tick (.fill false true) s u) ∧
      answers (.fill e tick false false) s (fun u =>
        Claims.pinCompletes e tick (fun g => { g with so := g.ag, soBits := frameOut (s.shiftCfg e) }) s u)) ∧
    ((s.pinEngine e).soBits ≠ 0 → answers (.fill e tick true block) s (fun u => Claims.pinCompletes e tick (fun g => g) s u)) ∧
    ((s.pinEngine e).rx.length < 8 → answers (.send e tick false block) s (fun u =>
      Claims.pinCompletes e tick (fun g => { g with rx := g.rx ++ [g.si], siBits := 0 }) s u)) ∧
    (8 ≤ (s.pinEngine e).rx.length → answers (.send e tick false true) s (fun u => Claims.pinStalls e tick (.send false true) s u) ∧
      answers (.send e tick false false) s (fun u => effects s.now [(0x2805, 0)] [.pins] [Obj.PEN_RX_DROPS e] s u ∧
        Claims.counts 32 (Obj.PEN_RX_DROPS e) s u ∧ (u.pinEngine e).rx = (s.pinEngine e).rx ∧ (u.pinEngine e).siBits = 0)) ∧
    ((s.pinEngine e).siBits < frameIn (s.shiftCfg e) → answers (.send e tick true block) s (fun u => Claims.pinCompletes e tick (fun g => g) s u)))

/-- The banks and the pin engines' control (R422, R423, R429, R438 to R442): a bad supply code shuts a bank; a configuration, a program, a patch and a pushed word
are stored; an injection runs once; enabling, stopping and restarting; a GET takes a word from RX; a stall ends when its condition holds. Readings it rests
on: log entry 49. -/
def Obligations.PinControlResults : Prop :=
  (∀ (s : State) (t b : Nat) (codes : List Nat), s.settled = true → codes.length = 8 → b < 8 → (∀ k, k < 8 → codes.getD k 0 < 256) →
    (∀ k, k < 8 → k ≠ b → (s.vioBank k).faulty = false ∧ 1 ≤ codes.getD k 0 ∧ codes.getD k 0 ≤ 3 ∧ ((s.vioBank k).accepted = none ∨ (s.vioBank k).accepted = some (codes.getD k 0))) →
    (s.vioBank b).faulty = false → codes.getD b 0 = 0 →
    answers (.bankVioSample t codes) s (fun u => effects t [(0x2802, 256 * b)] [.pins, .bytes, .version] [Obj.PE_STATUS] s u ∧
      (u.vioBank b).faulty = true ∧ u.flag Obj.PE_STATUS b = true ∧ (∀ p, p / 32 = b → u.pinDrive p = none) ∧
      (∀ k, k < 8 → k ≠ b → (u.vioBank k).faulty = false ∧ (u.vioBank k).accepted = some (codes.getD k 0)) ∧
      (∀ k, k < 8 → u.cat.vol.byte Obj.PE_BANK_VIO k = BitVec.ofNat 8 (codes.getD k 0)))) ∧
  (∀ (s : State) (t : Nat) (r : Requester) (l : List Byte), s.settled = true → s.hearsRequest r = true → s.tile.state = .ready → s.cat.transfers = [] →
    l.length = 1024 → s.pinCfgRefused l = false →
    answers (.pePinCfg t r l) s (fun u =>
      effects t [] (pathPieces r ++ [.pins, .work, .version, .transfers]) [Obj.CAT_REQUESTS, Obj.CAT_SEG_OPEN, Obj.TW_ALERT_PENDING] s u ∧
      u.cat.work.all Obj.PE_PIN_CFG = l ∧ u.pins.engines = s.pins.engines ∧ u.cat.transfers = [])) ∧
  (∀ (s : State) (t e : Nat) (r : Requester) (l : List Byte), s.settled = true → e < 32 → s.takesWrite t r (Obj.PEN_PROGRAM e) l = true →
    programCheck l = none → leAt l 0x28 4 = 0 → s.secure = false →
    answers (.peProgram t r e l) s (fun u => written t r [] [.pins, .bytes, .version] [] s u ∧ u.cat.vol.all (Obj.PEN_PROGRAM e) = l ∧
      (u.pinEngine e).wordCount = leAt l 0x10 1 ∧ (u.pinEngine e).entry = leAt l 0x11 1 ∧ (u.pinEngine e).loaded = true ∧ (u.pinEngine e).pc = (s.pinEngine e).pc ∧
      (∀ i, i < leAt l 0x10 1 → storeGet (fun _ => 0) (u.pinEngine e).words i = leAt l (48 + 2 * i) 2) ∧
      (∀ i, i < 4 → storeGet (fun _ => 0) (u.pinEngine e).k i = leAt l (0x18 + 4 * i) 4) ∧ (∀ k, k ≠ e → u.pinEngine k = s.pinEngine k))) ∧
  (∀ (s : State) (t e v : Nat) (r : Requester), s.settled = true → e < 32 →
    (s.takesWrite t r (Obj.PEN_PATCH e) (leBytes 4 v) = true → v < 2 ^ 32 → answers (.pePatch t r e v) s (fun u => written t r [] [.pins] [] s u ∧
      u.pinEngine e = { s.pinEngine e with words := storePut (fun _ => 0) (s.pinEngine e).words (v / 65536 % 32) (v % 65536) } ∧
      (∀ k, k ≠ e → u.pinEngine k = s.pinEngine k))) ∧
    (s.takesWrite t r (Obj.PEN_TX e) (leBytes 4 v) = true → v < 2 ^ 32 → answers (.peTx t r e v) s (fun u => written t r [] [.pins] [] s u ∧
      u.pinEngine e = { s.pinEngine e with tx := (s.pinEngine e).tx ++ [BitVec.ofNat 32 v] } ∧ (∀ k, k ≠ e → u.pinEngine k = s.pinEngine k))) ∧
    (∀ k, s.takesWrite t r (Obj.PEN_INJECT e) (leBytes 4 v) = true → v < 65536 → pinDecode v = some (.ldi false k, 0) →
      (s.pinEngine e).stall = none → answers (.peInject t r e v) s (fun u => written t r [] [.pins] [] s u ∧
        (u.pinEngine e).ag = BitVec.ofNat 32 k ∧ (u.pinEngine e).pc = (s.pinEngine e).pc ∧ (u.pinEngine e).injecting = none ∧
        (∀ j, j ≠ e → u.pinEngine j = s.pinEngine j))) ∧
    (s.takesWrite t r Obj.PE_RESTART (leBytes 4 v) = true → v < 2 ^ 32 → answers (.peRestart t r v) s (fun u => written t r [] [.pins] [] s u ∧
      (∀ k, k < 32 → u.pinEngine k = if bit v k then
        { s.pinEngine k with pc := (s.pinEngine k).entry, ag := 0, ct := 0, si := 0, tx := [], rx := [], ev := [], soBits := 0, siBits := 0, dirs := 255, stall := none
                             kept := none, injecting := none, resume := none } else s.pinEngine k))) ∧
    (s.takesWrite t r Obj.PE_ENABLE (leBytes 4 v) = true → v < 2 ^ 32 → (∀ k, bit v k = true → bit (s.reg Obj.PE_ENABLE) k = true) →
      answers (.peEnable t r v) s (fun u => written t r [] [.pins] [Obj.PE_ENABLE] s u ∧ u.reg Obj.PE_ENABLE = v ∧
        (∀ k, k < 32 → bit (s.reg Obj.PE_ENABLE) k = true → bit v k = false →
          u.pinEngine k = { s.pinEngine k with kept := (s.pinEngine k).stall, stall := none }) ∧
        (∀ k, bit (s.reg Obj.PE_ENABLE) k = bit v k → u.pinEngine k = s.pinEngine k)))) ∧
  (∀ (s : State) (t e v : Nat) (r : Requester), s.settled = true → e < 32 → s.takesWrite t r Obj.PE_ENABLE (leBytes 4 v) = true →
    s.reg Obj.PE_ENABLE = 0 → v = 2 ^ e → s.lacksPins e = false → (s.pinEngine e).kept = none →
    answers (.peEnable t r v) s (fun u => written t r [] [.pins] [Obj.PE_ENABLE] s u ∧ u.reg Obj.PE_ENABLE = v ∧
      u.pinEngine e = { s.pinEngine e with unowned := false } ∧ (s.pinsLive = true → u.pinRuns e = true))) ∧
  (∀ (s : State) (t e : Nat) (r : Requester) (w : Word) (l : List Word), s.settled = true → s.hearsRequest r = true → r.word = 0 → e < 32 →
    s.admits false (Obj.PEN_RX e) = true → (s.pinEngine e).rx = w :: l →
    answers (.peRx t r e) s (fun u => written t r [] [.pins] [] s u ∧ u.pinEngine e = { s.pinEngine e with rx := l } ∧
      (∃ a : Answer, Claims.answered r a.payload s u ∧ a.status = .ok ∧ a.bytes = leBytes 4 w.toNat))) ∧
  (∀ (s : State) (t e : Nat) (st : PinStall) (level sense : Bool) (idx : Nat), s.settled = true → e < 32 → s.pinRuns e = true →
    (s.pinEngine e).stall = some st → st.op = .await sense 0 idx → (s.pinEngine e).injecting = none →
    s.pinDrive ((s.probeBase e + idx) % 256) = none → cfgFunc (s.pinCfg ((s.probeBase e + idx) % 256)) < 3 → (s.probeBase e + idx) % 2 = 0 →
    answers (.peStallRelease t e level) s (fun u => effects t [] [.pins] [] s u ∧
      u.pins.pads = storeInsert ((s.probeBase e + idx) % 256) level s.pins.pads ∧
      (if (level != cfgInvert (s.pinCfg ((s.probeBase e + idx) % 256))) = sense then
        u.pinEngine e = { s.pinEngine e with pc := (s.pinEngine e).follow, stall := none }
        else u.pinEngine e = s.pinEngine e)))

/-- The controller of I2CA (R450 to R454, R464): a transfer starts on a free bus and ends with its result; arbitration, bus errors, a timeout and a hang have
their statuses; a recovery runs and ends with a STOP or STUCK. The targets and the alert line (R449, R455, R456, R459, R460): a transfer to the window moves
its pointer and commits what falls in 0x80 to 0xFF; a START in an acknowledge slot and a timeout are counted; the alert causes are set, cleared and answered.
Readings it rests on: log entry 43. -/
def Obligations.TwoWireResults : Prop :=
  (∀ (s : State) (t : Nat) (r : Requester) (l : List Byte), s.settled = true → s.takesWrite t r Obj.TW_XFER l = true → Claims.goodXfer l →
    s.flag Claims.statusA 3 = false → s.flag Claims.statusA 4 = false →
    answers (.twAXfer t r l) s (fun u => written t r [] [.tw, .bytes, .version] [Claims.statusA] s u ∧
      u.tw = { s.tw with xfer := some { addr := leAt l 0 1, wlen := leAt l 2 1, rlen := leAt l 3 1, retries := leAt l 4 1, data := l.drop 8, attempts := 1, onBus := true } } ∧
      u.flag Claims.statusA 1 = true ∧ u.flag Claims.statusA 4 = true ∧ (u.cat.vol.all Obj.TW_RESULT).take 1 = [1])) ∧
  (∀ (s : State) (t : Nat) (x : TwXfer), s.settled = true → s.tw.xfer = some x → x.onBus = true →
    (∀ data, data.length = x.rlen → answers (.twXferDone t none data) s (fun u => effects t [] [.tw, .bytes, .version] [Claims.statusA] s u ∧
      Claims.xferEnds 0 0 x.attempts data u ∧ u.flag Claims.statusA 4 = false)) ∧
    (0 < x.wlen → ∀ data, answers (.twXferDone t (some 0) data) s (fun u => effects t [] [.tw, .bytes, .version] [Claims.statusA] s u ∧
      Claims.xferEnds 2 0 x.attempts [] u ∧ u.flag Claims.statusA 4 = false)) ∧
    (∀ i data, 1 ≤ i → i ≤ x.wlen → answers (.twXferDone t (some i) data) s (fun u => effects t [] [.tw, .bytes, .version] [Claims.statusA] s u ∧
      Claims.xferEnds 3 i x.attempts [] u ∧ u.flag Claims.statusA 4 = false)) ∧
    (∀ i, x.has i = true → x.attempts ≤ x.retries → answers (.twArbLost t i) s (fun u => effects t [(0x2901, i)] [.tw] [Obj.TW_ARB_LOST] s u ∧
      u.tw = { s.tw with xfer := some { x with onBus := false } } ∧ Claims.counts 32 Obj.TW_ARB_LOST s u)) ∧
    (∀ i, x.has i = true → x.retries < x.attempts → answers (.twArbLost t i) s (fun u =>
      effects t [(0x2901, i)] [.tw, .bytes, .version] [Obj.TW_ARB_LOST, Claims.statusA] s u ∧ Claims.xferEnds 4 i x.attempts [] u ∧
      u.flag Claims.statusA 4 = s.flag Claims.statusA 4 ∧
      Claims.counts 32 Obj.TW_ARB_LOST s u)) ∧
    (∀ i start data, x.has i = true → data.length = x.readBefore i → answers (.twBusErr t i start data) s (fun u =>
      effects t [(0x2902, 0)] [.tw, .bytes, .version] [Obj.TW_BUS_ERR, Claims.statusA] s u ∧
      Claims.xferEnds 5 i x.attempts data u ∧ (start = false → u.flag Claims.statusA 4 = false) ∧
      (start = true → u.flag Claims.statusA 4 = s.flag Claims.statusA 4) ∧ Claims.counts 32 Obj.TW_BUS_ERR s u)) ∧
    (∀ i data, x.has i = true → data.length = x.readBefore i → answers (.twControllerTimeout t i data) s (fun u =>
      effects t [(0x2906, 0), (0x2903, 0)] [.tw, .bytes, .version] [Obj.TW_TIMEOUTS 0, Obj.TW_RECOVERIES, Claims.statusA] s u ∧
      Claims.xferEnds 6 i x.attempts data u ∧ u.flag Claims.statusA 4 = s.flag Claims.statusA 4 ∧ u.tw.recovering = true ∧ Claims.counts 32 Obj.TW_RECOVERIES s u))) ∧
  (∀ (s : State) (t : Nat) (x : TwXfer), s.settled = true → s.tw.xfer = some x → s.tw.recovering = false →
    answers (.twBusHang t) s (fun u => effects t [(0x2903, 0)] [.tw, .bytes, .version] [Obj.TW_RECOVERIES, Claims.statusA] s u ∧ u.tw.recovering = true ∧
      u.flag Claims.statusA 2 = true ∧
      u.tw.xfer = some { x with onBus := false, attempts := if x.onBus then x.attempts - 1 else x.attempts })) ∧
  (∀ (s : State) (t : Nat) (r : Requester), s.settled = true → s.takesWrite t r Obj.TW_RECOVER (leBytes 1 1) = true →
    answers (.twARecover t r 1) s (fun u => written t r [(0x2903, 0)] [.tw] [Obj.TW_RECOVERIES, Claims.statusA] s u ∧
      u.tw = { s.tw with recovering := true } ∧ Claims.counts 32 Obj.TW_RECOVERIES s u ∧ u.flag Claims.statusA 2 = true)) ∧
  (∀ (s : State) (t : Nat), s.settled = true → s.tw.recovering = true → s.tw.xfer = none →
    answers (.twRecoveryDone t true) s (fun u => effects t [] [.tw] [Claims.statusA] s u ∧ u.tw = { s.tw with recovering := false, a := { s.tw.a with inUse := none } } ∧
      u.flag Claims.statusA 2 = false ∧ u.flag Claims.statusA 3 = false ∧ u.flag Claims.statusA 4 = false) ∧
    answers (.twRecoveryDone t false) s (fun u => effects t [(0x2904, 0)] [.tw] [Claims.statusA] s u ∧ u.tw = { s.tw with recovering := false } ∧
      u.flag Claims.statusA 2 = false ∧ u.flag Claims.statusA 3 = true)) ∧
  (∀ (s : State) (t : Nat) (x : TwXfer), s.settled = true → s.tw.recovering = true → s.tw.xfer = some x → x.onBus = false →
    answers (.twRecoveryDone t true) s (fun u => effects t [] [.tw, .bytes, .version] [Claims.statusA] s u ∧ u.tw.recovering = false ∧
      u.tw.xfer = some { x with onBus := true, attempts := x.attempts + 1 }) ∧
    answers (.twRecoveryDone t false) s (fun u => effects t [(0x2904, 0)] [.tw, .bytes, .version] [Claims.statusA] s u ∧ u.tw.recovering = false ∧
      Claims.xferEnds 7 0 x.attempts [] u)) ∧
  (∀ (s : State) (t : Nat), s.settled = true →
    (s.tw.xfer = none → answers (.i2caBusFree t) s (fun u => effects t [] [.tw] [Claims.statusA] s u ∧
      u.tw = { s.tw with a := { s.tw.a with inUse := none } } ∧ u.flag Claims.statusA 4 = false)) ∧
    (∀ x, s.tw.xfer = some x → x.onBus = false → s.tw.recovering = false →
      answers (.i2caBusFree t) s (fun u => effects t [] [.tw, .bytes, .version] [Claims.statusA] s u ∧ u.flag Claims.statusA 4 = true ∧
        u.tw.xfer = some { x with onBus := true, attempts := x.attempts + 1 }))) ∧
  (∀ (s : State) (t : Nat) (p : TwPort), s.settled = true → s.twServes = true →
    answers (.twRsInAck t p) s (fun u => effects t [(0x2905, 0)] [] [Obj.TW_RS_ACK p.code] s u ∧ Claims.counts 32 (Obj.TW_RS_ACK p.code) s u) ∧
    answers (.twTargetTimeout t p) s (fun u => effects t [(0x2906, 0)] [] [Obj.TW_TIMEOUTS p.code] s u ∧ Claims.counts 32 (Obj.TW_TIMEOUTS p.code) s u)) ∧
  (∀ (s : State) (t addr p : Nat) (b : Byte), s.settled = true → addr < 128 → s.twServes = true → s.twAnswers .i2ca addr = true → 128 ≤ p → p < 256 →
    p - 128 < (s.cat.vol.blob Obj.TW_WINDOW_IN).len →
    answers (.i2caTargetWrite t addr [BitVec.ofNat 8 p, b]) s (fun u =>
      effects t [] [.tw, .bytes, .version] [Claims.statusA, Obj.TW_TRANSFERS 0, Obj.TW_WINDOW_SEQ] s u ∧
      u.windowByte p = b ∧ (∀ k, k < 256 → k ≠ p → u.windowByte k = s.windowByte k) ∧ u.tw.a.pointer = (p + 1) % 256 ∧
      Claims.counts 32 Obj.TW_WINDOW_SEQ s u ∧ Claims.counts 32 (Obj.TW_TRANSFERS 0) s u)) ∧
  (∀ (s : State) (t addr p : Nat) (l : List Byte), s.settled = true → addr < 128 → s.twServes = true → s.twAnswers .i2ca addr = true → p + l.length ≤ 128 →
    answers (.i2caTargetWrite t addr (BitVec.ofNat 8 p :: l)) s (fun u =>
      effects t [] [.tw] [Claims.statusA, Obj.TW_TRANSFERS 0] s u ∧ u.tw.a.pointer = (p + l.length) % 256)) ∧
  (∀ (s : State) (t addr n : Nat), s.settled = true → addr < 128 → s.twServes = true → s.twAnswers .i2ca addr = true →
    answers (.i2caTargetRead t addr n) s (fun u => effects t [] [.tw] [Claims.statusA, Obj.TW_TRANSFERS 0] s u ∧
      u.tw.a.pointer = (s.tw.a.pointer + n) % 256)) ∧
  (∀ (s : State) (t : Nat) (p : TwPort), s.settled = true → s.drivesAlert = true → s.reg Obj.TW_ALERT_PORT = p.code → s.reg (Obj.TW_ENABLE p.code) = 1 →
    answers (.alertResponse t p false) s (fun u => effects t [] [] [Obj.TW_ALERT_PENDING] s u ∧
      u.reg Obj.TW_ALERT_PENDING = natAnd (s.reg Obj.TW_ALERT_PENDING) (255 - s.reg Obj.TW_ALERT_MASK % 256)) ∧
    answers (.alertResponse t p true) s (fun u => effects t [] [] [Obj.TW_ARA_LOST] s u ∧ Claims.counts 32 Obj.TW_ARA_LOST s u)) ∧
  (∀ (s : State) (t v : Nat) (r : Requester), s.settled = true →
    (s.takesWrite t r Obj.TW_ALERT_SET (leBytes 1 1) = true →
      answers (.twAlertSet t r 1) s (fun u => written t r [] [] [] s u ∧ u.flag Obj.TW_ALERT_PENDING 4 = true)) ∧
    (s.takesWrite t r Obj.TW_ALERT_CLEAR (leBytes 1 v) = true → v < 32 →
      answers (.twAlertClear t r v) s (fun u => written t r [] [] [] s u ∧ (∀ k, 1 ≤ k → k < 8 → bit v k = true → u.flag Obj.TW_ALERT_PENDING k = false) ∧
        (∀ k, 1 ≤ k → k < 8 → bit v k = false → u.flag Obj.TW_ALERT_PENDING k = s.flag Obj.TW_ALERT_PENDING k)))) ∧
  (∀ (s : State) (t : Nat) (r : Requester) (l : List Byte), s.settled = true → s.takesWrite t r Obj.TW_WINDOW_OUT l = true → l.length = 128 →
    answers (.twAWindowOut t r l) s (fun u => written t r [] [.bytes, .version] [] s u ∧ u.cat.vol.all Obj.TW_WINDOW_OUT = l ∧
      u.flag Obj.TW_ALERT_PENDING 3 = true ∧ (∀ k, k < 128 → u.windowByte k = l.getD k 0)))

/-- Loss of lock and relock (R471 to R473, R479): a loss shows and counts; PLL-A's ends the lines in hand and the monitor's channels, PLL-B's drops the frames
received, PLL-C's bypasses at 250,000 kHz, PLL-L's takes its ports to RECOVERY; the 100th failed attempt is recorded; lock held for 20 us is told. A stopped
crystal is FAULT (R467). A clause for a condition that does not hold rests on log entry 1 (the model's choice). Readings it rests on: log entry 41. -/
def Obligations.LockResults : Prop :=
  (∀ (s : State) (t : Nat), s.settled = true →
    (Claims.holdsLock s .x → answers (.clkLockLost t .x) s (fun u => effects t [(0x1301, 4)] [.ck, .bytes, .version] [Obj.CLK_STATUS] s u ∧
      Claims.unlocked .x (Nat.max s.now t) s u)) ∧
    (Claims.holdsLock s .c → s.tile.state ≠ .run → answers (.clkLockLost t .c) s (fun u =>
      effects t [(0x1301, 2)] [.ck, .bytes, .version] [Obj.CLK_STATUS, Obj.CLK_C_FREQ] s u ∧ Claims.unlocked .c (Nat.max s.now t) s u ∧
      u.flag Obj.CLK_STATUS 8 = true ∧ u.reg Obj.CLK_C_FREQ = 250000)) ∧
    (Claims.holdsLock s .c → s.tile.state = .run → s.flag Obj.CLK_STATUS 5 = false → answers (.clkLockLost t .c) s (fun u =>
      u.reg Obj.CLK_C_FREQ = 250000 ∧ u.flag Obj.CLK_STATUS 8 = true ∧ (s.pllLost .c = none → (u.pllLost .c).isSome = true) ∧ u.notedClock = 250000)) ∧
    (Claims.holdsLock s .a → Claims.noLines s → s.lt.busyUntil ≤ Nat.max s.now t → (∀ c, s.chanClock c = false ∧ (s.am.chan c).running = false) →
      answers (.clkLockLost t .a) s (fun u => effects t [(0x1301, 0)] [.ck, .bytes, .version, .am] (Obj.CLK_STATUS :: Claims.channelNums) s u ∧
        Claims.unlocked .a (Nat.max s.now t) s u ∧ (∀ c, (u.am.chan c).running = false))) ∧
    (Claims.holdsLock s .a → answers (.clkLockLost t .a) s (fun u => u.la.flights = [] ∧ u.lt.held = none ∧ u.pllLost .a ≠ none ∧
      u.lt.busyUntil = Nat.min s.lt.busyUntil (Nat.max s.now t) ∧
      (∀ c, (u.am.chan c).running = u.chanClock c))) ∧
    (Claims.holdsLock s .b → (∀ x, x ∈ s.ga.ctxs → x.2.frames = []) → (s.tile.state ≠ .run ∨ s.flag Obj.CLK_STATUS 8 = false) → answers (.clkLockLost t .b) s (fun u =>
      effects t [(0x1301, 1)] [.ck, .bytes, .version] [Obj.CLK_STATUS] s u ∧ Claims.unlocked .b (Nat.max s.now t) s u)) ∧
    (∀ (c : Nat) (x : GaCtx) (f : GaFrame), Claims.holdsLock s .b → s.ga.ctxs = [(c, x)] → x.frames = [f] → f.items = [] → (s.tile.state ≠ .run ∨ s.flag Obj.CLK_STATUS 8 = false) →
      answers (.clkLockLost t .b) s (fun u =>
        effects t [(0x2601, 0), (0x1301, 1)] [.ck, .ga, .bytes, .version] [Obj.CLK_STATUS, Obj.GA_CTX_FRAMES_DROPPED c, Obj.GA_CTX_STATUS c] s u ∧
        (u.gaCtx c).frames = [] ∧ Claims.counts 32 (Obj.GA_CTX_FRAMES_DROPPED c) s u)) ∧
    (Claims.holdsLock s .l → answers (.clkLockLost t .l) s (fun u =>
      effects t [(0x1301, 3)] [.ck, .bytes, .version, .portA, .portB] [Obj.CLK_STATUS, Obj.LNK_PORT_STATE_A, Obj.LNK_PORT_STATE_B] s u ∧
      Claims.unlocked .l (Nat.max s.now t) s u ∧
      (∀ p, ((s.port p).carries = true → Claims.recovers p (Nat.max s.now t) s u) ∧ ((s.port p).carries = false → u.port p = s.port p)))) ∧
    (∀ p, s.pllOn p = false ∨ (s.pllLost p).isSome = true → answers (.clkLockLost t p) s (fun u => effects t [] [] [] s u))) ∧
  (∀ (s : State) (t : Nat) (p : Pll) (l : LostPll), s.settled = true → s.pllLost p = some l →
    (l.since + attemptEnd l.failed ≤ Nat.max s.now t →
      (l.failed + 1 ≠ 100 → answers (.relockAttemptFail t p) s (fun u => effects t [] [.ck] [] s u ∧
        u.ck = { s.ck with lost := storeInsert p.code { l with failed := l.failed + 1 } s.ck.lost })) ∧
      (l.failed + 1 = 100 → answers (.relockAttemptFail t p) s (fun u => effects t [(0x130A, 0)] [.ck] [] s u ∧
        u.ck = { s.ck with lost := storeInsert p.code { l with failed := 100 } s.ck.lost }))) ∧
    (l.since + 20000 ≤ Nat.max s.now t →
      ((p = .b ∧ (s.tile.state ≠ .run ∨ s.flag Obj.CLK_STATUS 8 = false) ∨ p = .l) → answers (.clkRelocked t p) s (fun u => effects t [(0x1302, 0)] [.ck] [Obj.CLK_STATUS] s u ∧
        u.ck = { s.ck with lost := storeErase p.code s.ck.lost } ∧ u.flag Obj.CLK_STATUS (lostBit p) = false)) ∧
      (p = .x → answers (.clkRelocked t p) s (fun u => effects t [(0x1302, 0)] [.ck] [Obj.CLK_STATUS] s u ∧
        u.ck = { s.ck with lost := storeErase 4 s.ck.lost, retuneX := none } ∧ u.flag Obj.CLK_STATUS 4 = false)) ∧
      (p = .a → answers (.clkRelocked t p) s (fun u => effects t [(0x1302, 0)] [.ck, .am] (Obj.CLK_STATUS :: Claims.channelNums) s u ∧
        u.ck = { s.ck with lost := storeErase 0 s.ck.lost } ∧ u.flag Obj.CLK_STATUS 1 = false ∧ (∀ c, (u.am.chan c).running = u.chanClock c))) ∧
      (p = .c → s.tile.state ≠ .run → s.ck.excursion = none → answers (.clkRelocked t p) s (fun u =>
        effects t [(0x1302, 0)] [.ck] [Obj.CLK_STATUS, Obj.CLK_C_FREQ] s u ∧ u.ck = { s.ck with lost := storeErase 2 s.ck.lost } ∧
        u.flag Obj.CLK_STATUS 2 = false ∧ u.flag Obj.CLK_STATUS 8 = false ∧ u.reg Obj.CLK_C_FREQ = s.ck.freq % 2 ^ 64)))) ∧
  (∀ (s : State) (t : Nat), s.settled = true → s.ck.waitRef = false → Claims.canFault s = true →
    answers (.clkXtalFail t) s (fun u => Claims.intoFault 5 0 s.tile.state (Nat.max s.now t) s u))

/-- PLL-C's ramp, the references, the bands and the outputs (R465, R466, R470, R474 to R479, R499): a step of at most 244 kHz or an excursion towards the target;
the end of an excursion; the hot limit with 5 degrees of hysteresis; a choice of reference, its refusal and its failure; tables, outputs and PLL-X written. A
clause for a condition that does not hold rests on log entry 1 (the model's choice). Readings it rests on: log entry 41. -/
def Obligations.ClockResults : Prop :=
  (∀ (s : State) (t : Nat), s.settled = true → s.tile.state ≠ .run → Claims.mayRamp s t → s.targetC < 2 ^ 32 →
    (s.targetC = s.ck.freq → answers (.rampInterval t) s (fun u => effects t [] [.ck] [Obj.CLK_C_TARGET] s u ∧ u.reg Obj.CLK_C_TARGET = s.targetC ∧
      u.ck = { s.ck with rampAt := Nat.max s.now t })) ∧
    (s.targetC ≠ s.ck.freq → s.tuneFor (Claims.stepTo s.ck.freq s.targetC) = some (s.ck.divider, s.ck.band) →
      answers (.rampInterval t) s (fun u => effects t [] [.ck] [Obj.CLK_C_TARGET, Obj.CLK_C_FREQ] s u ∧ u.reg Obj.CLK_C_TARGET = s.targetC ∧
        u.ck = { s.ck with rampAt := Nat.max s.now t, freq := Claims.stepTo s.ck.freq s.targetC } ∧
        (s.flag Obj.CLK_STATUS 8 = false → u.reg Obj.CLK_C_FREQ = Claims.stepTo s.ck.freq s.targetC % 2 ^ 64))) ∧
    (∀ d b, s.targetC ≠ s.ck.freq → s.tuneFor (Claims.stepTo s.ck.freq s.targetC) = some (d, b) → (d ≠ s.ck.divider ∨ b ≠ s.ck.band) →
      answers (.rampInterval t) s (fun u => effects t [] [.ck] [Obj.CLK_C_TARGET, Obj.CLK_C_FREQ, Obj.CLK_STATUS, Obj.CLK_BYPASS_COUNT] s u ∧
        u.ck = { s.ck with rampAt := Nat.max s.now t, excursion := some ⟨Claims.stepTo s.ck.freq s.targetC, d, b, Nat.max s.now t⟩ } ∧
        Claims.counts 32 Obj.CLK_BYPASS_COUNT s u ∧ u.flag Obj.CLK_STATUS 8 = true ∧ u.reg Obj.CLK_C_FREQ = 250000))) ∧
  (∀ (s : State) (t : Nat), s.settled = true → s.tile.state = .run → Claims.mayRamp s t → s.targetC ≠ s.ck.freq → s.flag Obj.CLK_STATUS 8 = false →
    s.targetC < 2 ^ 32 → s.ck.freq < 2 ^ 32 → s.tuneFor (Claims.stepTo s.ck.freq s.targetC) = some (s.ck.divider, s.ck.band) →
    answers (.rampInterval t) s (fun u => u.reg Obj.CLK_C_FREQ = Claims.stepTo s.ck.freq s.targetC ∧ u.notedClock = Claims.stepTo s.ck.freq s.targetC ∧
      u.tile = s.tile ∧ u.lt = s.lt ∧ u.cat.active = s.cat.active)) ∧
  (∀ (s : State) (t : Nat) (e : Excursion), s.settled = true → s.tile.state ≠ .run → s.ck.excursion = some e → s.pllLost .c = none →
    (e.since + 20000 ≤ Nat.max s.now t → answers (.excursionDone t) s (fun u =>
      effects t [] [.ck, .bytes, .version] [Obj.CLK_STATUS, Obj.CLK_C_FREQ] s u ∧
      u.ck = { s.ck with excursion := none, freq := e.target, divider := e.divider, band := e.band } ∧ u.flag Obj.CLK_STATUS 8 = false ∧
      u.reg Obj.CLK_C_FREQ = e.target % 2 ^ 64)) ∧
    (Nat.max s.now t < e.since + 20000 → answers (.excursionDone t) s (fun u => effects t [] [] [] s u))) ∧
  (∀ (s : State) (t : Nat) (temp : Int), s.settled = true → -32768 ≤ temp → temp < 32768 →
    (1760 < temp → s.flag Obj.CLK_STATUS 7 = false → answers (.caseTempSample t temp) s (fun u =>
      effects t [(0x1305, 0)] [.pw] (Obj.CLK_STATUS :: Obj.CLK_CASE_TEMP :: Claims.powerNums) s u ∧ u.flag Obj.CLK_STATUS 7 = true ∧
      u.reg Obj.CLK_CASE_TEMP = fromSigned 16 temp ∧ u.pw.thermal = true)) ∧
    (temp < 1680 → s.flag Obj.CLK_STATUS 7 = true → answers (.caseTempSample t temp) s (fun u =>
      effects t [(0x1306, 0)] [.pw] (Obj.CLK_STATUS :: Obj.CLK_CASE_TEMP :: Claims.powerNums) s u ∧ u.flag Obj.CLK_STATUS 7 = false ∧
      u.reg Obj.CLK_CASE_TEMP = fromSigned 16 temp)) ∧
    ((temp ≤ 1760 ∨ s.flag Obj.CLK_STATUS 7 = true) → (1680 ≤ temp ∨ s.flag Obj.CLK_STATUS 7 = false) → answers (.caseTempSample t temp) s (fun u =>
      effects t [] [.pw] (Obj.CLK_CASE_TEMP :: Claims.powerNums) s u ∧ u.reg Obj.CLK_CASE_TEMP = fromSigned 16 temp ∧
      u.pw.thermal = (if 1600 ≤ temp then true else if temp < 1520 then false else s.pw.thermal)))) ∧
  (∀ (s : State) (t v : Nat) (r : Requester), s.settled = true → s.takesWrite t r Obj.CLK_REF_SEL (leBytes 1 v) = true → v < 2 →
    (v = s.reg Obj.CLK_REF_ACTIVE → (v = 1 → s.isUp .a = true) → answers (.clkRefSel t r v) s (fun u =>
      written t r [] [.ck] [Obj.CLK_REF_SEL, Obj.CLK_STATUS] s u ∧ u.reg Obj.CLK_REF_SEL = v ∧ u.flag Obj.CLK_STATUS 6 = false ∧
      u.ck = { s.ck with waitRef := false })) ∧
    (v = 1 → s.isUp .a = false → answers (.clkRefSel t r v) s (fun u =>
      written t r [(0x1303, 0)] [.ck] [Obj.CLK_REF_SEL, Obj.CLK_STATUS] s u ∧ u.reg Obj.CLK_REF_SEL = 1 ∧ u.flag Obj.CLK_STATUS 6 = true ∧
      u.reg Obj.CLK_REF_ACTIVE = s.reg Obj.CLK_REF_ACTIVE)) ∧
    (v ≠ s.reg Obj.CLK_REF_ACTIVE → (v = 1 → s.isUp .a = true) → s.tile.state = .ready → answers (.clkRefSel t r v) s (fun u =>
      u.reg Obj.CLK_REF_SEL = v ∧ u.reg Obj.CLK_REF_ACTIVE = v ∧ u.flag Obj.CLK_STATUS 0 = Nat.beq v 1 ∧
      (∀ p, p ≠ .b → u.pllLost p ≠ none) ∧ u.pllLost .b = s.pllLost .b))) ∧
  (∀ (s : State) (t : Nat), s.settled = true →
    (s.reg Obj.CLK_REF_ACTIVE = 1 → s.tile.state = .ready → Claims.noLines s → s.lt.busyUntil ≤ Nat.max s.now t → (∀ c, s.chanClock c = false ∧ (s.am.chan c).running = false) →
      (∀ p, s.pllLost p = none) → answers (.clkRefFallback t) s (fun u =>
        effects t [(0x1301, 0), (0x1301, 2), (0x1301, 3), (0x1301, 4), (0x1303, 0)] [.ck, .bytes, .version, .portA, .portB, .am]
          ([Obj.CLK_STATUS, Obj.CLK_C_FREQ, Obj.CLK_REF_ACTIVE, Obj.LNK_PORT_STATE_A, Obj.LNK_PORT_STATE_B] ++ Claims.channelNums) s u ∧
        u.reg Obj.CLK_REF_ACTIVE = 0 ∧ u.flag Obj.CLK_STATUS 6 = true ∧ u.flag Obj.CLK_STATUS 0 = false ∧ (∀ p, p ≠ .b → u.pllLost p = some ⟨Nat.max s.now t, 0⟩))) ∧
    (s.reg Obj.CLK_REF_ACTIVE ≠ 1 → answers (.clkRefFallback t) s (fun u => effects t [] [] [] s u))) ∧
  (∀ (s : State) (t : Nat) (p : Pll) (r : Requester) (l : List Byte), s.settled = true → s.takesWrite t r (Obj.CLK_BAND_TABLE p.code) l = true →
    answers (.clkBandTable t r p l) s (fun u => written t r [] [.work, .version] [] s u ∧ u.cat.work.all (Obj.CLK_BAND_TABLE p.code) = l ∧
      (∀ o, o ≠ Obj.CLK_BAND_TABLE p.code → u.cat.work.all o = s.cat.work.all o))) ∧
  (∀ (s : State) (t n v : Nat) (r : Requester), s.settled = true → n < 4 → s.takesWrite t r (Obj.CLK_OUT_CFG n) (leBytes 4 v) = true → v < 2 ^ 32 →
    answers (.clkOutCfg t r n v) s (fun u => written t r [] [] [Obj.CLK_OUT_CFG n] s u ∧ u.reg (Obj.CLK_OUT_CFG n) = v ∧
      (v % 2 = 0 → u.clockOut n = none) ∧
      (v % 2 = 1 → outFormat v ≠ 0 → s.pllOn .x = true → s.pllLost .x = none → s.ck.retuneX = none →
        u.clockOut n = some (s.reg Obj.CLK_X_VCO, v / 4096 % 1024)))) ∧
  (∀ (s : State) (t v : Nat) (r : Requester), s.settled = true → s.takesWrite t r Obj.CLK_X_VCO (leBytes 4 v) = true → v < 2 ^ 32 → s.pllOn .x = true →
    answers (.clkXVco t r v) s (fun u => written t r [] [.ck, .bytes, .version] [Obj.CLK_X_VCO] s u ∧ u.reg Obj.CLK_X_VCO = v ∧
      u.ck = { s.ck with retuneX := some (Nat.max s.now t) })) ∧
  (∀ (s : State) (t a : Nat), s.settled = true → s.pllLost .x = none → s.ck.retuneX = some a → a + 20000 ≤ Nat.max s.now t →
    answers (.clkRelocked t .x) s (fun u => effects t [] [.ck] [] s u ∧ u.ck = { s.ck with retuneX := none }))

/-- The power path (R491 to R494, R496, R502, R503): a failed VIN takes INPUT to HANDOVER, or to OFF with SHIP armed or without hold-up; HANDOVER goes to CELL,
held off at the eighth in 1 s; a qualified VIN brings INPUT back; the hold-up time ends in SHUTDOWN, which ends in OFF, as a spent cell does at once. A clause
for a condition that does not hold rests on log entry 1 (the model's choice). Readings it rests on: log entry 42. -/
def Obligations.PowerPathResults : Prop :=
  (∀ (s : State) (t mV : Nat), s.settled = true → s.tile.state ≠ .off → s.pw.path = .input → mV < 2 ^ 16 →
    (16500 ≤ mV → mV ≤ 37500 → answers (.pwrHandover t mV) s (fun u => Claims.powerOnly t [] [] s u ∧ Claims.pathIs s.pw u)) ∧
    (s.pw.shipArmed = false → s.pw.unavailable = false →
      (mV < 16500 → answers (.pwrHandover t mV) s (fun u =>
        effects t [(0x1401, 1)] [.pw, .recs, .bytes, .version] ([Obj.PWR_HANDOVERS, Obj.PWR_VIN, Obj.PWR_SUPP_POWER] ++ Claims.powerNums) s u ∧
        Claims.shownPower u ∧ Claims.pathIs { s.pw with path := .handover, vin := mV, vinAt := Nat.max s.now t, supplement := none, need := 0, heldBack := false
                                                        handovers := Nat.max s.now t :: s.pw.handovers.filter (fun a => Nat.blt (Nat.max s.now t) (a + 1000000000)) } u ∧
        Claims.counts 32 Obj.PWR_HANDOVERS s u ∧ u.reg Obj.PWR_VIN = mV ∧ (∀ k, 2 ≤ k → k ≤ 6 → u.flag Obj.PWR_STATUS k = false) ∧ u.lifeVal 4 = BitVec.ofNat 32 (satNat 32 ((s.lifeVal 4).toNat + 1)))) ∧
      (37500 < mV → answers (.pwrHandover t mV) s (fun u =>
        effects t [(0x1401, 2), (0x140C, 0)] [.pw, .recs, .bytes, .version] ([Obj.PWR_HANDOVERS, Obj.PWR_VIN, Obj.PWR_SUPP_POWER] ++ Claims.powerNums) s u ∧
        u.pw.path = .handover ∧ u.pw.vinOver = true ∧ u.flag Obj.PWR_STATUS 12 = true))) ∧
    (s.pw.shipArmed = true ∨ s.pw.unavailable = true → mV < 16500 ∨ 37500 < mV → Claims.nothingTorn s = true →
      answers (.pwrHandover t mV) s (fun u => Claims.poweredOff t s u ∧ u.pw.connected = (s.pw.connected && !s.pw.shipArmed)))) ∧
  (∀ (s : State) (t : Nat), s.settled = true → s.pw.path = .handover →
    ((s.pw.handovers.filter (fun a => Nat.blt (Nat.max s.now t) (a + 1000000000))).length < 8 →
      answers (.cellReached t) s (fun u => Claims.powerOnly t [] [] s u ∧
        Claims.pathIs { s.pw with path := .cell, lowNs := 0, qualFrom := Nat.max s.now t, vinAt := Nat.max s.now t } u)) ∧
    (8 ≤ (s.pw.handovers.filter (fun a => Nat.blt (Nat.max s.now t) (a + 1000000000))).length →
      answers (.cellReached t) s (fun u => Claims.powerOnly t [(0x1403, 0)] [Obj.PWR_BOUNCE_HOLDS] s u ∧ Claims.counts 32 Obj.PWR_BOUNCE_HOLDS s u ∧
        u.pw.path = .cell ∧ u.pw.bounceUntil = some (Nat.max s.now t + 1000000000)))) ∧
  (∀ (s : State) (t mV : Nat), s.settled = true → s.pw.path = .cell →
    (s.pw.bounceUntil = none → 18000 ≤ mV → mV ≤ 36000 → s.pw.qualFrom + 10000000 ≤ Nat.max s.now t →
      answers (.pwrVinRestored t mV) s (fun u => Claims.powerOnly t [(0x1402, 0)] [Obj.PWR_VIN] s u ∧ u.pw.path = .input ∧ u.pw.vin = mV ∧
        u.pw.vinOver = false ∧ u.reg Obj.PWR_VIN = mV ∧ u.pw.charge = s.pw.charge ∧
        ((u.chargerRuns && s.pw.chargeable) = true → u.pw.phase = (if s.pw.cellMv < 2500 then .precharge else .cc) ∧ u.pw.timer = 0 ∧
          Claims.counts 32 Obj.PWR_CHG_CYCLES s u) ∧
        ((u.chargerRuns && s.pw.chargeable) = false → u.pw.phase = (if s.pw.phase = .timerFault then .timerFault else .disabled)))) ∧
    (s.pw.bounceUntil.isSome = true ∨ mV < 18000 ∨ 36000 < mV ∨ Nat.max s.now t < s.pw.qualFrom + 10000000 →
      answers (.pwrVinRestored t mV) s (fun u => Claims.powerOnly t [] [] s u ∧ Claims.pathIs s.pw u)) ∧
    (∀ a, s.pw.bounceUntil = some a → a ≤ Nat.max s.now t → answers (.bounceHoldEnd t) s (fun u => Claims.powerOnly t [] [] s u ∧
      Claims.pathIs { s.pw with bounceUntil := none, qualFrom := Nat.max s.now t } u)) ∧
    (s.wrk Obj.PWR_HOLDUP_TIME * 1000000 ≤ Claims.lowTime s t → answers (.holdupTimeExpiry t) s (fun u =>
      Claims.powerOnly t [(0x1404, 0)] [Obj.PWR_VIN] s u ∧ u.pw.path = .shutdown ∧ u.pw.lowNs = Claims.lowTime s t)) ∧
    (Claims.lowTime s t < s.wrk Obj.PWR_HOLDUP_TIME * 1000000 → answers (.holdupTimeExpiry t) s (fun u =>
      Claims.powerOnly t [] [Obj.PWR_VIN] s u ∧ u.pw.path = .cell ∧ u.pw.lowNs = Claims.lowTime s t)) ∧
    (mV ≤ 2800 → Claims.nothingTorn s = true → answers (.pwrCellCutoff t mV) s (fun u => Claims.poweredOff t s u ∧ u.pw.cellMv = mV))) ∧
  (∀ (s : State) (t mV : Nat), s.settled = true → s.pw.path ≠ .cell → mV < 2 ^ 16 → answers (.pwrCellCutoff t mV) s (fun u =>
    Claims.powerOnly t [] [Obj.PWR_CELL_VOLTAGE] s u ∧ u.reg Obj.PWR_CELL_VOLTAGE = mV ∧ Claims.pathIs { s.pw with cellMv := mV } u)) ∧
  (∀ (s : State) (t : Nat), s.settled = true → s.pw.path = .shutdown →
    (Claims.nothingTorn s = true → answers (.shutdownComplete t) s (fun u => Claims.poweredOff t s u)) ∧
    (s.cal.commit.isSome = true ∨ s.fol.saving.isSome = true → answers (.shutdownComplete t) s (fun u => Claims.powerOnly t [] [] s u ∧ Claims.pathIs s.pw u))) ∧
  (∀ (s : State) (t mV : Nat), s.settled = true →
    (s.pw.connected = false → answers (.wakeNHold t) s (fun u => Claims.powerOnly t [] [] s u ∧ Claims.pathIs { s.pw with connected := true, known := false } u) ∧
      (18000 ≤ mV → answers (.shipEndVin t mV) s (fun u => Claims.powerOnly t [] [] s u ∧ Claims.pathIs { s.pw with connected := true, known := false } u))) ∧
    (mV < 18000 → answers (.shipEndVin t mV) s (fun u => effects t [] [] [] s u))) ∧
  (∀ (s : State) (t v : Nat) (r : Requester), s.settled = true → s.takesWrite t r Obj.PWR_SHIP (leBytes 1 v) = true → v < 2 →
    (v = 1 → s.tile.state ≠ .rest ∧ s.pw.path = .input) →
    answers (.pwrShip t r v) s (fun u => written t r [] [.pw] Claims.powerNums s u ∧ Claims.shownPower u ∧ u.pw = { s.pw with shipArmed := Nat.beq v 1 }))

/-- Demand, supplement, overload and the charger (R488 to R490, R495 to R501): what the input lacks comes from the cell, up to 20 W, for 10 ms and then in turns,
and what is left limits VSTB; the tile alone beyond both is FAULT; the charge is counted; a cycle runs through its phases, its timer, a restart and the zones
of the cell's temperature. Readings it rests on: log entry 42. -/
def Obligations.SupplyResults : Prop :=
  (∀ (s : State) (t : Nat) (d : PowerDemand), s.settled = true → s.pw.path = .input → s.tile.state ≠ .off → s.pw.supplement = none → d.tile < 65536 →
    d.vin < 65536 → s.flag Obj.PWR_STATUS 6 = false →
    (d.tile + d.vstb ≤ Claims.available s d → answers (.powerDemandExcess t d) s (fun u =>
      Claims.powerOnly t [] [Obj.PWR_VIN, Obj.PWR_TILE_POWER, Obj.PWR_SUPP_POWER] s u ∧ u.reg Obj.PWR_TILE_POWER = d.tile ∧ u.reg Obj.PWR_VIN = d.vin ∧
      u.pw.need = 0 ∧ u.pw.supplement = none ∧ u.reg Obj.PWR_SUPP_POWER = 0 ∧ u.flag Obj.PWR_STATUS 2 = false ∧
      u.flag Obj.PWR_STATUS 4 = decide (d.vin < s.wrk Obj.PWR_VIN_REG) ∧
      u.flag Obj.PWR_STATUS 5 = (decide (Claims.available s d < d.tile + d.vstb + d.charge) && !decide (d.vin < s.wrk Obj.PWR_VIN_REG)))) ∧
    (Claims.available s d < d.tile + d.vstb → d.tile + d.vstb ≤ Claims.available s d + 20000 → s.pw.unavailable = false →
      answers (.powerDemandExcess t d) s (fun u =>
        Claims.powerOnly t [] [Obj.PWR_VIN, Obj.PWR_TILE_POWER, Obj.PWR_SUPP_POWER, Obj.PWR_SUPP_EVENTS] s u ∧
        u.pw.need = d.tile + d.vstb - Claims.available s d ∧ u.pw.supplement = some ⟨Nat.max s.now t, Nat.max s.now t, false, true, none⟩ ∧
        u.reg Obj.PWR_SUPP_POWER = d.tile + d.vstb - Claims.available s d ∧ Claims.counts 32 Obj.PWR_SUPP_EVENTS s u ∧ u.flag Obj.PWR_STATUS 2 = true)) ∧
    (Claims.available s d + 20000 < d.tile + d.vstb → s.pw.unavailable = false → answers (.powerDemandExcess t d) s (fun u =>
      Claims.powerOnly t [(0x1406, 0)] [Obj.PWR_VIN, Obj.PWR_TILE_POWER, Obj.PWR_SUPP_POWER, Obj.PWR_SUPP_EVENTS, Obj.PWR_VSTB_LIMITED] s u ∧
      u.reg Obj.PWR_SUPP_POWER = 20000 ∧ u.flag Obj.PWR_STATUS 6 = true ∧ Claims.counts 32 Obj.PWR_VSTB_LIMITED s u)) ∧
    (Claims.available s d < d.tile + d.vstb → s.pw.unavailable = true → answers (.powerDemandExcess t d) s (fun u =>
      Claims.powerOnly t [(0x1406, 0)] [Obj.PWR_VIN, Obj.PWR_TILE_POWER, Obj.PWR_SUPP_POWER, Obj.PWR_VSTB_LIMITED] s u ∧ u.reg Obj.PWR_SUPP_POWER = 0 ∧
      u.flag Obj.PWR_STATUS 6 = true))) ∧
  (∀ (s : State) (t : Nat) (e : Supplement), s.settled = true → s.pw.supplement = some e →
    (∀ a, e.zeroFrom = some a → a + 10000000 ≤ Nat.max s.now t → s.pw.need = 0 → answers (.supplementPhase t) s (fun u =>
      Claims.powerOnly t [] [Obj.PWR_SUPP_POWER] s u ∧ u.pw.supplement = none ∧ u.reg Obj.PWR_SUPP_POWER = 0)) ∧
    (e.zeroFrom = none → e.phaseAt + 10000000 ≤ Nat.max s.now t →
      (e.periodic = false → s.flag Obj.PWR_STATUS 6 = false → 0 < s.pw.need → answers (.supplementPhase t) s (fun u =>
        Claims.powerOnly t [(0x1405, 0), (0x1406, 0)] [Obj.PWR_SUPP_POWER, Obj.PWR_SUPP_DUTY_COUNT, Obj.PWR_VSTB_LIMITED] s u ∧
        u.pw.supplement = some { e with phaseAt := e.phaseAt + 10000000, periodic := true, allowed := false } ∧ u.reg Obj.PWR_SUPP_POWER = 0 ∧
        u.flag Obj.PWR_STATUS 3 = true ∧ Claims.counts 32 Obj.PWR_SUPP_DUTY_COUNT s u)) ∧
      (e.periodic = true → e.allowed = false → s.pw.unavailable = false → s.pw.need ≤ 20000 → answers (.supplementPhase t) s (fun u =>
        Claims.powerOnly t [] [Obj.PWR_SUPP_POWER] s u ∧ u.pw.supplement = some { e with phaseAt := e.phaseAt + 10000000, allowed := true } ∧
        u.reg Obj.PWR_SUPP_POWER = s.pw.need ∧ u.flag Obj.PWR_STATUS 6 = false)))) ∧
  (∀ (s : State) (t mW : Nat), s.settled = true → s.ck.waitRef = false → Claims.canFault s = true → s.pw.path = .input →
    answers (.pwrOverload t mW) s (fun u => Claims.intoFault 4 mW s.tile.state (Nat.max s.now t) s { u with pw := s.pw } ∧ u.pw.overload = true ∧
      u.pw.path = .input ∧ u.reg Obj.PWR_TILE_POWER = Nat.min mW 65535)) ∧
  (∀ (s : State) (t : Nat) (r : PowerReading), s.settled = true → s.tile.state ≠ .off → s.pw.path ≠ .cell → r.iin < 65536 → r.vstb < 65536 → r.tile < 65536 →
    r.cellMv < 65536 → r.vin < 65536 → answers (.holdupEnergyUpdate t r) s (fun u =>
      Claims.powerOnly t [] [Obj.PWR_VIN, Obj.PWR_IIN, Obj.PWR_VSTB_CURRENT, Obj.PWR_TILE_POWER, Obj.PWR_CELL_VOLTAGE, Obj.PWR_CELL_CURRENT, Obj.PWR_HOLDUP_ENERGY] s u ∧
      u.reg Obj.PWR_VIN = r.vin ∧ u.reg Obj.PWR_IIN = r.iin ∧ u.reg Obj.PWR_VSTB_CURRENT = r.vstb ∧ u.reg Obj.PWR_TILE_POWER = r.tile ∧
      u.reg Obj.PWR_CELL_VOLTAGE = r.cellMv ∧ u.reg Obj.PWR_CELL_CURRENT = fromSigned 16 r.cellMa ∧ u.reg Obj.PWR_HOLDUP_ENERGY = satNat 32 u.holdupEnergy ∧
      Claims.pathIs { s.pw with vin := r.vin, vinAt := Nat.max s.now t, cellMv := r.cellMv, charge := (s.at t).countCharge r.cellMa
                                measuredAt := Nat.max s.now t } u)) ∧
  (∀ (s : State) (t mV : Nat), s.settled = true →
    (s.chgState = .precharge → answers (.prechargeEnd t) s (fun u => Claims.powerOnly t [] [] s u ∧ u.pw = { Claims.counted s t with phase := .cc })) ∧
    (s.chgState = .cc → answers (.chargeVoltageLimit t) s (fun u => Claims.powerOnly t [] [] s u ∧ u.pw = { Claims.counted s t with phase := .cv })) ∧
    (s.chgState = .cv → answers (.pwrChgDone t) s (fun u => Claims.powerOnly t [(0x1409, 0)] [] s u ∧
      u.pw = { Claims.counted s t with phase := .done, timer := 0, charge := s.capacity, known := true })) ∧
    (s.chgState = .done → mV < 3350 → answers (.rechargeStart t mV) s (fun u => Claims.powerOnly t [] [] s u ∧ Claims.cycles { s.pw with cellMv := mV } t s u)) ∧
    (0 < s.timerRate → s.wrk Obj.PWR_CHG_TIMER * 7200000000000 ≤ (Claims.counted s t).timer →
      answers (.pwrChgTimer t) s (fun u => Claims.powerOnly t [(0x1408, 0)] [] s u ∧ u.pw = { Claims.counted s t with phase := .timerFault })) ∧
    ((Claims.counted s t).timer < s.wrk Obj.PWR_CHG_TIMER * 7200000000000 → s.pw.phase ≠ .disabled →
      answers (.pwrChgTimer t) s (fun u => Claims.powerOnly t [] [] s u ∧ u.pw = Claims.counted s t)) ∧
    (∀ r : Requester, s.takesWrite t r Obj.PWR_CHG_RESTART (leBytes 1 1) = true → s.chargerRuns = true → s.pw.chargeable = true →
      answers (.pwrChgRestart t r 1) s (fun u => written t r [] [.pw] Claims.powerNums s u ∧ Claims.cycles s.pw t s u))) ∧
  (∀ (s : State) (t mV : Nat), s.settled = true → s.tile.state ≠ .off → mV < 65536 →
    (∀ (ohm : Nat) (x : Int), ntcTemp ohm = some x → s.pw.noCell = false → s.pw.ntcFault = false →
      (nextZone s.pw.zone x = s.pw.zone → answers (.ntcSample t (some ohm) mV) s (fun u =>
        Claims.powerOnly t [] [Obj.PWR_CELL_VOLTAGE, Obj.PWR_CELL_TEMP] s u ∧ u.reg Obj.PWR_CELL_TEMP = fromSigned 16 x ∧ u.reg Obj.PWR_CELL_VOLTAGE = mV ∧
        u.pw.zone = s.pw.zone ∧ u.pw.cellMv = mV ∧ u.pw.tempOut = nextTempOut s.pw.tempOut x)) ∧
      (nextZone s.pw.zone x ≠ s.pw.zone → answers (.ntcSample t (some ohm) mV) s (fun u =>
        Claims.powerOnly t [(0x140A, 0)] [Obj.PWR_CELL_VOLTAGE, Obj.PWR_CELL_TEMP] s u ∧ u.pw.zone = nextZone s.pw.zone x))) ∧
    (1500 ≤ mV → s.pw.noCell = false → s.pw.ntcFault = false → answers (.ntcSample t none mV) s (fun u =>
      Claims.powerOnly t [(0x140B, 0)] [Obj.PWR_CELL_VOLTAGE] s u ∧ u.pw.ntcFault = true ∧ u.pw.ntcGoodFrom = none ∧
      u.pw.phase = (if s.pw.phase = .timerFault then .timerFault else .disabled))) ∧
    (mV < 1500 → answers (.ntcSample t none mV) s (fun u => Claims.powerOnly t [] [Obj.PWR_CELL_VOLTAGE] s u ∧ u.pw.noCell = true ∧ u.pw.known = false ∧
      u.pw.phase = (if s.pw.phase = .timerFault then .timerFault else .disabled))))

/-- Calibration (R512, R515 to R520, R522, R523): a run accepted, refused, fired at its rate and decided; a commit accepted, refused for want of hold-up, and
completed with one generation on every page, its values in use. A clause for a condition that does not hold rests on log entry 1 (the model's choice).
Readings it rests on: log entries 44, 50 and 51. -/
def Obligations.CalibrationResults : Prop :=
  (∀ (s : State) (t : Nat) (r : Requester), s.settled = true → s.tile.state = .ready → s.fol.hasActive = true → s.cal.run = none → s.mramBusy = false →
    (s.takesWrite t r Obj.CAL_RUN (leBytes 1 1) = true → busyNs 104 (s.act Obj.PX_EXPOSURE) * s.reg Obj.CAL_RUN_RATE ≤ 1000000000 →
      s.reg Obj.PE_ENABLE = 0 →
      (s.act Obj.LT_STB_ENABLE = 0 → answers (.dark t r) s (fun u => written t r [] [.cal] [Obj.CAL_STATUS, Obj.CAL_RUN_STATUS] s u ∧
        u.cal = { s.cal with run := some { flat := false, started := Nat.max s.now t, total := 2 * s.reg Obj.CAL_LINES } } ∧
        u.flag Obj.CAL_STATUS 2 = true ∧ u.reg Obj.CAL_RUN_STATUS = 0x101)) ∧
      (s.act Obj.LT_STB_ENABLE ≠ 0 → answers (.dark t r) s (fun u =>
        written t r [(0x1504, 0x104)] [] [Obj.CAT_ERRORS, Obj.CAT_LAST_ERROR, Obj.CAL_RUN_STATUS] s u ∧ u.reg Obj.CAL_RUN_STATUS = 0x40103))) ∧
    (s.takesWrite t r Obj.CAL_RUN (leBytes 1 2) = true → busyNs 96 (s.act Obj.PX_EXPOSURE) * s.reg Obj.CAL_RUN_RATE ≤ 1000000000 →
      answers (.flat t r) s (fun u => written t r [] [.cal] [Obj.CAL_STATUS, Obj.CAL_RUN_STATUS] s u ∧
        u.cal = { s.cal with run := some { flat := true, started := Nat.max s.now t, total := s.reg Obj.CAL_LINES } } ∧
        u.flag Obj.CAL_STATUS 2 = true ∧ u.reg Obj.CAL_RUN_STATUS = 0x201))) ∧
  (∀ (s : State) (t : Nat) (x : CalRun), s.settled = true → s.cal.run = some x → s.tile.state = .ready → x.fired < x.total → s.lineClockLost = false →
    (x.fired = 0 ∨ 1000000000 ≤ (Nat.max s.now t + 1 - x.lastAt) * s.reg Obj.CAL_RUN_RATE →
      answers (.calRunTrigger t) s (fun u => effects t [] [.cal, .la, .lt, .am] [Obj.LT_LINE_COUNT] s u ∧ Claims.counts 64 Obj.LT_LINE_COUNT s u ∧
        u.cal = { s.cal with run := some { x with fired := x.fired + 1, lastAt := Nat.max s.now t } } ∧
        (∃ f : Flight, u.la.flights = s.la.flights ++ [f] ∧ f.t0 = Nat.max s.now t ∧ f.calibrates = true ∧ f.trig.number = s.reg Obj.LT_LINE_COUNT ∧
          f.trig.head.depth = (if x.flat = false ∧ x.total / 2 ≤ x.fired then 4 else 1)))) ∧
    (x.fired ≠ 0 → (Nat.max s.now t + 1 - x.lastAt) * s.reg Obj.CAL_RUN_RATE < 1000000000 →
      answers (.calRunTrigger t) s (fun u => effects t [] [] [] s u))) ∧
  (∀ (s : State) (t : Nat) (x : CalRun), s.settled = true → s.cal.run = some x →
    (x.lines.length < x.total → answers (.calRunResult t) s (fun u => effects t [] [] [] s u)) ∧
    (x.total ≤ x.lines.length → answers (.calRunResult t) s (fun u => u.cal = { s.cal with run := none } ∧ u.flag Obj.CAL_STATUS 2 = false ∧
      (effects t [(0x1505, 0)] [.cal, .work, .version] [Obj.CAL_STATUS, Obj.CAL_RUN_STATUS] s u ∧ u.reg Obj.CAL_RUN_STATUS = (if x.flat then 0x202 else 0x102) ∨
        ∃ k, 5 ≤ k ∧ k ≤ 8 ∧ effects t [(0x1504, (if x.flat then 0x200 else 0x100) + k)] [.cal] [Obj.CAL_STATUS, Obj.CAL_RUN_STATUS] s u ∧
          u.reg Obj.CAL_RUN_STATUS = 2 ^ 16 * k + (if x.flat then 0x203 else 0x103)) ∧
      (x.flat = true → 2 * (x.lines.filter (fun l => match l.energy with | some e => decide (0 < e) | none => false)).length < s.reg Obj.CAL_LINES →
        u.reg Obj.CAL_RUN_STATUS = 0x50203) ∧
      (u.reg Obj.CAL_RUN_STATUS = 0x102 → u.cat.work.all Obj.CAL_CLAMP_REF =
        runClampRef (x.lines.reverse.filter (fun l => !l.gain4)) (x.lines.reverse.filter (fun l => l.gain4)))))) ∧
  (∀ (s : State) (t v : Nat) (r : Requester), s.settled = true → s.takesWrite t r Obj.CAL_COMMIT (leBytes 1 v) = true →
    (800 ≤ s.reg Obj.PWR_HOLDUP_ENERGY → answers (.calCommit t r v) s (fun u =>
      Claims.deferred t r .calCommit Obj.CAL_COMMIT [] [.cal] [Obj.CAL_STATUS] s u ∧ u.flag Obj.CAL_STATUS 1 = true ∧
      u.cal = { s.cal with commit := some { started := Nat.max s.now t, snapshot := s.cat.work, generation := BitVec.ofNat 32 (s.reg Obj.CAL_GEN) + 1 } })) ∧
    (s.reg Obj.PWR_HOLDUP_ENERGY < 800 → s.reg Obj.CAL_COMMIT_UNPROTECTED ≠ 0 → answers (.calCommit t r v) s (fun u =>
      Claims.deferred t r .calCommit Obj.CAL_COMMIT [(0x1502, 0)] [.cal] [Obj.CAL_STATUS] s u ∧ u.cal.commit.isSome = true)) ∧
    (s.reg Obj.PWR_HOLDUP_ENERGY < 800 → s.reg Obj.CAL_COMMIT_UNPROTECTED = 0 → answers (.calCommit t r v) s (fun u =>
      Claims.refusedWith t r Obj.CAL_COMMIT .noHoldup [] s u))) ∧
  (∀ (s : State) (t : Nat) (x : LongRun) (c : CommitRun), s.settled = true → s.cat.long = some x → x.op = .calCommit → x.id = Obj.CAL_COMMIT → x.rtype = 2 →
    s.cal.commit = some c → s.cal.recordsPending = false → Claims.canAnswer s x.sender = true →
    answers (.calCommitted t) s (fun u =>
      effects t [(0x1501, 0)] (pathPieces x.sender ++ [.cal, .used, .la, .recs, .bytes, .version, .long])
        [Obj.CAL_STATUS, Obj.CAL_GEN, Obj.CAL_COMMITS, Obj.TW_ALERT_PENDING] s u ∧
      u.cat.used = c.snapshot ∧ u.cal.stored = c.snapshot ∧ u.cal.commit = none ∧ (∀ k, k < 133 → u.cal.page k = ⟨c.generation, true⟩) ∧
      u.cal.ringWord = (if s.reg Obj.PWR_PATH_STATE = 4 then s.cal.ringWord else s.cal.ringPending.getD s.cal.ringWord) ∧ u.reg Obj.CAL_GEN = c.generation.toNat ∧ Claims.counts 32 Obj.CAL_COMMITS s u ∧
      u.flag Obj.CAL_STATUS 0 = false ∧ u.flag Obj.CAL_STATUS 1 = false ∧ u.flag Obj.CAL_STATUS 5 = false ∧ u.cat.long = none ∧ Claims.lives 5 s u))

/-- Firmware, fuses and the owner (R533, R535, R536, R539, R541): an image written whole is VALID or INVALID in the slot that does not run; activation; the SVN
fuse; a key enrolled; challenges, responses, the lockout at the eighth failure in 60 s, and the ends of grants. Readings it rests on: log entries 44, 50 and
51. -/
def Obligations.SecurityResults : Prop :=
  (∀ (s : State) (t : Nat) (r : Requester) (l : List Byte), s.settled = true → s.takesWrite t r Obj.SEC_FW_IMAGE l = true →
    answers (.secFwImage t r l) s (fun u =>
      written t r [(0x1607, 256 * s.sec.target + (Claims.fwStatus l s.sec.fuse).code)] [.sec, .bytes, .version]
        [Obj.SEC_STATUS, Obj.CAT_ERRORS, Obj.CAT_LAST_ERROR] s u ∧
      u.sec = { s.sec.setSlot s.sec.target { state := if Claims.fwStatus l s.sec.fuse = .ok then .valid else .invalid, image := some l } with
                preferred := if s.sec.preferred = s.sec.target ∧ s.sec.runs = true then s.sec.running else s.sec.preferred } ∧
      (Claims.fwStatus l s.sec.fuse ≠ .ok → Claims.counts 32 Obj.CAT_ERRORS s u ∧
        u.reg Obj.CAT_LAST_ERROR = 256 * Obj.SEC_FW_IMAGE + (Claims.fwStatus l s.sec.fuse).code))) ∧
  (∀ (s : State) (t : Nat) (r : Requester), s.settled = true →
    (s.takesWrite t r Obj.SEC_FW_ACTIVATE (leBytes 1 1) = true →
      ((s.sec.slot s.sec.target).state = .valid → s.sec.fuse ≤ (s.sec.slot s.sec.target).svn → answers (.secFwActivateTarget t r) s (fun u =>
        written t r [] [.sec, .bytes, .version] [Obj.SEC_STATUS] s u ∧ u.sec = { s.sec with preferred := s.sec.target } ∧ u.flag Obj.SEC_STATUS 3 = true)) ∧
      ((s.sec.slot s.sec.target).state ≠ .valid → answers (.secFwActivateTarget t r) s (fun u =>
        Claims.refusedWith t r Obj.SEC_FW_ACTIVATE .range [] s u))) ∧
    (s.takesWrite t r Obj.SEC_FW_ACTIVATE (leBytes 1 0) = true → s.sec.runs = true → answers (.secFwActivateRunning t r) s (fun u =>
      written t r [] [.sec, .bytes, .version] [Obj.SEC_STATUS] s u ∧ u.sec = { s.sec with preferred := s.sec.running } ∧ u.flag Obj.SEC_STATUS 3 = false)) ∧
    (s.takesWrite t r Obj.SEC_SVN_COMMIT (leBytes 1 1) = true →
      ((s.sec.slot s.sec.running).svn ≤ s.sec.fuse → answers (.secSvnCommit t r 1) s (fun u => written t r [] [] [] s u)) ∧
      (s.sec.fuse < (s.sec.slot s.sec.running).svn → s.sec.ownerKey = none → answers (.secSvnCommit t r 1) s (fun u =>
        written t r [(0x1608, 0)] [.sec] [Obj.SEC_SVN_FUSE, Obj.SEC_OWNER_SLOTS, Obj.ID_CONFIG, Obj.SEC_STATUS] s u ∧
        u.sec = { s.sec with fuse := (s.sec.slot s.sec.running).svn } ∧ u.reg Obj.SEC_SVN_FUSE = (s.sec.slot s.sec.running).svn % 2 ^ 64)))) ∧
  (∀ (s : State) (t : Nat) (r : Requester) (l : List Byte), s.settled = true → s.takesWrite t r Obj.SEC_OWNER_ENROL l = true →
    answers (.secOwnerEnrol t r l) s (fun u =>
      (∀ st, s.enrolRefused l = some st → Claims.refusedWith t r Obj.SEC_OWNER_ENROL st [] s u) ∧
      (s.enrolRefused l = none → Claims.deferred t r .enrol Obj.SEC_OWNER_ENROL [] [.sec] [] s u ∧ u.sec = { s.sec with blowing := some (l.take 64) }))) ∧
  (∀ (s : State) (t : Nat) (x : LongRun) (k : List Byte), s.settled = true → s.cat.long = some x → x.op = .enrol → x.id = Obj.SEC_OWNER_ENROL → x.rtype = 2 →
    s.sec.blowing = some k → k.length = 64 → s.sec.owner0 = .unused → Claims.canAnswer s x.sender = true →
    answers (.secOwnerEnrolled t) s (fun u =>
      effects t [(0x1603, 0)] (pathPieces x.sender ++ [.sec, .bytes, .version, .long])
        [Obj.SEC_STATUS, Obj.SEC_SVN_FUSE, Obj.SEC_OWNER_SLOTS, Obj.ID_CONFIG, Obj.TW_ALERT_PENDING] s u ∧
      u.sec = { s.sec with owner0 := .enrolled k, blowing := none } ∧ u.secure = true ∧ u.flag Obj.SEC_STATUS 0 = true ∧ u.reg Obj.ID_CONFIG = 1 ∧
      u.cat.vol.all Obj.SEC_OWNER_KEY = k ∧ u.cat.long = none)) ∧
  (∀ (s : State) (t : Nat) (r : Requester) (row : ObjRow), s.settled = true → s.hearsRequest r = true → r.word = 0 →
    s.reach false false Obj.SEC_AUTH_CHALLENGE = .ok row → s.admits false Obj.SEC_AUTH_CHALLENGE = true →
    (s.lockedOut = false → answers (.secAuthChallenge t r) s (fun u => written t r [] [.sec, .bytes, .version, .free] [] s u ∧ u.free = s.free + 1 ∧
      u.sec = { s.sec with challenge := some (s.freeBytes 32, Nat.max s.now t + 60000000000) } ∧
      (∃ a : Answer, Claims.answered r a.payload s u ∧ a.status = .ok ∧ a.bytes = s.freeBytes 32))) ∧
    (s.lockedOut = true → answers (.secAuthChallenge t r) s (fun u =>
      written t r [] [] [Obj.CAT_ERRORS, Obj.CAT_LAST_ERROR] s u ∧ Claims.counts 32 Obj.CAT_ERRORS s u))) ∧
  (∀ (s : State) (t : Nat) (r : Requester) (l : List Byte), s.settled = true → s.takesWrite t r Obj.SEC_AUTH_RESPONSE l = true →
    answers (.secAuthResponse t r l) s (fun u => u.sec.challenge = none ∧
      (Claims.accepts s t r l → written t r [] [.sec, .bytes, .version] [] s u ∧ u.sec.fails = s.sec.fails ∧ u.sec.grants.length ≤ 4 ∧
        (∃ g, g ∈ u.sec.grants ∧ g.requester = requesterValue r ∧ g.ends = Nat.max s.now t + 1000000000 * s.reg Obj.SEC_AUTH_TIME)) ∧
      (¬ Claims.accepts s t r l → (Claims.failures s t).length < 8 → Claims.authRefused t r [(0x1605, 0)] [] s u ∧ u.sec.fails = Claims.failures s t) ∧
      (¬ Claims.accepts s t r l → 8 ≤ (Claims.failures s t).length → Claims.authRefused t r [(0x1605, 0), (0x1606, 0)] [Obj.SEC_STATUS] s u ∧ u.sec.fails = [] ∧
        u.sec.lockedUntil = some (Nat.max s.now t + 60000000000) ∧ u.flag Obj.SEC_STATUS 4 = true))) ∧
  (∀ (s : State) (t v : Nat) (r : Requester), s.settled = true →
    (s.takesWrite t r Obj.SEC_AUTH_REVOKE (leBytes 1 v) = true → answers (.secAuthRevoke t r v) s (fun u => written t r [] [.sec] [] s u ∧
      u.sec = { s.sec with grants := [] } ∧ (∀ q, u.authorised q = false))) ∧
    answers (.authGrantExpiry t) s (fun u => effects t [] [.sec] [] s u ∧
      u.sec = { s.sec with grants := s.sec.grants.filter (fun g => Nat.blt (Nat.max s.now t) g.ends) }) ∧
    (∀ c e, s.sec.challenge = some (c, e) → e ≤ Nat.max s.now t → answers (.authChallengeExpiry t) s (fun u => effects t [] [.sec] [] s u ∧
      u.sec = { s.sec with challenge := none })) ∧
    (∀ e, s.sec.lockedUntil = some e → e ≤ Nat.max s.now t → answers (.authLockoutEnd t) s (fun u => effects t [] [.sec] [Obj.SEC_STATUS] s u ∧
      u.sec = { s.sec with lockedUntil := none } ∧ u.lockedOut = false)))

/-- The log and the records (R291, R292, R555, R559 to R562): the end of a holdoff writes one entry with the count of what it held; the log and the history
cleared; the hours counted. A clause for a condition that does not hold rests on log entry 1 (the model's choice). Readings it rests on: log entries 44, 50
and 51. -/
def Obligations.RecordResults : Prop :=
  (∀ (s : State) (t code : Nat) (h : Holdoff), s.settled = true → code < 65536 → storeFind code s.log.holdoffs = some h →
    (h.ends ≤ Nat.max s.now t → 0 < h.pending → s.log.live = true → answers (.eventHoldoffExpiry t code) s (fun u =>
      effects t [] [.log, .mirror, .moved, .version] [Obj.TW_ALERT_PENDING] s u ∧ u.log.next = s.log.next + 1 ∧
      u.log.slot (s.log.next.toNat % 256) = ⟨h.time, BitVec.ofNat 16 code, BitVec.ofNat 16 (Nat.min h.pending 65535), h.param⟩ ∧
      (∀ k, k ≠ s.log.next.toNat % 256 → u.log.slot k = s.log.slot k) ∧ u.flag Obj.TW_ALERT_PENDING 2 = true ∧
      storeFind code u.log.holdoffs = some ⟨Nat.max s.now t + 1000000000, 0, 0, 0⟩)) ∧
    (h.ends ≤ Nat.max s.now t → 0 < h.pending → s.log.live = false → answers (.eventHoldoffExpiry t code) s (fun u => effects t [] [.log] [] s u ∧
      u.log.held = s.log.held ++ [⟨h.time, BitVec.ofNat 16 code, BitVec.ofNat 16 (Nat.min h.pending 65535), h.param⟩])) ∧
    (Nat.max s.now t < h.ends ∨ h.pending = 0 → answers (.eventHoldoffExpiry t code) s (fun u => effects t [] [] [] s u))) ∧
  (∀ (s : State) (t v : Nat) (r : Requester), s.settled = true → s.takesWrite t r Obj.EVT_LOG_CLEAR (leBytes 1 v) = true →
    answers (.evtLogClear t r v) s (fun u => written t r [] [.log, .mirror, .moved, .version] [] s u ∧ (∀ k, u.log.slot k = emptyEntry) ∧
      u.log.next = s.log.next ∧ u.log.holdoffs = s.log.holdoffs ∧ u.log.held = s.log.held ∧
      (s.log.mirror = true → ∀ a, inMirror a = true → u.archByte a = 0))) ∧
  (∀ (s : State) (t v : Nat) (r : Requester), s.settled = true → s.takesWrite t r Obj.EVT_FAULT_HISTORY_CLEAR (leBytes 1 v) = true →
    answers (.evtFaultHistoryClear t r v) s (fun u => written t r [] [.recs, .bytes, .version, .cal] [Obj.EVT_RECORD_GEN] s u ∧ u.recs.history = [] ∧
      u.recs.life = s.recs.life ∧ u.cal.stored = s.cal.stored)) ∧
  (∀ (s : State) (t : Nat), s.settled = true →
    (s.tile.state ≠ .off → s.tile.onAt + 3600000000000 ≤ Nat.max s.now t → answers (.onHoursTick t) s (fun u =>
      effects t [] [.tile, .recs, .bytes, .version, .cal] [Obj.EVT_RECORD_GEN] s u ∧ Claims.lives 2 s u ∧
      u.tile = { s.tile with onAt := s.tile.onAt + 3600000000000 } ∧ u.recs.history = s.recs.history)) ∧
    ((s.tile.state = .off ∨ Nat.max s.now t < s.tile.onAt + 3600000000000) → answers (.onHoursTick t) s (fun u => effects t [] [] [] s u)) ∧
    (s.tile.state = .run →
      (3600000000000 ≤ s.tile.runPart + (Nat.max s.now t - s.tile.runAt) → answers (.runHoursTick t) s (fun u =>
        effects t [] [.tile, .recs, .bytes, .version] [] s u ∧ Claims.lives 3 s u ∧
        u.tile = { s.tile with runPart := s.tile.runPart + (Nat.max s.now t - s.tile.runAt) - 3600000000000, runAt := Nat.max s.now t })) ∧
      (s.tile.runPart + (Nat.max s.now t - s.tile.runAt) < 3600000000000 → answers (.runHoursTick t) s (fun u => effects t [] [.tile] [] s u ∧
        u.tile = { s.tile with runPart := s.tile.runPart + (Nat.max s.now t - s.tile.runAt), runAt := Nat.max s.now t }))))

end Statements
end

