-- ==== Sys2Proof/Laws/Store.lean ====
section
/-! SUPPORT. Laws of the sparse stores and addressed memories: what a read after a write gives, and that every operation
keeps the canonical form. -/

namespace Sys2Proof.Machine

variable {α : Type}

/-- Every key of a store lies above `lo`. -/
theorem storeRising_cons (lo : Option Nat) (k : Nat) (v : α) (r : Store α) :
    storeRising lo ((k, v) :: r) = true ↔ (∀ p, lo = some p → p < k) ∧ storeRising (some k) r = true := by
  cases lo <;> simp [storeRising]

theorem storeRising_weaken {p q : Nat} (h : q ≤ p) (m : Store α) (hm : storeRising (some p) m = true) :
    storeRising (some q) m = true := by
  cases m with
  | nil => rfl
  | cons x r => obtain ⟨k, v⟩ := x; rw [storeRising_cons] at *; exact ⟨fun x hx => by cases hx; have := hm.1 p rfl; omega, hm.2⟩

theorem storeRising_none {p : Nat} (m : Store α) (hm : storeRising (some p) m = true) : storeRising none m = true := by
  cases m with
  | nil => rfl
  | cons x r => obtain ⟨k, v⟩ := x; simp [storeRising] at *; exact hm.2

theorem storeFind_below {p k : Nat} (h : k ≤ p) (m : Store α) (hm : storeRising (some p) m = true) :
    storeFind k m = none := by
  induction m generalizing p with
  | nil => rfl
  | cons x r ih =>
    obtain ⟨k', v⟩ := x
    simp [storeRising] at hm
    have : k ≠ k' := by omega
    simp [storeFind, this]
    exact ih (by omega) hm.2

/-- Insertion keeps the keys rising. -/
theorem storeInsert_rising (lo : Option Nat) (k : Nat) (v : α) (m : Store α) (hk : ∀ p, lo = some p → p < k)
    (hm : storeRising lo m = true) : storeRising lo (storeInsert k v m) = true := by
  induction m generalizing lo with
  | nil => cases lo <;> simp_all [storeInsert, storeRising]
  | cons x r ih =>
    obtain ⟨k', w⟩ := x
    rw [storeRising_cons] at hm
    unfold storeInsert
    split
    · rename_i h
      rw [storeRising_cons]; refine ⟨hk, ?_⟩
      simp [storeRising, h, hm.2]
    · split
      · subst_vars; rw [storeRising_cons]; exact hm
      · rw [storeRising_cons]; refine ⟨hm.1, ih (some k') ?_ hm.2⟩
        intro p hp; cases hp; omega

/-- Erasure keeps the keys rising. -/
theorem storeErase_rising (lo : Option Nat) (k : Nat) (m : Store α) (hm : storeRising lo m = true) :
    storeRising lo (storeErase k m) = true := by
  induction m generalizing lo with
  | nil => exact hm
  | cons x r ih =>
    obtain ⟨k', w⟩ := x
    rw [storeRising_cons] at hm
    unfold storeErase
    split
    · refine ih lo ?_
      cases lo with
      | none => exact storeRising_none r hm.2
      | some p => exact storeRising_weaken (by have := hm.1 p rfl; omega) r hm.2
    · rw [storeRising_cons]; exact ⟨hm.1, ih (some k') hm.2⟩

/-- A listed value after an insertion. -/
theorem storeFind_insert (k j : Nat) (v : α) (m : Store α) :
    storeFind j (storeInsert k v m) = if j = k then some v else storeFind j m := by
  induction m with
  | nil => by_cases h : j = k <;> simp [storeInsert, storeFind, h]
  | cons x r ih =>
    obtain ⟨k', w⟩ := x
    unfold storeInsert
    split
    · by_cases h : j = k <;> simp [storeFind, h]
    · split
      · subst_vars; by_cases h : j = k' <;> simp [storeFind, h]
      · by_cases h : j = k'
        · subst h; have : j ≠ k := fun e => by subst e; contradiction
          simp [storeFind, this]
        · simp [storeFind, h, ih]

/-- A listed value after an erasure. -/
theorem storeFind_erase (k j : Nat) (m : Store α) :
    storeFind j (storeErase k m) = if j = k then none else storeFind j m := by
  induction m with
  | nil => simp [storeErase, storeFind]
  | cons x r ih =>
    obtain ⟨k', w⟩ := x
    unfold storeErase
    split
    · subst_vars
      rw [ih]
      by_cases h : j = k' <;> simp [storeFind, h]
    · rename_i h1
      by_cases h : j = k'
      · subst h; have : j ≠ k := fun e => h1 e.symm
        simp [storeFind, this]
      · simp [storeFind, h, ih]

/-- Read after write in a store. -/
@[simp] theorem storeGet_put [DecidableEq α] (d : Nat → α) (m : Store α) (k j : Nat) (v : α) :
    storeGet d (storePut d m k v) j = if j = k then v else storeGet d m j := by
  by_cases h : v = d k
  · simp only [storeGet, storePut, h, if_true, storeFind_erase]
    by_cases hj : j = k
    · subst hj; simp
    · simp [hj]
  · simp only [storeGet, storePut, h, if_false, storeFind_insert]
    by_cases hj : j = k <;> simp [hj]

theorem storeInsert_all [DecidableEq α] (d : Nat → α) (k : Nat) (v : α) (m : Store α) (hv : v ≠ d k)
    (hm : m.all (fun p => decide (p.2 ≠ d p.1)) = true) :
    (storeInsert k v m).all (fun p => decide (p.2 ≠ d p.1)) = true := by
  induction m with
  | nil => simp [storeInsert, hv]
  | cons x r ih =>
    obtain ⟨k', w⟩ := x
    simp only [List.all_cons, Bool.and_eq_true] at hm
    unfold storeInsert
    split
    · simp only [List.all_cons, Bool.and_eq_true]; exact ⟨by simpa using hv, hm.1, hm.2⟩
    · split
      · subst_vars; simp only [List.all_cons, Bool.and_eq_true]; exact ⟨by simpa using hv, hm.2⟩
      · simp only [List.all_cons, Bool.and_eq_true]; exact ⟨hm.1, ih hm.2⟩

theorem storeErase_all (q : Nat × α → Bool) (k : Nat) (m : Store α) (hm : m.all q = true) :
    (storeErase k m).all q = true := by
  induction m with
  | nil => exact hm
  | cons x r ih =>
    obtain ⟨k', w⟩ := x
    simp only [List.all_cons, Bool.and_eq_true] at hm
    unfold storeErase
    split
    · exact ih hm.2
    · simp only [List.all_cons, Bool.and_eq_true]; exact ⟨hm.1, ih hm.2⟩

/-- A write keeps the canonical form of a store. -/
theorem storePut_wf [DecidableEq α] (d : Nat → α) (m : Store α) (k : Nat) (v : α) (hm : storeWf d m = true) :
    storeWf d (storePut d m k v) = true := by
  simp only [storeWf, Bool.and_eq_true] at *
  unfold storePut
  split
  · exact ⟨storeErase_rising none k m hm.1, storeErase_all _ k m hm.2⟩
  · exact ⟨storeInsert_rising none k v m (by simp) hm.1, storeInsert_all d k v m (by assumption) hm.2⟩

/-- A byte written keeps the canonical form of a memory. -/
theorem memWrite_wf (d : Nat → Byte) (m : Memory) (a : Nat) (b : Byte) (hm : m.wf d = true) :
    (memWrite d m a b).wf d = true := storePut_wf d m a b hm

/-- Bytes written keep the canonical form of a memory. -/
theorem memWriteN_wf (d : Nat → Byte) (m : Memory) (a : Nat) (l : List Byte) (hm : m.wf d = true) :
    (memWriteN d m a l).wf d = true := by
  induction l generalizing m a with
  | nil => exact hm
  | cons b r ih => exact ih _ _ (memWrite_wf d m a b hm)

theorem storeRising_filter (q : Nat × α → Bool) (lo : Option Nat) (m : Store α) (hm : storeRising lo m = true) :
    storeRising lo (m.filter q) = true := by
  induction m generalizing lo with
  | nil => exact hm
  | cons x r ih =>
    obtain ⟨k, v⟩ := x
    rw [storeRising_cons] at hm
    simp only [List.filter_cons]
    split
    · rw [storeRising_cons]; exact ⟨hm.1, ih _ hm.2⟩
    · refine ih lo ?_
      cases lo with
      | none => exact storeRising_none r hm.2
      | some p => exact storeRising_weaken (by have := hm.1 p rfl; omega) r hm.2

/-- Addresses that fall back to what an unlisted address reads as leave a memory in its canonical form. -/
theorem memForget_wf (d : Nat → Byte) (m : Memory) (a n : Nat) (hm : m.wf d = true) :
    (memForget m a n).wf d = true := by
  simp only [Memory.wf, storeWf, Bool.and_eq_true] at *
  refine ⟨storeRising_filter _ none m hm.1, ?_⟩
  rw [List.all_eq_true] at *
  intro x hx
  exact hm.2 x (List.mem_filter.mp hx).1

/-- Read after the write of one byte. -/
theorem memRead_write (d : Nat → Byte) (m : Memory) (a j : Nat) (b : Byte) :
    memRead d (memWrite d m a b) j = if j = a then b else memRead d m j := storeGet_put d m a j b

/-- A byte outside those written reads as before. -/
theorem memRead_writeN_outside (d : Nat → Byte) (m : Memory) (a j : Nat) (l : List Byte)
    (hj : j < a ∨ a + l.length ≤ j) : memRead d (memWriteN d m a l) j = memRead d m j := by
  induction l generalizing m a with
  | nil => rfl
  | cons b r ih =>
    simp only [List.length_cons] at hj
    show memRead d (memWriteN d (memWrite d m a b) (a + 1) r) j = _
    rw [ih _ _ (by omega), memRead_write d m a j b]
    have : j ≠ a := by omega
    simp [this]

/-- The bytes written read back. -/
theorem memRead_writeN_inside (d : Nat → Byte) (m : Memory) (a i : Nat) (l : List Byte) (hi : i < l.length) :
    memRead d (memWriteN d m a l) (a + i) = l[i] := by
  induction l generalizing m a i with
  | nil => simp at hi
  | cons b r ih =>
    show memRead d (memWriteN d (memWrite d m a b) (a + 1) r) (a + i) = _
    cases i with
    | zero =>
      rw [memRead_writeN_outside d _ _ _ _ (by omega)]
      simpa using memRead_write d m a a b
    | succ n =>
      have e : a + (n + 1) = (a + 1) + n := by omega
      rw [e, ih _ _ _ (by simpa using hi)]
      simp

end Sys2Proof.Machine
end

