-- ==== Sys2Proof/Laws/State.lean ====
section
/-! SUPPORT. What each named operation leaves alone, one lemma per field, and what a register reads after it was written. -/

namespace Sys2Proof.Machine

section
variable (s : State) (t : Nat)
@[simp] theorem State.at_tile : (s.at t).tile = s.tile := rfl
@[simp] theorem State.at_cat : (s.at t).cat = s.cat := rfl
@[simp] theorem State.at_log : (s.at t).log = s.log := rfl
@[simp] theorem State.at_recs : (s.at t).recs = s.recs := rfl
@[simp] theorem State.at_lt : (s.at t).lt = s.lt := rfl
@[simp] theorem State.at_la : (s.at t).la = s.la := rfl
@[simp] theorem State.at_portA : (s.at t).portA = s.portA := rfl
@[simp] theorem State.at_portB : (s.at t).portB = s.portB := rfl
@[simp] theorem State.at_rg : (s.at t).rg = s.rg := rfl
@[simp] theorem State.at_am : (s.at t).am = s.am := rfl
@[simp] theorem State.at_cal : (s.at t).cal = s.cal := rfl
@[simp] theorem State.at_fol : (s.at t).fol = s.fol := rfl
@[simp] theorem State.at_sec : (s.at t).sec = s.sec := rfl
@[simp] theorem State.at_ck : (s.at t).ck = s.ck := rfl
@[simp] theorem State.at_pw : (s.at t).pw = s.pw := rfl
@[simp] theorem State.at_cu : (s.at t).cu = s.cu := rfl
@[simp] theorem State.at_pins : (s.at t).pins = s.pins := rfl
@[simp] theorem State.at_tw : (s.at t).tw = s.tw := rfl
@[simp] theorem State.at_ga : (s.at t).ga = s.ga := rfl
@[simp] theorem State.at_archive : (s.at t).archive = s.archive := rfl
@[simp] theorem State.at_free : (s.at t).free = s.free := rfl
@[simp] theorem State.at_pending : (s.at t).pending = s.pending := rfl
end

section
variable (s : State) 
@[simp] theorem State.drawn_now : (s.drawn).now = s.now := rfl
@[simp] theorem State.drawn_tile : (s.drawn).tile = s.tile := rfl
@[simp] theorem State.drawn_cat : (s.drawn).cat = s.cat := rfl
@[simp] theorem State.drawn_log : (s.drawn).log = s.log := rfl
@[simp] theorem State.drawn_recs : (s.drawn).recs = s.recs := rfl
@[simp] theorem State.drawn_lt : (s.drawn).lt = s.lt := rfl
@[simp] theorem State.drawn_la : (s.drawn).la = s.la := rfl
@[simp] theorem State.drawn_portA : (s.drawn).portA = s.portA := rfl
@[simp] theorem State.drawn_portB : (s.drawn).portB = s.portB := rfl
@[simp] theorem State.drawn_rg : (s.drawn).rg = s.rg := rfl
@[simp] theorem State.drawn_am : (s.drawn).am = s.am := rfl
@[simp] theorem State.drawn_cal : (s.drawn).cal = s.cal := rfl
@[simp] theorem State.drawn_fol : (s.drawn).fol = s.fol := rfl
@[simp] theorem State.drawn_sec : (s.drawn).sec = s.sec := rfl
@[simp] theorem State.drawn_ck : (s.drawn).ck = s.ck := rfl
@[simp] theorem State.drawn_pw : (s.drawn).pw = s.pw := rfl
@[simp] theorem State.drawn_cu : (s.drawn).cu = s.cu := rfl
@[simp] theorem State.drawn_pins : (s.drawn).pins = s.pins := rfl
@[simp] theorem State.drawn_tw : (s.drawn).tw = s.tw := rfl
@[simp] theorem State.drawn_ga : (s.drawn).ga = s.ga := rfl
@[simp] theorem State.drawn_archive : (s.drawn).archive = s.archive := rfl
@[simp] theorem State.drawn_pending : (s.drawn).pending = s.pending := rfl
end

section
variable (s : State) (o v : Nat)
@[simp] theorem State.setReg_now : (s.setReg o v).now = s.now := rfl
@[simp] theorem State.setReg_tile : (s.setReg o v).tile = s.tile := rfl
@[simp] theorem State.setReg_log : (s.setReg o v).log = s.log := rfl
@[simp] theorem State.setReg_recs : (s.setReg o v).recs = s.recs := rfl
@[simp] theorem State.setReg_lt : (s.setReg o v).lt = s.lt := rfl
@[simp] theorem State.setReg_la : (s.setReg o v).la = s.la := rfl
@[simp] theorem State.setReg_portA : (s.setReg o v).portA = s.portA := rfl
@[simp] theorem State.setReg_portB : (s.setReg o v).portB = s.portB := rfl
@[simp] theorem State.setReg_rg : (s.setReg o v).rg = s.rg := rfl
@[simp] theorem State.setReg_am : (s.setReg o v).am = s.am := rfl
@[simp] theorem State.setReg_cal : (s.setReg o v).cal = s.cal := rfl
@[simp] theorem State.setReg_fol : (s.setReg o v).fol = s.fol := rfl
@[simp] theorem State.setReg_sec : (s.setReg o v).sec = s.sec := rfl
@[simp] theorem State.setReg_ck : (s.setReg o v).ck = s.ck := rfl
@[simp] theorem State.setReg_pw : (s.setReg o v).pw = s.pw := rfl
@[simp] theorem State.setReg_cu : (s.setReg o v).cu = s.cu := rfl
@[simp] theorem State.setReg_pins : (s.setReg o v).pins = s.pins := rfl
@[simp] theorem State.setReg_tw : (s.setReg o v).tw = s.tw := rfl
@[simp] theorem State.setReg_ga : (s.setReg o v).ga = s.ga := rfl
@[simp] theorem State.setReg_archive : (s.setReg o v).archive = s.archive := rfl
@[simp] theorem State.setReg_free : (s.setReg o v).free = s.free := rfl
@[simp] theorem State.setReg_pending : (s.setReg o v).pending = s.pending := rfl
end

section
variable (s : State) (w o n : Nat)
@[simp] theorem State.bumpBy_now : (s.bumpBy w o n).now = s.now := rfl
@[simp] theorem State.bumpBy_tile : (s.bumpBy w o n).tile = s.tile := rfl
@[simp] theorem State.bumpBy_log : (s.bumpBy w o n).log = s.log := rfl
@[simp] theorem State.bumpBy_recs : (s.bumpBy w o n).recs = s.recs := rfl
@[simp] theorem State.bumpBy_lt : (s.bumpBy w o n).lt = s.lt := rfl
@[simp] theorem State.bumpBy_la : (s.bumpBy w o n).la = s.la := rfl
@[simp] theorem State.bumpBy_portA : (s.bumpBy w o n).portA = s.portA := rfl
@[simp] theorem State.bumpBy_portB : (s.bumpBy w o n).portB = s.portB := rfl
@[simp] theorem State.bumpBy_rg : (s.bumpBy w o n).rg = s.rg := rfl
@[simp] theorem State.bumpBy_am : (s.bumpBy w o n).am = s.am := rfl
@[simp] theorem State.bumpBy_cal : (s.bumpBy w o n).cal = s.cal := rfl
@[simp] theorem State.bumpBy_fol : (s.bumpBy w o n).fol = s.fol := rfl
@[simp] theorem State.bumpBy_sec : (s.bumpBy w o n).sec = s.sec := rfl
@[simp] theorem State.bumpBy_ck : (s.bumpBy w o n).ck = s.ck := rfl
@[simp] theorem State.bumpBy_pw : (s.bumpBy w o n).pw = s.pw := rfl
@[simp] theorem State.bumpBy_cu : (s.bumpBy w o n).cu = s.cu := rfl
@[simp] theorem State.bumpBy_pins : (s.bumpBy w o n).pins = s.pins := rfl
@[simp] theorem State.bumpBy_tw : (s.bumpBy w o n).tw = s.tw := rfl
@[simp] theorem State.bumpBy_ga : (s.bumpBy w o n).ga = s.ga := rfl
@[simp] theorem State.bumpBy_archive : (s.bumpBy w o n).archive = s.archive := rfl
@[simp] theorem State.bumpBy_free : (s.bumpBy w o n).free = s.free := rfl
@[simp] theorem State.bumpBy_pending : (s.bumpBy w o n).pending = s.pending := rfl
end

section
variable (s : State) (o : Nat)
@[simp] theorem State.bump_now : (s.bump o).now = s.now := rfl
@[simp] theorem State.bump_tile : (s.bump o).tile = s.tile := rfl
@[simp] theorem State.bump_log : (s.bump o).log = s.log := rfl
@[simp] theorem State.bump_recs : (s.bump o).recs = s.recs := rfl
@[simp] theorem State.bump_lt : (s.bump o).lt = s.lt := rfl
@[simp] theorem State.bump_la : (s.bump o).la = s.la := rfl
@[simp] theorem State.bump_portA : (s.bump o).portA = s.portA := rfl
@[simp] theorem State.bump_portB : (s.bump o).portB = s.portB := rfl
@[simp] theorem State.bump_rg : (s.bump o).rg = s.rg := rfl
@[simp] theorem State.bump_am : (s.bump o).am = s.am := rfl
@[simp] theorem State.bump_cal : (s.bump o).cal = s.cal := rfl
@[simp] theorem State.bump_fol : (s.bump o).fol = s.fol := rfl
@[simp] theorem State.bump_sec : (s.bump o).sec = s.sec := rfl
@[simp] theorem State.bump_ck : (s.bump o).ck = s.ck := rfl
@[simp] theorem State.bump_pw : (s.bump o).pw = s.pw := rfl
@[simp] theorem State.bump_cu : (s.bump o).cu = s.cu := rfl
@[simp] theorem State.bump_pins : (s.bump o).pins = s.pins := rfl
@[simp] theorem State.bump_tw : (s.bump o).tw = s.tw := rfl
@[simp] theorem State.bump_ga : (s.bump o).ga = s.ga := rfl
@[simp] theorem State.bump_archive : (s.bump o).archive = s.archive := rfl
@[simp] theorem State.bump_free : (s.bump o).free = s.free := rfl
@[simp] theorem State.bump_pending : (s.bump o).pending = s.pending := rfl
end

section
variable (s : State) (o k : Nat) (b : Bool)
@[simp] theorem State.setFlag_now : (s.setFlag o k b).now = s.now := rfl
@[simp] theorem State.setFlag_tile : (s.setFlag o k b).tile = s.tile := rfl
@[simp] theorem State.setFlag_log : (s.setFlag o k b).log = s.log := rfl
@[simp] theorem State.setFlag_recs : (s.setFlag o k b).recs = s.recs := rfl
@[simp] theorem State.setFlag_lt : (s.setFlag o k b).lt = s.lt := rfl
@[simp] theorem State.setFlag_la : (s.setFlag o k b).la = s.la := rfl
@[simp] theorem State.setFlag_portA : (s.setFlag o k b).portA = s.portA := rfl
@[simp] theorem State.setFlag_portB : (s.setFlag o k b).portB = s.portB := rfl
@[simp] theorem State.setFlag_rg : (s.setFlag o k b).rg = s.rg := rfl
@[simp] theorem State.setFlag_am : (s.setFlag o k b).am = s.am := rfl
@[simp] theorem State.setFlag_cal : (s.setFlag o k b).cal = s.cal := rfl
@[simp] theorem State.setFlag_fol : (s.setFlag o k b).fol = s.fol := rfl
@[simp] theorem State.setFlag_sec : (s.setFlag o k b).sec = s.sec := rfl
@[simp] theorem State.setFlag_ck : (s.setFlag o k b).ck = s.ck := rfl
@[simp] theorem State.setFlag_pw : (s.setFlag o k b).pw = s.pw := rfl
@[simp] theorem State.setFlag_cu : (s.setFlag o k b).cu = s.cu := rfl
@[simp] theorem State.setFlag_pins : (s.setFlag o k b).pins = s.pins := rfl
@[simp] theorem State.setFlag_tw : (s.setFlag o k b).tw = s.tw := rfl
@[simp] theorem State.setFlag_ga : (s.setFlag o k b).ga = s.ga := rfl
@[simp] theorem State.setFlag_archive : (s.setFlag o k b).archive = s.archive := rfl
@[simp] theorem State.setFlag_free : (s.setFlag o k b).free = s.free := rfl
@[simp] theorem State.setFlag_pending : (s.setFlag o k b).pending = s.pending := rfl
end

section
variable (s : State) 
@[simp] theorem State.nextVersion_now : (s.nextVersion).now = s.now := rfl
@[simp] theorem State.nextVersion_tile : (s.nextVersion).tile = s.tile := rfl
@[simp] theorem State.nextVersion_log : (s.nextVersion).log = s.log := rfl
@[simp] theorem State.nextVersion_recs : (s.nextVersion).recs = s.recs := rfl
@[simp] theorem State.nextVersion_lt : (s.nextVersion).lt = s.lt := rfl
@[simp] theorem State.nextVersion_la : (s.nextVersion).la = s.la := rfl
@[simp] theorem State.nextVersion_portA : (s.nextVersion).portA = s.portA := rfl
@[simp] theorem State.nextVersion_portB : (s.nextVersion).portB = s.portB := rfl
@[simp] theorem State.nextVersion_rg : (s.nextVersion).rg = s.rg := rfl
@[simp] theorem State.nextVersion_am : (s.nextVersion).am = s.am := rfl
@[simp] theorem State.nextVersion_cal : (s.nextVersion).cal = s.cal := rfl
@[simp] theorem State.nextVersion_fol : (s.nextVersion).fol = s.fol := rfl
@[simp] theorem State.nextVersion_sec : (s.nextVersion).sec = s.sec := rfl
@[simp] theorem State.nextVersion_ck : (s.nextVersion).ck = s.ck := rfl
@[simp] theorem State.nextVersion_pw : (s.nextVersion).pw = s.pw := rfl
@[simp] theorem State.nextVersion_cu : (s.nextVersion).cu = s.cu := rfl
@[simp] theorem State.nextVersion_pins : (s.nextVersion).pins = s.pins := rfl
@[simp] theorem State.nextVersion_tw : (s.nextVersion).tw = s.tw := rfl
@[simp] theorem State.nextVersion_ga : (s.nextVersion).ga = s.ga := rfl
@[simp] theorem State.nextVersion_archive : (s.nextVersion).archive = s.archive := rfl
@[simp] theorem State.nextVersion_free : (s.nextVersion).free = s.free := rfl
@[simp] theorem State.nextVersion_pending : (s.nextVersion).pending = s.pending := rfl
end

section
variable (s : State) (o : Nat)
@[simp] theorem State.touch_now : (s.touch o).now = s.now := rfl
@[simp] theorem State.touch_tile : (s.touch o).tile = s.tile := rfl
@[simp] theorem State.touch_log : (s.touch o).log = s.log := rfl
@[simp] theorem State.touch_recs : (s.touch o).recs = s.recs := rfl
@[simp] theorem State.touch_lt : (s.touch o).lt = s.lt := rfl
@[simp] theorem State.touch_la : (s.touch o).la = s.la := rfl
@[simp] theorem State.touch_portA : (s.touch o).portA = s.portA := rfl
@[simp] theorem State.touch_portB : (s.touch o).portB = s.portB := rfl
@[simp] theorem State.touch_rg : (s.touch o).rg = s.rg := rfl
@[simp] theorem State.touch_am : (s.touch o).am = s.am := rfl
@[simp] theorem State.touch_cal : (s.touch o).cal = s.cal := rfl
@[simp] theorem State.touch_fol : (s.touch o).fol = s.fol := rfl
@[simp] theorem State.touch_sec : (s.touch o).sec = s.sec := rfl
@[simp] theorem State.touch_ck : (s.touch o).ck = s.ck := rfl
@[simp] theorem State.touch_pw : (s.touch o).pw = s.pw := rfl
@[simp] theorem State.touch_cu : (s.touch o).cu = s.cu := rfl
@[simp] theorem State.touch_pins : (s.touch o).pins = s.pins := rfl
@[simp] theorem State.touch_tw : (s.touch o).tw = s.tw := rfl
@[simp] theorem State.touch_ga : (s.touch o).ga = s.ga := rfl
@[simp] theorem State.touch_archive : (s.touch o).archive = s.archive := rfl
@[simp] theorem State.touch_free : (s.touch o).free = s.free := rfl
@[simp] theorem State.touch_pending : (s.touch o).pending = s.pending := rfl
end

section
variable (s : State) (o : Nat) (l : List Byte)
@[simp] theorem State.setBlob_now : (s.setBlob o l).now = s.now := rfl
@[simp] theorem State.setBlob_tile : (s.setBlob o l).tile = s.tile := rfl
@[simp] theorem State.setBlob_log : (s.setBlob o l).log = s.log := rfl
@[simp] theorem State.setBlob_recs : (s.setBlob o l).recs = s.recs := rfl
@[simp] theorem State.setBlob_lt : (s.setBlob o l).lt = s.lt := rfl
@[simp] theorem State.setBlob_la : (s.setBlob o l).la = s.la := rfl
@[simp] theorem State.setBlob_portA : (s.setBlob o l).portA = s.portA := rfl
@[simp] theorem State.setBlob_portB : (s.setBlob o l).portB = s.portB := rfl
@[simp] theorem State.setBlob_rg : (s.setBlob o l).rg = s.rg := rfl
@[simp] theorem State.setBlob_am : (s.setBlob o l).am = s.am := rfl
@[simp] theorem State.setBlob_cal : (s.setBlob o l).cal = s.cal := rfl
@[simp] theorem State.setBlob_fol : (s.setBlob o l).fol = s.fol := rfl
@[simp] theorem State.setBlob_sec : (s.setBlob o l).sec = s.sec := rfl
@[simp] theorem State.setBlob_ck : (s.setBlob o l).ck = s.ck := rfl
@[simp] theorem State.setBlob_pw : (s.setBlob o l).pw = s.pw := rfl
@[simp] theorem State.setBlob_cu : (s.setBlob o l).cu = s.cu := rfl
@[simp] theorem State.setBlob_pins : (s.setBlob o l).pins = s.pins := rfl
@[simp] theorem State.setBlob_tw : (s.setBlob o l).tw = s.tw := rfl
@[simp] theorem State.setBlob_ga : (s.setBlob o l).ga = s.ga := rfl
@[simp] theorem State.setBlob_archive : (s.setBlob o l).archive = s.archive := rfl
@[simp] theorem State.setBlob_free : (s.setBlob o l).free = s.free := rfl
@[simp] theorem State.setBlob_pending : (s.setBlob o l).pending = s.pending := rfl
end

section
variable (s : State) (o k : Nat) (l : List Byte)
@[simp] theorem State.patchBlob_now : (s.patchBlob o k l).now = s.now := rfl
@[simp] theorem State.patchBlob_tile : (s.patchBlob o k l).tile = s.tile := rfl
@[simp] theorem State.patchBlob_log : (s.patchBlob o k l).log = s.log := rfl
@[simp] theorem State.patchBlob_recs : (s.patchBlob o k l).recs = s.recs := rfl
@[simp] theorem State.patchBlob_lt : (s.patchBlob o k l).lt = s.lt := rfl
@[simp] theorem State.patchBlob_la : (s.patchBlob o k l).la = s.la := rfl
@[simp] theorem State.patchBlob_portA : (s.patchBlob o k l).portA = s.portA := rfl
@[simp] theorem State.patchBlob_portB : (s.patchBlob o k l).portB = s.portB := rfl
@[simp] theorem State.patchBlob_rg : (s.patchBlob o k l).rg = s.rg := rfl
@[simp] theorem State.patchBlob_am : (s.patchBlob o k l).am = s.am := rfl
@[simp] theorem State.patchBlob_cal : (s.patchBlob o k l).cal = s.cal := rfl
@[simp] theorem State.patchBlob_fol : (s.patchBlob o k l).fol = s.fol := rfl
@[simp] theorem State.patchBlob_sec : (s.patchBlob o k l).sec = s.sec := rfl
@[simp] theorem State.patchBlob_ck : (s.patchBlob o k l).ck = s.ck := rfl
@[simp] theorem State.patchBlob_pw : (s.patchBlob o k l).pw = s.pw := rfl
@[simp] theorem State.patchBlob_cu : (s.patchBlob o k l).cu = s.cu := rfl
@[simp] theorem State.patchBlob_pins : (s.patchBlob o k l).pins = s.pins := rfl
@[simp] theorem State.patchBlob_tw : (s.patchBlob o k l).tw = s.tw := rfl
@[simp] theorem State.patchBlob_ga : (s.patchBlob o k l).ga = s.ga := rfl
@[simp] theorem State.patchBlob_archive : (s.patchBlob o k l).archive = s.archive := rfl
@[simp] theorem State.patchBlob_free : (s.patchBlob o k l).free = s.free := rfl
@[simp] theorem State.patchBlob_pending : (s.patchBlob o k l).pending = s.pending := rfl
end

section
variable (s : State) (o : Nat) (l : List Byte)
@[simp] theorem State.setStagedBlob_now : (s.setStagedBlob o l).now = s.now := rfl
@[simp] theorem State.setStagedBlob_tile : (s.setStagedBlob o l).tile = s.tile := rfl
@[simp] theorem State.setStagedBlob_log : (s.setStagedBlob o l).log = s.log := rfl
@[simp] theorem State.setStagedBlob_recs : (s.setStagedBlob o l).recs = s.recs := rfl
@[simp] theorem State.setStagedBlob_lt : (s.setStagedBlob o l).lt = s.lt := rfl
@[simp] theorem State.setStagedBlob_la : (s.setStagedBlob o l).la = s.la := rfl
@[simp] theorem State.setStagedBlob_portA : (s.setStagedBlob o l).portA = s.portA := rfl
@[simp] theorem State.setStagedBlob_portB : (s.setStagedBlob o l).portB = s.portB := rfl
@[simp] theorem State.setStagedBlob_rg : (s.setStagedBlob o l).rg = s.rg := rfl
@[simp] theorem State.setStagedBlob_am : (s.setStagedBlob o l).am = s.am := rfl
@[simp] theorem State.setStagedBlob_cal : (s.setStagedBlob o l).cal = s.cal := rfl
@[simp] theorem State.setStagedBlob_fol : (s.setStagedBlob o l).fol = s.fol := rfl
@[simp] theorem State.setStagedBlob_sec : (s.setStagedBlob o l).sec = s.sec := rfl
@[simp] theorem State.setStagedBlob_ck : (s.setStagedBlob o l).ck = s.ck := rfl
@[simp] theorem State.setStagedBlob_pw : (s.setStagedBlob o l).pw = s.pw := rfl
@[simp] theorem State.setStagedBlob_cu : (s.setStagedBlob o l).cu = s.cu := rfl
@[simp] theorem State.setStagedBlob_pins : (s.setStagedBlob o l).pins = s.pins := rfl
@[simp] theorem State.setStagedBlob_tw : (s.setStagedBlob o l).tw = s.tw := rfl
@[simp] theorem State.setStagedBlob_ga : (s.setStagedBlob o l).ga = s.ga := rfl
@[simp] theorem State.setStagedBlob_archive : (s.setStagedBlob o l).archive = s.archive := rfl
@[simp] theorem State.setStagedBlob_free : (s.setStagedBlob o l).free = s.free := rfl
@[simp] theorem State.setStagedBlob_pending : (s.setStagedBlob o l).pending = s.pending := rfl
end

section
variable (s : State) (o : Nat) (l : List Byte)
@[simp] theorem State.setWorkBlob_now : (s.setWorkBlob o l).now = s.now := rfl
@[simp] theorem State.setWorkBlob_tile : (s.setWorkBlob o l).tile = s.tile := rfl
@[simp] theorem State.setWorkBlob_log : (s.setWorkBlob o l).log = s.log := rfl
@[simp] theorem State.setWorkBlob_recs : (s.setWorkBlob o l).recs = s.recs := rfl
@[simp] theorem State.setWorkBlob_lt : (s.setWorkBlob o l).lt = s.lt := rfl
@[simp] theorem State.setWorkBlob_la : (s.setWorkBlob o l).la = s.la := rfl
@[simp] theorem State.setWorkBlob_portA : (s.setWorkBlob o l).portA = s.portA := rfl
@[simp] theorem State.setWorkBlob_portB : (s.setWorkBlob o l).portB = s.portB := rfl
@[simp] theorem State.setWorkBlob_rg : (s.setWorkBlob o l).rg = s.rg := rfl
@[simp] theorem State.setWorkBlob_am : (s.setWorkBlob o l).am = s.am := rfl
@[simp] theorem State.setWorkBlob_cal : (s.setWorkBlob o l).cal = s.cal := rfl
@[simp] theorem State.setWorkBlob_fol : (s.setWorkBlob o l).fol = s.fol := rfl
@[simp] theorem State.setWorkBlob_sec : (s.setWorkBlob o l).sec = s.sec := rfl
@[simp] theorem State.setWorkBlob_ck : (s.setWorkBlob o l).ck = s.ck := rfl
@[simp] theorem State.setWorkBlob_pw : (s.setWorkBlob o l).pw = s.pw := rfl
@[simp] theorem State.setWorkBlob_cu : (s.setWorkBlob o l).cu = s.cu := rfl
@[simp] theorem State.setWorkBlob_pins : (s.setWorkBlob o l).pins = s.pins := rfl
@[simp] theorem State.setWorkBlob_tw : (s.setWorkBlob o l).tw = s.tw := rfl
@[simp] theorem State.setWorkBlob_ga : (s.setWorkBlob o l).ga = s.ga := rfl
@[simp] theorem State.setWorkBlob_archive : (s.setWorkBlob o l).archive = s.archive := rfl
@[simp] theorem State.setWorkBlob_free : (s.setWorkBlob o l).free = s.free := rfl
@[simp] theorem State.setWorkBlob_pending : (s.setWorkBlob o l).pending = s.pending := rfl
end

section
variable (s : State) (o v : Nat)
@[simp] theorem State.setStg_now : (s.setStg o v).now = s.now := rfl
@[simp] theorem State.setStg_tile : (s.setStg o v).tile = s.tile := rfl
@[simp] theorem State.setStg_log : (s.setStg o v).log = s.log := rfl
@[simp] theorem State.setStg_recs : (s.setStg o v).recs = s.recs := rfl
@[simp] theorem State.setStg_lt : (s.setStg o v).lt = s.lt := rfl
@[simp] theorem State.setStg_la : (s.setStg o v).la = s.la := rfl
@[simp] theorem State.setStg_portA : (s.setStg o v).portA = s.portA := rfl
@[simp] theorem State.setStg_portB : (s.setStg o v).portB = s.portB := rfl
@[simp] theorem State.setStg_rg : (s.setStg o v).rg = s.rg := rfl
@[simp] theorem State.setStg_am : (s.setStg o v).am = s.am := rfl
@[simp] theorem State.setStg_cal : (s.setStg o v).cal = s.cal := rfl
@[simp] theorem State.setStg_fol : (s.setStg o v).fol = s.fol := rfl
@[simp] theorem State.setStg_sec : (s.setStg o v).sec = s.sec := rfl
@[simp] theorem State.setStg_ck : (s.setStg o v).ck = s.ck := rfl
@[simp] theorem State.setStg_pw : (s.setStg o v).pw = s.pw := rfl
@[simp] theorem State.setStg_cu : (s.setStg o v).cu = s.cu := rfl
@[simp] theorem State.setStg_pins : (s.setStg o v).pins = s.pins := rfl
@[simp] theorem State.setStg_tw : (s.setStg o v).tw = s.tw := rfl
@[simp] theorem State.setStg_ga : (s.setStg o v).ga = s.ga := rfl
@[simp] theorem State.setStg_archive : (s.setStg o v).archive = s.archive := rfl
@[simp] theorem State.setStg_free : (s.setStg o v).free = s.free := rfl
@[simp] theorem State.setStg_pending : (s.setStg o v).pending = s.pending := rfl
end

section
variable (s : State) (o v : Nat)
@[simp] theorem State.setWrk_now : (s.setWrk o v).now = s.now := rfl
@[simp] theorem State.setWrk_tile : (s.setWrk o v).tile = s.tile := rfl
@[simp] theorem State.setWrk_log : (s.setWrk o v).log = s.log := rfl
@[simp] theorem State.setWrk_recs : (s.setWrk o v).recs = s.recs := rfl
@[simp] theorem State.setWrk_lt : (s.setWrk o v).lt = s.lt := rfl
@[simp] theorem State.setWrk_la : (s.setWrk o v).la = s.la := rfl
@[simp] theorem State.setWrk_portA : (s.setWrk o v).portA = s.portA := rfl
@[simp] theorem State.setWrk_portB : (s.setWrk o v).portB = s.portB := rfl
@[simp] theorem State.setWrk_rg : (s.setWrk o v).rg = s.rg := rfl
@[simp] theorem State.setWrk_am : (s.setWrk o v).am = s.am := rfl
@[simp] theorem State.setWrk_cal : (s.setWrk o v).cal = s.cal := rfl
@[simp] theorem State.setWrk_fol : (s.setWrk o v).fol = s.fol := rfl
@[simp] theorem State.setWrk_sec : (s.setWrk o v).sec = s.sec := rfl
@[simp] theorem State.setWrk_ck : (s.setWrk o v).ck = s.ck := rfl
@[simp] theorem State.setWrk_pw : (s.setWrk o v).pw = s.pw := rfl
@[simp] theorem State.setWrk_cu : (s.setWrk o v).cu = s.cu := rfl
@[simp] theorem State.setWrk_pins : (s.setWrk o v).pins = s.pins := rfl
@[simp] theorem State.setWrk_tw : (s.setWrk o v).tw = s.tw := rfl
@[simp] theorem State.setWrk_ga : (s.setWrk o v).ga = s.ga := rfl
@[simp] theorem State.setWrk_archive : (s.setWrk o v).archive = s.archive := rfl
@[simp] theorem State.setWrk_free : (s.setWrk o v).free = s.free := rfl
@[simp] theorem State.setWrk_pending : (s.setWrk o v).pending = s.pending := rfl
end

section
variable (s : State) (o k : Nat)
@[simp] theorem State.bumpEntry_now : (s.bumpEntry o k).now = s.now := rfl
@[simp] theorem State.bumpEntry_tile : (s.bumpEntry o k).tile = s.tile := rfl
@[simp] theorem State.bumpEntry_log : (s.bumpEntry o k).log = s.log := rfl
@[simp] theorem State.bumpEntry_recs : (s.bumpEntry o k).recs = s.recs := rfl
@[simp] theorem State.bumpEntry_lt : (s.bumpEntry o k).lt = s.lt := rfl
@[simp] theorem State.bumpEntry_la : (s.bumpEntry o k).la = s.la := rfl
@[simp] theorem State.bumpEntry_portA : (s.bumpEntry o k).portA = s.portA := rfl
@[simp] theorem State.bumpEntry_portB : (s.bumpEntry o k).portB = s.portB := rfl
@[simp] theorem State.bumpEntry_rg : (s.bumpEntry o k).rg = s.rg := rfl
@[simp] theorem State.bumpEntry_am : (s.bumpEntry o k).am = s.am := rfl
@[simp] theorem State.bumpEntry_cal : (s.bumpEntry o k).cal = s.cal := rfl
@[simp] theorem State.bumpEntry_fol : (s.bumpEntry o k).fol = s.fol := rfl
@[simp] theorem State.bumpEntry_sec : (s.bumpEntry o k).sec = s.sec := rfl
@[simp] theorem State.bumpEntry_ck : (s.bumpEntry o k).ck = s.ck := rfl
@[simp] theorem State.bumpEntry_pw : (s.bumpEntry o k).pw = s.pw := rfl
@[simp] theorem State.bumpEntry_cu : (s.bumpEntry o k).cu = s.cu := rfl
@[simp] theorem State.bumpEntry_pins : (s.bumpEntry o k).pins = s.pins := rfl
@[simp] theorem State.bumpEntry_tw : (s.bumpEntry o k).tw = s.tw := rfl
@[simp] theorem State.bumpEntry_ga : (s.bumpEntry o k).ga = s.ga := rfl
@[simp] theorem State.bumpEntry_archive : (s.bumpEntry o k).archive = s.archive := rfl
@[simp] theorem State.bumpEntry_free : (s.bumpEntry o k).free = s.free := rfl
@[simp] theorem State.bumpEntry_pending : (s.bumpEntry o k).pending = s.pending := rfl
end

section
variable (s : State) (o k n : Nat)
@[simp] theorem State.bumpEntry64_now : (s.bumpEntry64 o k n).now = s.now := rfl
@[simp] theorem State.bumpEntry64_tile : (s.bumpEntry64 o k n).tile = s.tile := rfl
@[simp] theorem State.bumpEntry64_log : (s.bumpEntry64 o k n).log = s.log := rfl
@[simp] theorem State.bumpEntry64_recs : (s.bumpEntry64 o k n).recs = s.recs := rfl
@[simp] theorem State.bumpEntry64_lt : (s.bumpEntry64 o k n).lt = s.lt := rfl
@[simp] theorem State.bumpEntry64_la : (s.bumpEntry64 o k n).la = s.la := rfl
@[simp] theorem State.bumpEntry64_portA : (s.bumpEntry64 o k n).portA = s.portA := rfl
@[simp] theorem State.bumpEntry64_portB : (s.bumpEntry64 o k n).portB = s.portB := rfl
@[simp] theorem State.bumpEntry64_rg : (s.bumpEntry64 o k n).rg = s.rg := rfl
@[simp] theorem State.bumpEntry64_am : (s.bumpEntry64 o k n).am = s.am := rfl
@[simp] theorem State.bumpEntry64_cal : (s.bumpEntry64 o k n).cal = s.cal := rfl
@[simp] theorem State.bumpEntry64_fol : (s.bumpEntry64 o k n).fol = s.fol := rfl
@[simp] theorem State.bumpEntry64_sec : (s.bumpEntry64 o k n).sec = s.sec := rfl
@[simp] theorem State.bumpEntry64_ck : (s.bumpEntry64 o k n).ck = s.ck := rfl
@[simp] theorem State.bumpEntry64_pw : (s.bumpEntry64 o k n).pw = s.pw := rfl
@[simp] theorem State.bumpEntry64_cu : (s.bumpEntry64 o k n).cu = s.cu := rfl
@[simp] theorem State.bumpEntry64_pins : (s.bumpEntry64 o k n).pins = s.pins := rfl
@[simp] theorem State.bumpEntry64_tw : (s.bumpEntry64 o k n).tw = s.tw := rfl
@[simp] theorem State.bumpEntry64_ga : (s.bumpEntry64 o k n).ga = s.ga := rfl
@[simp] theorem State.bumpEntry64_archive : (s.bumpEntry64 o k n).archive = s.archive := rfl
@[simp] theorem State.bumpEntry64_free : (s.bumpEntry64 o k n).free = s.free := rfl
@[simp] theorem State.bumpEntry64_pending : (s.bumpEntry64 o k n).pending = s.pending := rfl
end

section
variable (s : State) (k : Nat)
@[simp] theorem State.alert_now : (s.alert k).now = s.now := rfl
@[simp] theorem State.alert_tile : (s.alert k).tile = s.tile := rfl
@[simp] theorem State.alert_log : (s.alert k).log = s.log := rfl
@[simp] theorem State.alert_recs : (s.alert k).recs = s.recs := rfl
@[simp] theorem State.alert_lt : (s.alert k).lt = s.lt := rfl
@[simp] theorem State.alert_la : (s.alert k).la = s.la := rfl
@[simp] theorem State.alert_portA : (s.alert k).portA = s.portA := rfl
@[simp] theorem State.alert_portB : (s.alert k).portB = s.portB := rfl
@[simp] theorem State.alert_rg : (s.alert k).rg = s.rg := rfl
@[simp] theorem State.alert_am : (s.alert k).am = s.am := rfl
@[simp] theorem State.alert_cal : (s.alert k).cal = s.cal := rfl
@[simp] theorem State.alert_fol : (s.alert k).fol = s.fol := rfl
@[simp] theorem State.alert_sec : (s.alert k).sec = s.sec := rfl
@[simp] theorem State.alert_ck : (s.alert k).ck = s.ck := rfl
@[simp] theorem State.alert_pw : (s.alert k).pw = s.pw := rfl
@[simp] theorem State.alert_cu : (s.alert k).cu = s.cu := rfl
@[simp] theorem State.alert_pins : (s.alert k).pins = s.pins := rfl
@[simp] theorem State.alert_tw : (s.alert k).tw = s.tw := rfl
@[simp] theorem State.alert_ga : (s.alert k).ga = s.ga := rfl
@[simp] theorem State.alert_archive : (s.alert k).archive = s.archive := rfl
@[simp] theorem State.alert_free : (s.alert k).free = s.free := rfl
@[simp] theorem State.alert_pending : (s.alert k).pending = s.pending := rfl
end

section
variable (s : State) (n : Nat)
@[simp] theorem State.moved_now : (s.moved n).now = s.now := rfl
@[simp] theorem State.moved_tile : (s.moved n).tile = s.tile := rfl
@[simp] theorem State.moved_cat : (s.moved n).cat = s.cat := rfl
@[simp] theorem State.moved_log : (s.moved n).log = s.log := rfl
@[simp] theorem State.moved_recs : (s.moved n).recs = s.recs := rfl
@[simp] theorem State.moved_lt : (s.moved n).lt = s.lt := rfl
@[simp] theorem State.moved_la : (s.moved n).la = s.la := rfl
@[simp] theorem State.moved_portA : (s.moved n).portA = s.portA := rfl
@[simp] theorem State.moved_portB : (s.moved n).portB = s.portB := rfl
@[simp] theorem State.moved_rg : (s.moved n).rg = s.rg := rfl
@[simp] theorem State.moved_am : (s.moved n).am = s.am := rfl
@[simp] theorem State.moved_cal : (s.moved n).cal = s.cal := rfl
@[simp] theorem State.moved_fol : (s.moved n).fol = s.fol := rfl
@[simp] theorem State.moved_sec : (s.moved n).sec = s.sec := rfl
@[simp] theorem State.moved_ck : (s.moved n).ck = s.ck := rfl
@[simp] theorem State.moved_pw : (s.moved n).pw = s.pw := rfl
@[simp] theorem State.moved_pins : (s.moved n).pins = s.pins := rfl
@[simp] theorem State.moved_tw : (s.moved n).tw = s.tw := rfl
@[simp] theorem State.moved_ga : (s.moved n).ga = s.ga := rfl
@[simp] theorem State.moved_archive : (s.moved n).archive = s.archive := rfl
@[simp] theorem State.moved_free : (s.moved n).free = s.free := rfl
@[simp] theorem State.moved_pending : (s.moved n).pending = s.pending := rfl
end

section
variable (s : State) (a n : Nat)
@[simp] theorem State.rewritten_now : (s.rewritten a n).now = s.now := rfl
@[simp] theorem State.rewritten_tile : (s.rewritten a n).tile = s.tile := rfl
@[simp] theorem State.rewritten_cat : (s.rewritten a n).cat = s.cat := rfl
@[simp] theorem State.rewritten_log : (s.rewritten a n).log = s.log := rfl
@[simp] theorem State.rewritten_recs : (s.rewritten a n).recs = s.recs := rfl
@[simp] theorem State.rewritten_lt : (s.rewritten a n).lt = s.lt := rfl
@[simp] theorem State.rewritten_la : (s.rewritten a n).la = s.la := rfl
@[simp] theorem State.rewritten_portA : (s.rewritten a n).portA = s.portA := rfl
@[simp] theorem State.rewritten_portB : (s.rewritten a n).portB = s.portB := rfl
@[simp] theorem State.rewritten_rg : (s.rewritten a n).rg = s.rg := rfl
@[simp] theorem State.rewritten_am : (s.rewritten a n).am = s.am := rfl
@[simp] theorem State.rewritten_cal : (s.rewritten a n).cal = s.cal := rfl
@[simp] theorem State.rewritten_fol : (s.rewritten a n).fol = s.fol := rfl
@[simp] theorem State.rewritten_sec : (s.rewritten a n).sec = s.sec := rfl
@[simp] theorem State.rewritten_ck : (s.rewritten a n).ck = s.ck := rfl
@[simp] theorem State.rewritten_pw : (s.rewritten a n).pw = s.pw := rfl
@[simp] theorem State.rewritten_pins : (s.rewritten a n).pins = s.pins := rfl
@[simp] theorem State.rewritten_tw : (s.rewritten a n).tw = s.tw := rfl
@[simp] theorem State.rewritten_ga : (s.rewritten a n).ga = s.ga := rfl
@[simp] theorem State.rewritten_archive : (s.rewritten a n).archive = s.archive := rfl
@[simp] theorem State.rewritten_free : (s.rewritten a n).free = s.free := rfl
@[simp] theorem State.rewritten_pending : (s.rewritten a n).pending = s.pending := rfl
end

section
variable (s : State) (a : Nat) (l : List Byte)
@[simp] theorem State.archWrite_now : (s.archWrite a l).now = s.now := rfl
@[simp] theorem State.archWrite_tile : (s.archWrite a l).tile = s.tile := rfl
@[simp] theorem State.archWrite_cat : (s.archWrite a l).cat = s.cat := rfl
@[simp] theorem State.archWrite_log : (s.archWrite a l).log = s.log := rfl
@[simp] theorem State.archWrite_recs : (s.archWrite a l).recs = s.recs := rfl
@[simp] theorem State.archWrite_lt : (s.archWrite a l).lt = s.lt := rfl
@[simp] theorem State.archWrite_la : (s.archWrite a l).la = s.la := rfl
@[simp] theorem State.archWrite_portA : (s.archWrite a l).portA = s.portA := rfl
@[simp] theorem State.archWrite_portB : (s.archWrite a l).portB = s.portB := rfl
@[simp] theorem State.archWrite_rg : (s.archWrite a l).rg = s.rg := rfl
@[simp] theorem State.archWrite_am : (s.archWrite a l).am = s.am := rfl
@[simp] theorem State.archWrite_cal : (s.archWrite a l).cal = s.cal := rfl
@[simp] theorem State.archWrite_fol : (s.archWrite a l).fol = s.fol := rfl
@[simp] theorem State.archWrite_sec : (s.archWrite a l).sec = s.sec := rfl
@[simp] theorem State.archWrite_ck : (s.archWrite a l).ck = s.ck := rfl
@[simp] theorem State.archWrite_pw : (s.archWrite a l).pw = s.pw := rfl
@[simp] theorem State.archWrite_pins : (s.archWrite a l).pins = s.pins := rfl
@[simp] theorem State.archWrite_tw : (s.archWrite a l).tw = s.tw := rfl
@[simp] theorem State.archWrite_ga : (s.archWrite a l).ga = s.ga := rfl
@[simp] theorem State.archWrite_free : (s.archWrite a l).free = s.free := rfl
@[simp] theorem State.archWrite_pending : (s.archWrite a l).pending = s.pending := rfl
end

section
variable (s : State) (a n : Nat)
@[simp] theorem State.archFill_now : (s.archFill a n).now = s.now := rfl
@[simp] theorem State.archFill_tile : (s.archFill a n).tile = s.tile := rfl
@[simp] theorem State.archFill_cat : (s.archFill a n).cat = s.cat := rfl
@[simp] theorem State.archFill_log : (s.archFill a n).log = s.log := rfl
@[simp] theorem State.archFill_recs : (s.archFill a n).recs = s.recs := rfl
@[simp] theorem State.archFill_lt : (s.archFill a n).lt = s.lt := rfl
@[simp] theorem State.archFill_la : (s.archFill a n).la = s.la := rfl
@[simp] theorem State.archFill_portA : (s.archFill a n).portA = s.portA := rfl
@[simp] theorem State.archFill_portB : (s.archFill a n).portB = s.portB := rfl
@[simp] theorem State.archFill_rg : (s.archFill a n).rg = s.rg := rfl
@[simp] theorem State.archFill_am : (s.archFill a n).am = s.am := rfl
@[simp] theorem State.archFill_cal : (s.archFill a n).cal = s.cal := rfl
@[simp] theorem State.archFill_fol : (s.archFill a n).fol = s.fol := rfl
@[simp] theorem State.archFill_sec : (s.archFill a n).sec = s.sec := rfl
@[simp] theorem State.archFill_ck : (s.archFill a n).ck = s.ck := rfl
@[simp] theorem State.archFill_pw : (s.archFill a n).pw = s.pw := rfl
@[simp] theorem State.archFill_pins : (s.archFill a n).pins = s.pins := rfl
@[simp] theorem State.archFill_tw : (s.archFill a n).tw = s.tw := rfl
@[simp] theorem State.archFill_ga : (s.archFill a n).ga = s.ga := rfl
@[simp] theorem State.archFill_free : (s.archFill a n).free = s.free := rfl
@[simp] theorem State.archFill_pending : (s.archFill a n).pending = s.pending := rfl
end

section
variable (s : State) (e : Nat) (g : Engine)
@[simp] theorem State.setEngine_now : (s.setEngine e g).now = s.now := rfl
@[simp] theorem State.setEngine_tile : (s.setEngine e g).tile = s.tile := rfl
@[simp] theorem State.setEngine_cat : (s.setEngine e g).cat = s.cat := rfl
@[simp] theorem State.setEngine_log : (s.setEngine e g).log = s.log := rfl
@[simp] theorem State.setEngine_recs : (s.setEngine e g).recs = s.recs := rfl
@[simp] theorem State.setEngine_lt : (s.setEngine e g).lt = s.lt := rfl
@[simp] theorem State.setEngine_la : (s.setEngine e g).la = s.la := rfl
@[simp] theorem State.setEngine_portA : (s.setEngine e g).portA = s.portA := rfl
@[simp] theorem State.setEngine_portB : (s.setEngine e g).portB = s.portB := rfl
@[simp] theorem State.setEngine_rg : (s.setEngine e g).rg = s.rg := rfl
@[simp] theorem State.setEngine_am : (s.setEngine e g).am = s.am := rfl
@[simp] theorem State.setEngine_cal : (s.setEngine e g).cal = s.cal := rfl
@[simp] theorem State.setEngine_fol : (s.setEngine e g).fol = s.fol := rfl
@[simp] theorem State.setEngine_sec : (s.setEngine e g).sec = s.sec := rfl
@[simp] theorem State.setEngine_ck : (s.setEngine e g).ck = s.ck := rfl
@[simp] theorem State.setEngine_pw : (s.setEngine e g).pw = s.pw := rfl
@[simp] theorem State.setEngine_pins : (s.setEngine e g).pins = s.pins := rfl
@[simp] theorem State.setEngine_tw : (s.setEngine e g).tw = s.tw := rfl
@[simp] theorem State.setEngine_ga : (s.setEngine e g).ga = s.ga := rfl
@[simp] theorem State.setEngine_archive : (s.setEngine e g).archive = s.archive := rfl
@[simp] theorem State.setEngine_free : (s.setEngine e g).free = s.free := rfl
@[simp] theorem State.setEngine_pending : (s.setEngine e g).pending = s.pending := rfl
end

section
variable (s : State) (e : Nat) (f : Engine → Engine)
@[simp] theorem State.onEngine_now : (s.onEngine e f).now = s.now := rfl
@[simp] theorem State.onEngine_tile : (s.onEngine e f).tile = s.tile := rfl
@[simp] theorem State.onEngine_cat : (s.onEngine e f).cat = s.cat := rfl
@[simp] theorem State.onEngine_log : (s.onEngine e f).log = s.log := rfl
@[simp] theorem State.onEngine_recs : (s.onEngine e f).recs = s.recs := rfl
@[simp] theorem State.onEngine_lt : (s.onEngine e f).lt = s.lt := rfl
@[simp] theorem State.onEngine_la : (s.onEngine e f).la = s.la := rfl
@[simp] theorem State.onEngine_portA : (s.onEngine e f).portA = s.portA := rfl
@[simp] theorem State.onEngine_portB : (s.onEngine e f).portB = s.portB := rfl
@[simp] theorem State.onEngine_rg : (s.onEngine e f).rg = s.rg := rfl
@[simp] theorem State.onEngine_am : (s.onEngine e f).am = s.am := rfl
@[simp] theorem State.onEngine_cal : (s.onEngine e f).cal = s.cal := rfl
@[simp] theorem State.onEngine_fol : (s.onEngine e f).fol = s.fol := rfl
@[simp] theorem State.onEngine_sec : (s.onEngine e f).sec = s.sec := rfl
@[simp] theorem State.onEngine_ck : (s.onEngine e f).ck = s.ck := rfl
@[simp] theorem State.onEngine_pw : (s.onEngine e f).pw = s.pw := rfl
@[simp] theorem State.onEngine_pins : (s.onEngine e f).pins = s.pins := rfl
@[simp] theorem State.onEngine_tw : (s.onEngine e f).tw = s.tw := rfl
@[simp] theorem State.onEngine_ga : (s.onEngine e f).ga = s.ga := rfl
@[simp] theorem State.onEngine_archive : (s.onEngine e f).archive = s.archive := rfl
@[simp] theorem State.onEngine_free : (s.onEngine e f).free = s.free := rfl
@[simp] theorem State.onEngine_pending : (s.onEngine e f).pending = s.pending := rfl
end

section
variable (s : State) (x : LogEntry)
@[simp] theorem State.writeEntry_now : (s.writeEntry x).now = s.now := by unfold State.writeEntry; dsimp only; split <;> rfl
@[simp] theorem State.writeEntry_tile : (s.writeEntry x).tile = s.tile := by unfold State.writeEntry; dsimp only; split <;> rfl
@[simp] theorem State.writeEntry_recs : (s.writeEntry x).recs = s.recs := by unfold State.writeEntry; dsimp only; split <;> rfl
@[simp] theorem State.writeEntry_lt : (s.writeEntry x).lt = s.lt := by unfold State.writeEntry; dsimp only; split <;> rfl
@[simp] theorem State.writeEntry_la : (s.writeEntry x).la = s.la := by unfold State.writeEntry; dsimp only; split <;> rfl
@[simp] theorem State.writeEntry_portA : (s.writeEntry x).portA = s.portA := by unfold State.writeEntry; dsimp only; split <;> rfl
@[simp] theorem State.writeEntry_portB : (s.writeEntry x).portB = s.portB := by unfold State.writeEntry; dsimp only; split <;> rfl
@[simp] theorem State.writeEntry_rg : (s.writeEntry x).rg = s.rg := by unfold State.writeEntry; dsimp only; split <;> rfl
@[simp] theorem State.writeEntry_am : (s.writeEntry x).am = s.am := by unfold State.writeEntry; dsimp only; split <;> rfl
@[simp] theorem State.writeEntry_cal : (s.writeEntry x).cal = s.cal := by unfold State.writeEntry; dsimp only; split <;> rfl
@[simp] theorem State.writeEntry_fol : (s.writeEntry x).fol = s.fol := by unfold State.writeEntry; dsimp only; split <;> rfl
@[simp] theorem State.writeEntry_sec : (s.writeEntry x).sec = s.sec := by unfold State.writeEntry; dsimp only; split <;> rfl
@[simp] theorem State.writeEntry_ck : (s.writeEntry x).ck = s.ck := by unfold State.writeEntry; dsimp only; split <;> rfl
@[simp] theorem State.writeEntry_pw : (s.writeEntry x).pw = s.pw := by unfold State.writeEntry; dsimp only; split <;> rfl
@[simp] theorem State.writeEntry_pins : (s.writeEntry x).pins = s.pins := by unfold State.writeEntry; dsimp only; split <;> rfl
@[simp] theorem State.writeEntry_tw : (s.writeEntry x).tw = s.tw := by unfold State.writeEntry; dsimp only; split <;> rfl
@[simp] theorem State.writeEntry_ga : (s.writeEntry x).ga = s.ga := by unfold State.writeEntry; dsimp only; split <;> rfl
@[simp] theorem State.writeEntry_free : (s.writeEntry x).free = s.free := by unfold State.writeEntry; dsimp only; split <;> rfl
@[simp] theorem State.writeEntry_pending : (s.writeEntry x).pending = s.pending := by unfold State.writeEntry; dsimp only; split <;> rfl
end

section
variable (s : State) (x : LogEntry)
@[simp] theorem State.emitEntry_now : (s.emitEntry x).now = s.now := by unfold State.emitEntry; split <;> simp
@[simp] theorem State.emitEntry_tile : (s.emitEntry x).tile = s.tile := by unfold State.emitEntry; split <;> simp
@[simp] theorem State.emitEntry_recs : (s.emitEntry x).recs = s.recs := by unfold State.emitEntry; split <;> simp
@[simp] theorem State.emitEntry_lt : (s.emitEntry x).lt = s.lt := by unfold State.emitEntry; split <;> simp
@[simp] theorem State.emitEntry_la : (s.emitEntry x).la = s.la := by unfold State.emitEntry; split <;> simp
@[simp] theorem State.emitEntry_portA : (s.emitEntry x).portA = s.portA := by unfold State.emitEntry; split <;> simp
@[simp] theorem State.emitEntry_portB : (s.emitEntry x).portB = s.portB := by unfold State.emitEntry; split <;> simp
@[simp] theorem State.emitEntry_rg : (s.emitEntry x).rg = s.rg := by unfold State.emitEntry; split <;> simp
@[simp] theorem State.emitEntry_am : (s.emitEntry x).am = s.am := by unfold State.emitEntry; split <;> simp
@[simp] theorem State.emitEntry_cal : (s.emitEntry x).cal = s.cal := by unfold State.emitEntry; split <;> simp
@[simp] theorem State.emitEntry_fol : (s.emitEntry x).fol = s.fol := by unfold State.emitEntry; split <;> simp
@[simp] theorem State.emitEntry_sec : (s.emitEntry x).sec = s.sec := by unfold State.emitEntry; split <;> simp
@[simp] theorem State.emitEntry_ck : (s.emitEntry x).ck = s.ck := by unfold State.emitEntry; split <;> simp
@[simp] theorem State.emitEntry_pw : (s.emitEntry x).pw = s.pw := by unfold State.emitEntry; split <;> simp
@[simp] theorem State.emitEntry_pins : (s.emitEntry x).pins = s.pins := by unfold State.emitEntry; split <;> simp
@[simp] theorem State.emitEntry_tw : (s.emitEntry x).tw = s.tw := by unfold State.emitEntry; split <;> simp
@[simp] theorem State.emitEntry_ga : (s.emitEntry x).ga = s.ga := by unfold State.emitEntry; split <;> simp
@[simp] theorem State.emitEntry_free : (s.emitEntry x).free = s.free := by unfold State.emitEntry; split <;> simp
@[simp] theorem State.emitEntry_pending : (s.emitEntry x).pending = s.pending := by unfold State.emitEntry; split <;> simp
end

section
variable (s : State) (c p : Nat)
@[simp] theorem State.event_now : (s.event c p).now = s.now := by
  unfold State.event; dsimp only
  split
  · simp
  · split
    · simp
    · rfl
@[simp] theorem State.event_tile : (s.event c p).tile = s.tile := by
  unfold State.event; dsimp only
  split
  · simp
  · split
    · simp
    · rfl
@[simp] theorem State.event_recs : (s.event c p).recs = s.recs := by
  unfold State.event; dsimp only
  split
  · simp
  · split
    · simp
    · rfl
@[simp] theorem State.event_lt : (s.event c p).lt = s.lt := by
  unfold State.event; dsimp only
  split
  · simp
  · split
    · simp
    · rfl
@[simp] theorem State.event_la : (s.event c p).la = s.la := by
  unfold State.event; dsimp only
  split
  · simp
  · split
    · simp
    · rfl
@[simp] theorem State.event_portA : (s.event c p).portA = s.portA := by
  unfold State.event; dsimp only
  split
  · simp
  · split
    · simp
    · rfl
@[simp] theorem State.event_portB : (s.event c p).portB = s.portB := by
  unfold State.event; dsimp only
  split
  · simp
  · split
    · simp
    · rfl
@[simp] theorem State.event_rg : (s.event c p).rg = s.rg := by
  unfold State.event; dsimp only
  split
  · simp
  · split
    · simp
    · rfl
@[simp] theorem State.event_am : (s.event c p).am = s.am := by
  unfold State.event; dsimp only
  split
  · simp
  · split
    · simp
    · rfl
@[simp] theorem State.event_cal : (s.event c p).cal = s.cal := by
  unfold State.event; dsimp only
  split
  · simp
  · split
    · simp
    · rfl
@[simp] theorem State.event_fol : (s.event c p).fol = s.fol := by
  unfold State.event; dsimp only
  split
  · simp
  · split
    · simp
    · rfl
@[simp] theorem State.event_sec : (s.event c p).sec = s.sec := by
  unfold State.event; dsimp only
  split
  · simp
  · split
    · simp
    · rfl
@[simp] theorem State.event_ck : (s.event c p).ck = s.ck := by
  unfold State.event; dsimp only
  split
  · simp
  · split
    · simp
    · rfl
@[simp] theorem State.event_pw : (s.event c p).pw = s.pw := by
  unfold State.event; dsimp only
  split
  · simp
  · split
    · simp
    · rfl
@[simp] theorem State.event_pins : (s.event c p).pins = s.pins := by
  unfold State.event; dsimp only
  split
  · simp
  · split
    · simp
    · rfl
@[simp] theorem State.event_tw : (s.event c p).tw = s.tw := by
  unfold State.event; dsimp only
  split
  · simp
  · split
    · simp
    · rfl
@[simp] theorem State.event_ga : (s.event c p).ga = s.ga := by
  unfold State.event; dsimp only
  split
  · simp
  · split
    · simp
    · rfl
@[simp] theorem State.event_free : (s.event c p).free = s.free := by
  unfold State.event; dsimp only
  split
  · simp
  · split
    · simp
    · rfl
@[simp] theorem State.event_pending : (s.event c p).pending = s.pending := by
  unfold State.event; dsimp only
  split
  · simp
  · split
    · simp
    · rfl
end

section
variable (s : State) (x : TileState)
@[simp] theorem State.goto_now : (s.goto x).now = s.now := by unfold State.goto; dsimp only; split <;> simp
@[simp] theorem State.goto_recs : (s.goto x).recs = s.recs := by unfold State.goto; dsimp only; split <;> simp
@[simp] theorem State.goto_lt : (s.goto x).lt = s.lt := by unfold State.goto; dsimp only; split <;> simp
@[simp] theorem State.goto_la : (s.goto x).la = s.la := by unfold State.goto; dsimp only; split <;> simp
@[simp] theorem State.goto_portA : (s.goto x).portA = s.portA := by unfold State.goto; dsimp only; split <;> simp
@[simp] theorem State.goto_portB : (s.goto x).portB = s.portB := by unfold State.goto; dsimp only; split <;> simp
@[simp] theorem State.goto_rg : (s.goto x).rg = s.rg := by unfold State.goto; dsimp only; split <;> simp
@[simp] theorem State.goto_am : (s.goto x).am = s.am := by unfold State.goto; dsimp only; split <;> simp
@[simp] theorem State.goto_cal : (s.goto x).cal = s.cal := by unfold State.goto; dsimp only; split <;> simp
@[simp] theorem State.goto_fol : (s.goto x).fol = s.fol := by unfold State.goto; dsimp only; split <;> simp
@[simp] theorem State.goto_sec : (s.goto x).sec = s.sec := by unfold State.goto; dsimp only; split <;> simp
@[simp] theorem State.goto_ck : (s.goto x).ck = s.ck := by unfold State.goto; dsimp only; split <;> simp
@[simp] theorem State.goto_pw : (s.goto x).pw = s.pw := by unfold State.goto; dsimp only; split <;> simp
@[simp] theorem State.goto_pins : (s.goto x).pins = s.pins := by unfold State.goto; dsimp only; split <;> simp
@[simp] theorem State.goto_tw : (s.goto x).tw = s.tw := by unfold State.goto; dsimp only; split <;> simp
@[simp] theorem State.goto_ga : (s.goto x).ga = s.ga := by unfold State.goto; dsimp only; split <;> simp
@[simp] theorem State.goto_free : (s.goto x).free = s.free := by unfold State.goto; dsimp only; split <;> simp
@[simp] theorem State.goto_pending : (s.goto x).pending = s.pending := by unfold State.goto; dsimp only; split <;> simp
end

section
variable (s : State) (k : Nat)
@[simp] theorem State.life_now : (s.life k).now = s.now := rfl
@[simp] theorem State.life_tile : (s.life k).tile = s.tile := rfl
@[simp] theorem State.life_log : (s.life k).log = s.log := rfl
@[simp] theorem State.life_lt : (s.life k).lt = s.lt := rfl
@[simp] theorem State.life_la : (s.life k).la = s.la := rfl
@[simp] theorem State.life_portA : (s.life k).portA = s.portA := rfl
@[simp] theorem State.life_portB : (s.life k).portB = s.portB := rfl
@[simp] theorem State.life_rg : (s.life k).rg = s.rg := rfl
@[simp] theorem State.life_am : (s.life k).am = s.am := rfl
@[simp] theorem State.life_cal : (s.life k).cal = s.cal := rfl
@[simp] theorem State.life_fol : (s.life k).fol = s.fol := rfl
@[simp] theorem State.life_sec : (s.life k).sec = s.sec := rfl
@[simp] theorem State.life_ck : (s.life k).ck = s.ck := rfl
@[simp] theorem State.life_pw : (s.life k).pw = s.pw := rfl
@[simp] theorem State.life_cu : (s.life k).cu = s.cu := rfl
@[simp] theorem State.life_pins : (s.life k).pins = s.pins := rfl
@[simp] theorem State.life_tw : (s.life k).tw = s.tw := rfl
@[simp] theorem State.life_ga : (s.life k).ga = s.ga := rfl
@[simp] theorem State.life_archive : (s.life k).archive = s.archive := rfl
@[simp] theorem State.life_free : (s.life k).free = s.free := rfl
@[simp] theorem State.life_pending : (s.life k).pending = s.pending := rfl
end

/-- The clock after `at`. -/
@[simp] theorem State.at_now (s : State) (t : Nat) : (s.at t).now = Nat.max s.now t := rfl

/-- A number of a bank after a write. -/
@[simp] theorem Bank.num_setNum (b : Bank) (o v j : Nat) : (b.setNum o v).num j = if j = o then v % 2 ^ 64 else b.num j := by
  simp only [Bank.num, Bank.setNum, storeGet_put]
  split <;> simp

/-- A register after a write. -/
@[simp] theorem State.reg_setReg (s : State) (o v j : Nat) : (s.setReg o v).reg j = if j = o then v % 2 ^ 64 else s.reg j := by
  simp [State.reg, State.setReg]

theorem State.reg_lt (s : State) (o : Nat) : s.reg o < 2 ^ 64 := (storeGet _ s.cat.vol.nums o).isLt

end Sys2Proof.Machine
end

