-- ==== Sys2Proof/Laws/Settle.lean ====
section
/-! SUPPORT. What follows from every command (Run.lean): what it leaves alone in a state whose status values agree with it, and the shape of every
command's outcome. -/

namespace Sys2Proof.Machine

theorem bit_of_beq {a b : Bool} (h : (a == b) = true) : a = b := by simpa using h

/-- Setting a bit to the value it has changes nothing. -/
theorem withBit_same (v k : Nat) (b : Bool) (h : bit v k = b) : withBit v k b = v := by simp [withBit, h]

/-- A register set to the number it holds reads as before. -/
theorem numsBut_setReg_same (s : State) (o v : Nat) (h : s.reg o = v % 2 ^ 64) : numsBut [] s (s.setReg o v) := by
  intro j _
  rw [State.reg_setReg]
  split
  · subst_vars; exact h.symm
  · rfl

theorem numsBut_setFlag_same (s : State) (o k : Nat) (b : Bool) (h : s.flag o k = b) : numsBut [] s (s.setFlag o k b) := by
  apply numsBut_setReg_same
  rw [withBit_same _ _ _ h, Nat.mod_eq_of_lt (State.reg_lt s o)]

theorem numsBut_trans {s u v : State} (h : numsBut [] s u) (h' : numsBut [] u v) : numsBut [] s v :=
  fun o ho => (h' o ho).trans (h o ho)

/-- The reads that agree before and after give the same answers. -/
theorem flag_of_numsBut {s u : State} (h : numsBut [] s u) (o k : Nat) : u.flag o k = s.flag o k := by
  simp [State.flag, h o (by simp)]

theorem watchRef_settled (s : State) (h : s.settled = true) : s.watchRef = s := by
  simp only [State.settled, Bool.and_eq_true, Bool.or_eq_true] at h
  obtain ⟨_, h⟩ := h
  unfold State.watchRef
  cases hw : s.ck.waitRef
  · simp
  · simp only [hw] at h
    simp at h
    simp [h]

theorem noteClock_settled (s : State) (h : s.settled = true) : s.noteClock = s := by
  simp only [State.settled, Bool.and_eq_true] at h
  obtain ⟨⟨_, h⟩, _⟩ := h
  have h' : s.clockUsed = s.notedClock := (Nat.eq_of_beq_eq_true h).symm
  simp [State.noteClock, h']

/-- In a settled state nothing follows from a command: no register reads otherwise and no other part differs. -/
theorem settle_settled (s : State) (h : s.settled = true) :
    numsBut [] s s.settle ∧ s.settle = { s with cat := { s.cat with vol := { s.cat.vol with nums := s.settle.cat.vol.nums } } } := by
  have h0 := h
  simp only [State.settled, Bool.and_eq_true] at h
  obtain ⟨⟨⟨⟨⟨h1, h2⟩, h3⟩, h4⟩, _⟩, _⟩ := h
  have e : s.settle = s.showModes.showWindow := by
    unfold State.settle; rw [watchRef_settled s h0, noteClock_settled s h0]
  have a1 : numsBut [] s (s.setFlag Obj.LT_STATUS 4 (Nat.beq (s.act Obj.LT_TRIG_MODE) 0 && !s.posMaster)) :=
    numsBut_setFlag_same _ _ _ _ (bit_of_beq h1)
  have a2 : numsBut [] s s.showModes := by
    refine numsBut_trans a1 (numsBut_setFlag_same _ _ _ _ ?_)
    rw [flag_of_numsBut a1]; exact bit_of_beq h2
  have a3 : numsBut [] s (s.showModes.setReg Obj.CU_WINDOW_FILL s.showModes.cu.lines.length) := by
    refine numsBut_trans a2 (numsBut_setReg_same _ _ _ ?_)
    rw [a2 _ (by simp)]; exact Nat.eq_of_beq_eq_true h3
  have a4 : numsBut [] s s.showModes.showWindow := by
    refine numsBut_trans a3 (numsBut_setFlag_same _ _ _ _ ?_)
    rw [flag_of_numsBut a3]; exact bit_of_beq h4
  rw [e]
  exact ⟨a4, rfl⟩

/-- The status values do not look at the engines, the clock or the queue. -/
@[simp] theorem settled_setEngine (s : State) (e : Nat) (g : Engine) : (s.setEngine e g).settled = s.settled := rfl
@[simp] theorem settled_at (s : State) (t : Nat) : (s.at t).settled = s.settled := rfl

/-- An engine after it was replaced by one that runs a task. -/
theorem engine_setEngine (s : State) (e k : Nat) (g : Engine) : (s.setEngine e g).engine k = if k = e then g else s.engine k := by
  simp [State.engine, State.setEngine]

@[simp] theorem settle_now (s : State) (h : s.settled = true) : s.settle.now = s.now := by
  rw [(settle_settled s h).2]

/-- A part is as it was, read through a third state. -/
theorem Piece.same_trans {p : Piece} {s u v : State} (h : p.same s u) (h' : p.same u v) : p.same s v := by
  match p with
  | .now | .tile | .bytes | .active | .staged | .work | .used | .version | .queue | .long | .log | .recs | .lt | .la | .portA | .portB | .rg | .am | .cal | .fol | .sec | .ck | .pw | .pins | .tw | .ga | .free | .pending => exact Eq.trans h' h
  | .transfers | .moved => exact ⟨h'.1.trans h.1, h'.2.trans h.2⟩
  | .mailbox => exact ⟨h'.1.trans h.1, h'.2.1.trans h.2.1, h'.2.2.1.trans h.2.2.1, h'.2.2.2.trans h.2.2.2⟩
  | .archive | .mirror => exact fun a ha => (h' a ha).trans (h a ha)
  | .cu =>
    have h1 : u.cu = { s.cu with moved := u.cu.moved, ue := u.cu.ue } := h
    have h2 : v.cu = { u.cu with moved := v.cu.moved, ue := v.cu.ue } := h'
    show v.cu = { s.cu with moved := v.cu.moved, ue := v.cu.ue }
    rw [h2, h1]

/-- Other numbers of the volatile objects touch no part. -/
theorem Piece.same_nums (p : Piece) (s : State) (m : Store (BitVec 64)) :
    p.same s { s with cat := { s.cat with vol := { s.cat.vol with nums := m } } } := by
  match p with
  | .now | .tile | .bytes | .active | .staged | .work | .used | .version | .queue | .long | .log | .recs | .lt | .la | .portA | .portB | .rg | .am | .cal | .fol | .sec | .ck | .pw | .pins | .tw | .ga | .free | .pending | .cu => exact rfl
  | .transfers | .moved => exact ⟨rfl, rfl⟩
  | .mailbox => exact ⟨rfl, rfl, rfl, rfl⟩
  | .archive | .mirror => exact fun _ _ => rfl

/-- A replaced engine touches no part but the Curator. -/
theorem Piece.same_setEngine (p : Piece) (s : State) (e : Nat) (g : Engine) (h : p ≠ .cu) : p.same s (s.setEngine e g) := by
  match p with
  | .now | .tile | .bytes | .active | .staged | .work | .used | .version | .queue | .long | .log | .recs | .lt | .la | .portA | .portB | .rg | .am | .cal | .fol | .sec | .ck | .pw | .pins | .tw | .ga | .free | .pending => exact rfl
  | .transfers | .moved => exact ⟨rfl, rfl⟩
  | .mailbox => exact ⟨rfl, rfl, rfl, rfl⟩
  | .archive | .mirror => exact fun _ _ => rfl
  | .cu => exact absurd rfl h

/-- The clock advanced touches no part but the clock. -/
theorem Piece.same_at (p : Piece) (s : State) (t : Nat) (h : p ≠ .now) : p.same s (s.at t) := by
  match p with
  | .tile | .bytes | .active | .staged | .work | .used | .version | .queue | .long | .log | .recs | .lt | .la | .portA | .portB | .rg | .am | .cal | .fol | .sec | .ck | .pw | .pins | .tw | .ga | .free | .pending | .cu => exact rfl
  | .transfers | .moved => exact ⟨rfl, rfl⟩
  | .mailbox => exact ⟨rfl, rfl, rfl, rfl⟩
  | .archive | .mirror => exact fun _ _ => rfl
  | .now => exact absurd rfl h

/-- The next state of a command whose effect leaves the status values agreeing: the effect itself, at its instant, the queue as it was. -/
theorem run_settled (s : State) (t : Nat) (f : State → State) (h : (f (s.at t)).settled = true) :
    ∃ u, s.run t f = .next u ∧ u.now = Nat.max s.now t ∧ u.pending = s.pending ∧
      (∀ p : Piece, p ≠ .now → p ≠ .pending → p.same (f (s.at t)) u) ∧ numsBut [] (f (s.at t)) u ∧ u.cu = (f (s.at t)).cu := by
  refine ⟨_, rfl, rfl, rfl, ?_, ?_, ?_⟩
  · obtain ⟨_, he⟩ := settle_settled _ h
    intro p h1 h2
    rw [he]
    have := Piece.same_nums p (f (s.at t)) (f (s.at t)).settle.cat.vol.nums
    match p with
    | .tile | .bytes | .active | .staged | .work | .used | .version | .queue | .long | .log | .recs | .lt | .la | .portA | .portB | .rg | .am | .cal | .fol | .sec | .ck | .pw | .pins | .tw | .ga | .free | .cu | .transfers | .moved | .mailbox | .archive | .mirror => exact this
    | .now => exact absurd rfl h1
    | .pending => exact absurd rfl h2
  · exact (settle_settled _ h).1
  · rw [(settle_settled _ h).2]

/-- The status values agree with the state where what they look at is as it was. -/
theorem settled_congr {s u : State} (h : s.settled = true) (ha : u.cat.active = s.cat.active) (hf : u.fol = s.fol) (hc : u.ck = s.ck)
    (hcu : u.cu.lines = s.cu.lines) (he : u.cu.era = s.cu.era) (hl : u.cu.clockLog = s.cu.clockLog) (hla : u.la = s.la) (hlt : u.lt = s.lt)
    (hst : u.tile.state = s.tile.state) (hup : u.portA.state = s.portA.state)
    (h1 : u.reg Obj.LT_STATUS = s.reg Obj.LT_STATUS) (h2 : u.reg Obj.LT_POS_MASTER = s.reg Obj.LT_POS_MASTER)
    (h3 : u.reg Obj.FOL_STATUS = s.reg Obj.FOL_STATUS) (h4 : u.reg Obj.CU_WINDOW_FILL = s.reg Obj.CU_WINDOW_FILL)
    (h5 : u.reg Obj.CU_STATUS = s.reg Obj.CU_STATUS) (h6 : u.usedKhz = s.usedKhz) : u.settled = true := by
  rw [← h]
  simp only [State.settled, State.flag, State.act, State.posMaster, State.oldLines, State.notedClock, State.clockUsed, State.isUp, State.port,
    ha, hc, hcu, he, hl, hla, hlt, hst, hup, h1, h2, h3, h4, h5, h6]
  rfl

/-- What a command leaves alone, from what its effect leaves alone. -/
theorem run_effects {s : State} {t : Nat} {f : State → State} {evs : List (Nat × Nat)} {l : List Piece} {n : List Nat}
    (hx : (f (s.at t)).settled = true) (h : effects t evs l n s (f (s.at t))) :
    ∃ u, s.run t f = .next u ∧ effects t evs l n s u ∧ (∀ p : Piece, p ≠ .now → p ≠ .pending → p.same (f (s.at t)) u) ∧
      numsBut [] (f (s.at t)) u := by
  obtain ⟨u, h1, h2, h3, h4, h5, _⟩ := run_settled s t f hx
  refine ⟨u, h1, ⟨h2, ?_, ?_, ?_⟩, h4, h5⟩
  · intro p hp
    by_cases hq : p = .pending
    · subst hq; exact h3
    · have hn : p ≠ .now := fun e => hp (by simp [e])
      exact Piece.same_trans (h.2.1 p hp) (h4 p hn hq)
  · intro o ho
    exact (h5 o (by simp)).trans (h.2.2.1 o ho)
  · rcases h.2.2.2 with hl | hl
    · exact Or.inl hl
    · exact Or.inr ((congrArg EventLog.told (h4 .log (by simp) (by simp))).trans hl)

/-- A command that only replaces an engine, at the instant the clock shows, in a settled state. -/
theorem run_engine (s : State) (e : Nat) (g : Engine) (f : State → State) (h : s.settled = true)
    (hf : f (s.at s.now) = (s.at s.now).setEngine e g) :
    ∃ u, s.run s.now f = .next u ∧ onlyEngine e s u ∧ u.engine e = g := by
  have hs : (f (s.at s.now)).settled = true := by rw [hf]; simpa using h
  obtain ⟨u, h1, h2, h3, h4, h5, h6⟩ := run_settled s s.now f hs
  rw [hf] at h4 h5 h6
  refine ⟨u, h1, ⟨?_, ?_, ?_, ?_⟩, ?_⟩
  · intro k hk
    show storeGet _ u.cu.engines k = _
    rw [h6]; simp [State.setEngine, State.engine, State.at, hk]
  · intro p hp
    by_cases hn : p = .now
    · subst hn; simpa [Piece.same] using h2
    · by_cases hq : p = .pending
      · subst hq; exact h3
      · exact Piece.same_trans (Piece.same_trans (Piece.same_at p s s.now hn) (Piece.same_setEngine p _ e g (fun h => hp (by simp [h])))) (h4 p hn hq)
  · rw [h6]; rfl
  · exact h5
  · show storeGet _ u.cu.engines e = _
    rw [h6]; simp [State.setEngine]

end Sys2Proof.Machine
end

