-- ==== Sys2Proof/Laws/Engine.lean ====
section
/-! SUPPORT. Strip-engine instructions: what one that issues does, said once for all of them. -/

namespace Sys2Proof.Machine

/-- The task of an engine that issues. -/
theorem issues_task {s : State} {e : Nat} {srcs : List Nat} (h : s.issues e srcs = true) :
    e < 128 ∧ (s.engine e).runs = true ∧ ∃ t, (s.engine e).task = some t ∧
      Nat.ble ((s.engine e).issueCycle srcs) (cutCycles (t.image.wcet (s.taskKernel t))) = true := by
  simp only [State.issues, Bool.and_eq_true] at h
  obtain ⟨⟨h1, h2⟩, h3⟩ := h
  refine ⟨by simpa using h1, h2, ?_⟩
  split at h3
  · exact ⟨_, by assumption, h3⟩
  · cases h3

/-- An instruction that issues replaces the engine by its effect on the engine that has paid the issue cycle. -/
theorem instr_issues {s : State} {e : Nat} {srcs : List Nat} (h : s.issues e srcs = true) (extra : Nat) (dsts : List (Nat × Nat))
    (f : Engine → Engine) : s.instr e srcs extra dsts f = s.setEngine e (f ((s.engine e).issued srcs extra dsts)) := by
  obtain ⟨_, hr, t, ht, hc⟩ := issues_task h
  simp [State.instr, ht, hr, hc]

@[simp] theorem issues_at (s : State) (t e : Nat) (srcs : List Nat) : (s.at t).issues e srcs = s.issues e srcs := rfl

/-- The outcome of an instruction on registers. -/
theorem answers_instr {s : State} {e : Nat} {srcs : List Nat} (hs : s.settled = true) (hi : s.issues e srcs = true) {extra : Nat}
    {dsts : List (Nat × Nat)} {f : Engine → Engine} {c : Instr} {b : Bool} (hb : b = true)
    (hc : exec c s = s.runOn b s.now (fun s => s.instr e srcs extra dsts f)) {q : Engine → Engine → Prop}
    (hq : q (s.engine e) (f ((s.engine e).issued srcs extra dsts))) :
    answers c s (fun u => onlyEngine e s u ∧ q (s.engine e) (u.engine e)) := by
  obtain ⟨u, h1, h2, h3⟩ := run_engine s e (f ((s.engine e).issued srcs extra dsts)) (fun s => s.instr e srcs extra dsts f) hs
    (instr_issues (s := s.at s.now) hi extra dsts f)
  refine ⟨u, ?_, h2, ?_⟩
  · rw [hc, hb]; exact h1
  · rw [h3]; exact hq

/-! ## Registers after a write (R109) -/

@[simp] theorem sreg_setS (g : Engine) (rd x : Nat) (v : Word) :
    (g.setS rd v).sreg x = if x = rd ∧ rd ≠ 0 then v else g.sreg x := by
  unfold Engine.setS Engine.sreg
  by_cases h : rd = 0
  · simp [h]
  · by_cases hx : x = 0
    · subst hx; simp [h]; intro h'; exact absurd h'.symm h
    · by_cases hxr : x = rd <;> simp [h, hx, hxr]

@[simp] theorem preg_setP (g : Engine) (rd x : Nat) (v : Half) :
    (g.setP rd v).preg x = if x = rd ∧ rd ≠ 0 then v else g.preg x := by
  unfold Engine.setP Engine.preg
  by_cases h : rd = 0
  · simp [h]
  · by_cases hx : x = 0
    · subst hx; simp [h]; intro h'; exact absurd h'.symm h
    · by_cases hxr : x = rd <;> simp [h, hx, hxr]

@[simp] theorem vreg_setV (g : Engine) (rd x : Nat) (l : List Half) :
    (g.setV rd l).vreg x = if x = rd then lanes16 0 l else g.vreg x := by
  simp only [Engine.setV, Engine.vreg, storeGet_put]; split <;> rfl

@[simp] theorem areg_setA (g : Engine) (rd x : Nat) (l : List Int) :
    (g.setA rd l).areg x = if x = rd then lanes16 0 l else g.areg x := by
  simp only [Engine.setA, Engine.areg, storeGet_put]; split <;> rfl

/-- What issuing leaves alone. -/
@[simp] theorem issued_sreg (g : Engine) (a : List Nat) (b : Nat) (d : List (Nat × Nat)) (x : Nat) : (g.issued a b d).sreg x = g.sreg x := rfl
@[simp] theorem issued_vreg (g : Engine) (a : List Nat) (b : Nat) (d : List (Nat × Nat)) (x : Nat) : (g.issued a b d).vreg x = g.vreg x := rfl
@[simp] theorem issued_areg (g : Engine) (a : List Nat) (b : Nat) (d : List (Nat × Nat)) (x : Nat) : (g.issued a b d).areg x = g.areg x := rfl
@[simp] theorem issued_preg (g : Engine) (a : List Nat) (b : Nat) (d : List (Nat × Nat)) (x : Nat) : (g.issued a b d).preg x = g.preg x := rfl
@[simp] theorem next_sreg (g : Engine) (x : Nat) : g.next.sreg x = g.sreg x := rfl
@[simp] theorem next_vreg (g : Engine) (x : Nat) : g.next.vreg x = g.vreg x := rfl
@[simp] theorem next_areg (g : Engine) (x : Nat) : g.next.areg x = g.areg x := rfl
@[simp] theorem next_preg (g : Engine) (x : Nat) : g.next.preg x = g.preg x := rfl

/-- A scalar written and the next instruction taken up. -/
theorem scalarResult_setS (g : Engine) (srcs : List Nat) (extra rd : Nat) (dsts : List (Nat × Nat)) (w : Word) :
    scalarResult srcs extra rd w g (((g.issued srcs extra dsts).setS rd w).next) := by
  refine ⟨⟨?_, ?_, ?_⟩, ?_, ?_, ?_, ?_, ?_⟩
  · simp only [Engine.setS]; split <;> rfl
  · simp only [Engine.setS]; split <;> rfl
  · simp only [Engine.setS]; split <;> rfl
  · intro x; simp
  all_goals (simp only [Engine.setS]; split <;> rfl)

end Sys2Proof.Machine
end

