-- ==== Sys2Proof/Laws/Folio.lean ====
section
/-! SUPPORT. The objects of a Folio: sorting keeps the elements of a list, so the Folio's objects are those of the rows with Persist F. -/

namespace Sys2Proof.Machine

theorem insertBy_perm {α : Type} (key : α → Nat) (x : α) (l : List α) : (insertBy key x l).Perm (x :: l) := by
  induction l with
  | nil => exact .refl _
  | cons y r ih =>
    unfold insertBy
    split
    · exact .refl _
    · exact (ih.cons y).trans (.swap x y r)

theorem sortBy_perm {α : Type} (key : α → Nat) (l : List α) : (sortBy key l).Perm l := by
  suffices h : ∀ a : List α, (l.foldl (fun a x => insertBy key x a) a).Perm (l ++ a) by simpa [sortBy] using h []
  induction l with
  | nil => intro a; exact .refl _
  | cons x l ih => intro a; exact (ih _).trans (((insertBy_perm key x a).append_left l).trans List.perm_middle)

/-- The objects of a Folio, in the order of the rows that define them. -/
def folioRows : List (Nat × ObjRow) := (Obj.rows.filter (fun r => decide (r.persist = .f))).flatMap (fun r => r.ids.map (fun i => (i, r)))

theorem folio_perm : Obj.folio.Perm folioRows := by
  refine ((sortBy_perm Prod.fst _).filter _).trans (List.Perm.of_eq ?_)
  unfold folioRows
  induction Obj.rows with
  | nil => rfl
  | cons r l ih =>
    simp only [List.flatMap_cons, List.filter_append, ih]
    by_cases h : r.persist = .f <;> simp [h]

/-- The length of the object stream of a Folio, which its order does not change (R238). -/
theorem objectStream_length (b : Bank) : (objectStream b).length = (folioRows.map (fun x => (objectRecord b x).length)).sum := by
  rw [objectStream, List.length_flatMap]; exact (folio_perm.map _).sum_nat

end Sys2Proof.Machine
end

