-- ==== Sys2Proof/Tests/Slice0.lean ====
section
/-! SUPPORT. Small tests of the model on values that the spec fixes, the checks of WellFormed, and a state that meets the hypotheses of each statement. -/

namespace Sys2Proof.Tests

set_option Elab.async false

open Sys2Proof Sys2Proof.Machine

/-- The next state of a command, and the state itself where it has none. -/
def after (c : Instr) (s : State) : State := match exec c s with | .next u => u | _ => s

/-- Does a command stop because it names a unit that the tile does not have? -/
def stops (c : Instr) : Bool := match exec c State.reset with | .fault .noSuchUnit => true | _ => false

/-- A host behind port A and one at the mailbox. -/
def vc : Requester := ⟨.vc0 .a, 5, 0x40, 7, 0⟩
def mb : Requester := ⟨.i2cb, 0, 0, 0, 0⟩

/-- A tile with some numbers of the volatile objects set. -/
def withNums (s : State) (l : List (Nat × Nat)) : State :=
  State.settle { s with cat := { s.cat with vol := l.foldl (fun b p => b.setNum p.1 p.2) s.cat.vol } }

/-- The same of a command's meaning. -/
def got (f : State → Host.Outcome State Fault Refusal) (s : State) : State := match f s with | .next u => u | _ => s

/-! ## Strip engines (05) -/

/-- A kernel image of four code words: CODE_LEN 16, constants of 4 bytes at 64, a table of 64 bytes, LDM_LIMIT 1024, REF_BYTES 64, OUT_BYTES 64, WCET 1000. -/
def kernel : Image :=
  ⟨some 0, (List.range 40).flatMap (fun k => leBytes 4
    (match 4 * k with | 0x18 => 16 | 0x20 => 128 | 0x24 => 4 | 0x28 => 64 | 0x30 => 64 | 0x34 => 1024 | 0x40 => 64 | 0x44 => 64 | 0x48 => 1000 | 128 => 0x01020304 | _ => 0))⟩

/-- A line of one band of 16 samples, and a task on it. -/
def line : LineRec :=
  { number := 7, head := ⟨1, 12, 1, 1, 1, 7, 0, 1, 0, 0, 0, 0, 0, 0, 0⟩, bank := {}, slot := false, era := 0, boundary := 0, before := 0, ref := none,
    closedAt := 0, samples := [List.replicate 16 5], halls := [7] }
def task (i : Image) : Task := ⟨7, 0, 127, 0, 16, i, false, 0⟩

/-- The tile with engine 127 as given and one line in the window. -/
def withEngine (g : Engine) : State := State.settle (State.setEngine { State.reset with cu := { State.reset.cu with lines := [line] } } 127 g)

/-- An engine that runs a task, with some registers. -/
def running : Engine :=
  { image := some kernel, task := some (task kernel), s := [(1, 0x80000001), (2, 33), (3, 64), (4, 1), (31, 7)],
    v := [(1, List.replicate 16 0x8001), (2, List.replicate 16 3), (31, List.replicate 16 7)], p := [(1, 0x00FF), (7, 0x8000)], a := [(3, List.replicate 16 (2 ^ 39 - 2))] }
def onStrip : State := withEngine running

theorem witness_scalar_issue : onStrip.settled = true ∧ onStrip.issues 127 [rS 1, rS 2] = true ∧ onStrip.issues 127 [rS 31] = true ∧ onStrip.issues 127 [rS 0] = true ∧
    onStrip.issues 127 [] = true ∧ onStrip.issues 127 [rP 7] = true := by decide +kernel
theorem witness_vector_issue : onStrip.issues 127 [rV 31, rV 0, rP 7] = true ∧ onStrip.issues 127 [rV 31, rP 7] = true ∧ onStrip.issues 127 [rS 31, rP 7] = true ∧
    onStrip.issues 127 [rV 31] = true ∧ onStrip.issues 127 [rP 0, rP 7] = true := by decide +kernel
theorem witness_accumulator_issue : onStrip.issues 127 [rP 7, rM 3, rV 31, rV 0] = true ∧ onStrip.issues 127 [rP 7, rM 3, rV 31, rS 31] = true ∧
    onStrip.issues 127 [rP 7, rM 3] = true ∧ onStrip.issues 127 [rA 3, rP 7] = true := by decide +kernel
theorem witness_jr : (onStrip.engine 127).task = some (task kernel) ∧ ((onStrip.engine 127).sreg 4).toNat % 4096 < (task kernel).image.codeWords := by decide +kernel
theorem witness_loop : (onStrip.engine 127).loops.length < 2 := by decide +kernel

/-- R114 by hand: 0x80000001 shifted right by 33 % 32 = 1 with its sign; the product of −2147483647 and 33 is −70866960351, whose upper word is −17. -/
theorem test_salu_sra : ((after (.saluSra 127 31 1 2) onStrip).engine 127).sreg 31 = 0xC0000000 := by decide +kernel
theorem test_salu_mulhs : ((after (.saluMulhs 127 31 1 2) onStrip).engine 127).sreg 31 = 0xFFFFFFEF := by decide +kernel
/-- s0 stays 0 (R109). -/
theorem test_salu_s0 : ((after (.saluAdd 127 0 1 2) onStrip).engine 127).sreg 0 = 0 := by decide +kernel
/-- R115: 0x8001 − 3 is limited to 0x8000 as a signed subtraction, and only in the lanes of p1. -/
theorem test_vsubs : ((after (.vsubs 127 31 1 2 1) onStrip).engine 127).lane 31 7 = 0x8000 ∧
    ((after (.vsubs 127 31 1 2 1) onStrip).engine 127).lane 31 8 = 7 := by decide +kernel
/-- R115: the mean of 7 and 0 is 3.5, which rounds to 4. -/
theorem test_vavgu : ((after (.vavgu 127 5 31 0 1) onStrip).engine 127).lane 5 0 = 4 := by decide +kernel
/-- R117: an accumulator at 2³⁹ − 2 reaches its limit, which sets ACC_SAT. -/
theorem test_vmac_limit : ((after (.vmacAadd 127 3 31 0 7) onStrip).engine 127).estat % 2 = 1 ∧
    (((after (.vmacAadd 127 3 31 0 7) onStrip).engine 127).areg 3).getD 15 0 = 2 ^ 39 - 1 := by decide +kernel
/-- R113: LUI gives its immediate in the upper half. -/
theorem test_lui : ((after (.lui 127 9 0x1234) onStrip).engine 127).sreg 9 = 0x12340000 := by decide +kernel

/-- Accesses to LDM: at 64, and one lane's table entry at 64 + 2 × (3 / 2). -/
theorem witness_scalar_memory : (onStrip.engine 127).permits false 4 [ldmAddr ((onStrip.engine 127).sreg 3) 0] = true ∧
    (onStrip.engine 127).permits true 4 [ldmAddr ((onStrip.engine 127).sreg 3) 956] = true ∧ (onStrip.engine 127).touches 1020 4 = false ∧
    onStrip.issues 127 [rS 3, rS 31] = true := by decide +kernel
theorem witness_vector_memory : (onStrip.engine 127).permits false 2 (vecAddrs (ldmAddr ((onStrip.engine 127).sreg 3) (32 * (-1)))) = true ∧
    (onStrip.engine 127).permits true 2 (vecAddrs (ldmAddr ((onStrip.engine 127).sreg 3) 928)) = true ∧
    (vecAddrs 992).all (fun a => !((onStrip.engine 127).touches a 2)) = true ∧ onStrip.issues 127 [rS 3, rV 31, rP 7] = true := by decide +kernel
theorem witness_vlut : onStrip.issues 127 [rS 3, rV 2, rP 7] = true ∧
    (onStrip.engine 127).permits false 2 ((List.range 16).filterMap (fun i => if ((onStrip.engine 127).preg 7).getLsbD i then
      some ((((onStrip.engine 127).sreg 3).toNat + 2 * (((onStrip.engine 127).lane 2 i).toNat / 2 ^ 1)) % 65536) else none)) = true := by decide +kernel
/-- A word stored at 64 is read back by its halves, the low one first (R110). -/
theorem test_store_load : ((after (.ldh 127 9 3 2) (after (.stw 127 1 3 0) onStrip)).engine 127).sreg 9 = 0x8000 := by decide +kernel

/-- Ports: a line with a vector that has arrived, a line used up, and a reference of 32 bytes. -/
def arrived : State := withEngine { running with arrived := 1, refLen := 32 }
def usedUp : State := withEngine { running with arrived := 1, popped := 1 }
theorem witness_ports : arrived.settled = true ∧ arrived.issues 127 [rP 7] = true ∧ (arrived.engine 127).popped < (arrived.engine 127).arrived ∧
    usedUp.lineVectors (task kernel) ≤ (usedUp.engine 127).popped ∧ (onStrip.engine 127).outBytes + 32 ≤ kernel.outBytes (onStrip.taskKernel (task kernel)) ∧
    (onStrip.engine 127).runs = true := by decide +kernel
/-- R124: a POP beyond the line gives 0xFFFF and sets its ESTAT bit. -/
theorem test_pop_beyond : ((after (.popLine 127 9 1) usedUp).engine 127).lane 9 0 = 0xFFFF ∧ ((after (.popLine 127 9 1) arrived).engine 127).lane 9 0 = 5 := by decide +kernel

/-- Tags: tag 1 has landed, tag 2 is still out, and instructions that wait. -/
def tagged : State := withEngine { running with tags := [(0, some ⟨0, 32, 0, false, false, false, 0⟩), (1, some ⟨0, 32, 64, true, true, true, 32⟩), (2, some ⟨0, 32, 512, true, true, false, 0⟩)] }
def popping : State := withEngine { running with held := some (.popLine 31 7) }
def pushing (vec : Bool) : State := withEngine { running with held := some (if vec then .push 31 else .pushs 31) }
def fetching : State := { withEngine { running with held := some (.fetch 2 3 31 7 true) } with cu := { onStrip.cu with fetchers := [127], engines := (withEngine { running with held := some (.fetch 2 3 31 7 true) }).cu.engines } }
theorem witness_waits : tagged.settled = true ∧ tagged.issues 127 [] = true ∧ ((tagged.engine 127).tag 1).all (fun f => f.done) = true ∧
    ((tagged.engine 127).tag 2).any (fun f => !f.done) = true ∧ (tagged.engine 127).task.isSome = true ∧ (tagged.engine 127).held = none := by decide +kernel
theorem witness_waiting_instructions : (popping.engine 127).task.isSome = true ∧ (popping.engine 127).held = some (.popLine 31 7) ∧
    ((pushing true).engine 127).held = some (.push 31) ∧ ((pushing false).engine 127).held = some (.pushs 31) ∧
    fetching.cu.fetchers = [127] ∧ fetching.fetchesOut < 1024 ∧ (fetching.engine 127).held = some (.fetch 2 3 31 7 true) := by decide +kernel

/-- FETCH of 32 bytes from the table's byte 32 to 96, the last that the table and REF_BYTES allow, and one past the table. -/
def fetcher : State := withEngine { running with s := [(1, 96), (2, 32), (3, 32), (4, 64)], fetched := 32 }
theorem witness_fetch : fetcher.settled = true ∧ fetcher.issues 127 [rS 1, rS 2, rS 3] = true ∧ ((fetcher.engine 127).tag 7).all (fun f => f.done) = true ∧
    ((fetcher.engine 127).sreg 1).toNat % 65536 % 32 = 0 ∧ ((fetcher.engine 127).sreg 2).toNat % 32 = 0 ∧ ((fetcher.engine 127).sreg 3).toNat % 32 = 0 ∧
    32 ≤ ((fetcher.engine 127).sreg 3).toNat ∧ ((fetcher.engine 127).sreg 3).toNat ≤ 16384 ∧ (fetcher.engine 127).touches 96 32 = false ∧
    ((fetcher.engine 127).sreg 2).toNat + ((fetcher.engine 127).sreg 3).toNat ≤ fetcher.spaceBytes (task kernel) true ∧ 96 + 32 ≤ (fetcher.engine 127).limit ∧
    (fetcher.engine 127).fetched + 32 ≤ kernel.refBytes (fetcher.taskKernel (task kernel)) ∧ fetcher.fetchesOut < 1024 := by decide +kernel
theorem witness_fetch_refused : fetcher.issues 127 [rS 1, rS 4, rS 3] = true ∧
    fetcher.spaceBytes (task kernel) true < ((fetcher.engine 127).sreg 4).toNat + ((fetcher.engine 127).sreg 3).toNat := by decide +kernel
theorem witness_landing : (tagged.engine 127).tag 2 = some ⟨0, 32, 512, true, true, false, 0⟩ ∧ (task kernel).image.slot = some 0 ∧
    (tagged.engine 127).zeroDue = some ⟨0, 32, 0, false, false, false, 0⟩ ∧ tagged.cu.fetchers.contains 127 = false ∧ tagged.fetchesOut < 1024 := by decide +kernel
/-- A full table of 1,024 fetches: 146 engines' worth of seven tags are more than there are, so one engine's list stands for them. -/
def crowded : State := { tagged with cu := { tagged.cu with engines := (List.range 147).map (fun k => (k, if k = 127 then tagged.engine 127 else
  { running with tags := (List.range 8).map (fun j => (j, some ⟨0, 32, 512, true, true, false, 0⟩)) })) } }
theorem witness_table_full : crowded.settled = true ∧ 1024 ≤ crowded.fetchesOut ∧ (crowded.engine 127).zeroDue = some ⟨0, 32, 0, false, false, false, 0⟩ := by decide +kernel

/-- Ends of tasks. -/
def builtIn : State := withEngine { running with image := some ⟨none, []⟩, task := some (task ⟨none, []⟩), tags := [(0, some ⟨0, 32, 0, false, true, false, 0⟩)] }
def yielded : State := withEngine { running with ending := some .yielded }
theorem witness_task_ends : builtIn.settled = true ∧ builtIn.issues 127 [] = true ∧ (builtIn.engine 127).task = some (task ⟨none, []⟩) ∧ (builtIn.engine 127).zeroDone = false ∧
    yielded.settled = true ∧ (yielded.engine 127).ending = some .yielded ∧ (yielded.engine 127).outstanding = [] ∧ (yielded.engine 127).out = [] ∧
    yielded.lineRec (task kernel).number = some line ∧ (onStrip.engine 127).ending = none := by decide +kernel
/-- Task faults: an odd address, an address beyond LDM_LIMIT, two loops active, a JR past the four words of code. -/
def faulty : State := withEngine { running with s := [(1, 1023), (2, 4)], loops := [⟨0, 1, 5⟩, ⟨0, 2, 5⟩] }
theorem witness_task_faults : faulty.settled = true ∧ faulty.issues 127 [rS 1] = true ∧ (faulty.engine 127).task = some (task kernel) ∧
    (faulty.engine 127).permits false 2 [ldmAddr ((faulty.engine 127).sreg 1) 0] = false ∧ (faulty.engine 127).permits false 4 [ldmAddr ((faulty.engine 127).sreg 2) 1020] = false ∧
    2 ≤ (faulty.engine 127).loops.length ∧ kernel.codeWords ≤ ((faulty.engine 127).sreg 2).toNat % 4096 ∧ faulty.issues 127 [rS 2] = true := by decide +kernel

/-- EVENT on a line that is enabled and one that is not. -/
def quiet : State := State.settle { onStrip with cat := { onStrip.cat with active := onStrip.cat.active.setNum Obj.KN_EVENT_ENABLE (2 ^ 63 - 1) } }
def raising : State := State.settle { onStrip with cat := { onStrip.cat with active := onStrip.cat.active.setNum Obj.KN_EVENT_ENABLE (2 ^ 63) } }
theorem witness_event : quiet.settled = true ∧ quiet.issues 127 [rS 31] = true ∧ bit (quiet.act Obj.KN_EVENT_ENABLE) 63 = false ∧ raising.settled = true ∧ raising.issues 127 [rS 31] = true ∧
    bit (raising.act Obj.KN_EVENT_ENABLE) 63 = true ∧ storeFind 63 raising.cu.raised = none ∧
    (List.range 32).all (fun k => !(raising.pinRuns k && bit (raising.reg (Obj.PEN_EVENT_MASK k)) 63) || Nat.blt (raising.pinEngine k).ev.length 8) = true := by decide +kernel

/-! ## Curator (07) -/

def loading : State := withEngine { running with task := none, loading := some (kernel, none) }
def placed : State := withEngine { running with task := none, loading := some (kernel, some (task kernel)) }
theorem witness_load : loading.settled = true ∧ (loading.engine 127).loading = some (kernel, none) ∧ kernel.slot = some 0 ∧
    placed.settled = true ∧ (placed.engine 127).loading = some (kernel, some (task kernel)) ∧ placed.lineRec 7 = some line := by decide +kernel
/-- R107: the constants of 4 bytes lie at their address after a load, and the byte after them is 0. -/
theorem test_load_constants : ((after (.kernelLoadDone 5 127) loading).engine 127).ldmLe 64 4 = 0x01020304 ∧ ((after (.kernelLoadDone 5 127) loading).engine 127).ldmLe 68 4 = 0 := by decide +kernel

/-- A pinned task waits for engine 127, whose hall runs. -/
def pinnedTask : Task := { task kernel with pinned := true }
def queued (i : Option Image) : State :=
  let s := withEngine { running with task := none, image := i }
  State.settle { s with cu := { s.cu with waiting := [pinnedTask], halls := [(7, { running := true })] } }
theorem witness_start : (queued (some kernel)).settled = true ∧ (queued (some kernel)).ready 127 = true ∧
    (queued (some kernel)).cu.waiting.find? (fun x => x.pinned && Nat.beq x.strip 127) = some pinnedTask ∧ ((queued (some kernel)).engine 127).image = some pinnedTask.image ∧
    (queued (some kernel)).lineRec pinnedTask.number = some line := by decide +kernel
theorem witness_start_load : (queued none).settled = true ∧ (queued none).ready 127 = true ∧ ((queued none).engine 127).image ≠ some pinnedTask.image ∧
    (queued none).cu.waiting.find? (fun x => x.pinned && Nat.beq x.strip 127) = some pinnedTask := by decide +kernel

/-- Halls: one idle since 0, one restarting, and a task of hall 7 that no engine takes. -/
def idleHall : State := State.settle { State.reset with cu := { State.reset.cu with halls := [(7, { running := true })] } }
def restarting : State := State.settle { State.reset with cu := { State.reset.cu with halls := [(7, { readyAt := some 2000 })] } }
def stealing : State := State.settle { State.reset with cu := { State.reset.cu with waiting := [task kernel] }, cat := { State.reset.cat with active := State.reset.cat.active.setNum Obj.PX_HALL_ENABLE 255 } }
theorem witness_halls : idleHall.settled = true ∧ (idleHall.hall 7).running = true ∧ idleHall.hallIdle 7 = true ∧
    (idleHall.hall 7).idleFrom + 1000 * idleHall.reg Obj.CU_HALL_IDLE ≤ Nat.max idleHall.now (10 ^ 12) ∧
    restarting.settled = true ∧ (restarting.hall 7).readyAt = some 2000 ∧ (2000 : Nat) ≤ Nat.max restarting.now 2000 := by decide +kernel
theorem witness_steal : stealing.settled = true ∧ stealing.cu.waiting.find? (fun x => !x.pinned) = some (task kernel) ∧
    (task kernel).queuedAt + stealing.reg Obj.CU_STEAL_WAIT ≤ Nat.max stealing.now (10 ^ 9) ∧ (List.range 128).any (fun e => stealing.inPool e && stealing.ready e) = false ∧
    (stealing.hall 7).running = false ∧ (stealing.hall 7).readyAt = none ∧ (List.range 16).any (fun i => stealing.inPool (16 * 7 + i)) = true := by decide +kernel

/-- Lines: complete, and past CU_MAX_AGE. -/
def oneLine : State := State.settle { State.reset with cu := { State.reset.cu with lines := [line] } }
def aged : State := State.settle { withEngine running with cat := { onStrip.cat with active := onStrip.cat.active.setNum Obj.CU_MAX_AGE 500 } }
theorem witness_retire : oneLine.settled = true ∧ oneLine.cu.lines = [line] ∧ oneLine.lineComplete 7 = true ∧ oneLine.earlierOpen 7 = false ∧ oneLine.cu.crops = [] ∧
    line.requests = [] ∧ line.unjudged = [] := by decide +kernel
theorem witness_retire_aged : aged.settled = true ∧ aged.cu.lines = [line] ∧ aged.earlierOpen 7 = false ∧ aged.cu.crops = [] ∧ 0 < aged.act Obj.CU_MAX_AGE ∧
    line.closedAt + 1000 * aged.act Obj.CU_MAX_AGE ≤ Nat.max aged.now 500000 ∧ aged.lineComplete 7 = false := by decide +kernel


/-! ## Position and lines (03, 04) -/

/-- A tile in READY with an Active Folio and both ports in UP at address 0x45, and the same tile in RUN. -/
def idle : State := State.settle { State.reset with
  tile := { State.reset.tile with state := .ready }, portA := { State.reset.portA with state := .up }, portB := { State.reset.portB with state := .up },
  fol := { State.reset.fol with hasActive := true },
  cat := { State.reset.cat with mbState := .idle, vol := State.reset.cat.vol.setNum Obj.ID_ADDRESS 0x45,
                                staged := (State.reset.cat.staged.setNum Obj.FOL_NUMBER 7).setNum Obj.LT_MAX_LINE_RATE 50000 } }
def run : State := after (.start 5 mb) idle
def master : State := withNums idle [(Obj.LT_POS_MASTER, 1)]
def frozen : State := { master with lt := { master.lt with frozen := true } }

theorem witness_encoder : master.settled = true ∧ master.tile.state = .ready ∧ master.tile.phase = .none ∧ master.posMaster = true ∧ master.lt.frozen = false ∧
    frozen.settled = true ∧ frozen.lt.frozen = true ∧ master.readyOrRunning = true ∧ master.reg Obj.LT_MASTER_MARK = 0 := by decide +kernel
/-- R50, R52: a count from 0 backwards is 2⁴⁸ − 1; a change of both inputs counts an error and no edge. -/
theorem test_encoder_backwards : (after (.encoderEdge 9 (.single false)) master).lt.count = 2 ^ 48 - 1 := by decide +kernel
theorem test_encoder_error : (after (.encoderEdge 9 .both) master).reg Obj.LT_ENC_ERRORS = 1 ∧ (after (.encoderEdge 9 .both) master).lt.count = 0 := by decide +kernel

theorem witness_position_master : idle.settled = true ∧ idle.takesWrite 9 vc Obj.LT_POS_MASTER (leBytes 1 1) = true ∧ idle.reg Obj.LT_POS_MASTER ≠ 1 ∧ idle.lt.tokenAt = none ∧
    idle.takesWrite 9 mb Obj.LT_POS_MASTER (leBytes 1 0) = true ∧
    master.lt.sentAt.all (fun a => Nat.ble (a + master.reg Obj.LT_POS_PERIOD * 1000) (Nat.max master.now 9)) = true ∧ (master.port .b).takes = true := by decide +kernel

/-- A frame as it arrives, and a POSITION token with SEQ 5 of the tile 0x41. -/
def arriving (f : Frame) : RxFrame := { bytes := f.bytes, token := Nat.beq f.vc 3, marked := [], refPs := 0, residence := 0 }
def position (seq : Nat) : RxFrame :=
  arriving { dest := 0xFFF, source := 0x41, vc := 3, type := 0x31, payload := leBytes 4 seq ++ leBytes 4 0 ++ leBytes 8 1000 ++ leBytes 8 7 ++ leBytes 4 3 ++ zeros 12 }
def following : State := after (.positionToken 9 .a (position 5)) idle
theorem witness_follower : Claims.arrives idle .a (position 5) = true ∧ (Frame.read (position 5).bytes).vc = 3 ∧ (Frame.read (position 5).bytes).type = 0x31 ∧
    (Frame.read (position 5).bytes).payload.length = 40 ∧ idle.romFault = false ∧ idle.posMaster = false ∧ idle.lt.tokenSource = none := by decide +kernel
theorem witness_following : following.settled = true ∧ Claims.arrives following .a (position 6) = true ∧ following.posMaster = false ∧
    following.lt.tokenSource = some (Frame.read (position 6).bytes).source ∧ (leAt (Frame.read (position 6).bytes).payload 0 4 + 2 ^ 32 - following.lt.tokenSeq % 2 ^ 32) % 2 ^ 32 = 1 ∧
    following.readyOrRunning = true ∧ following.flag Obj.LT_STATUS 2 = false ∧ following.posLost = false ∧
    following.posSince + following.reg Obj.LT_POS_HOLDOVER * 1000 ≤ Nat.max following.now (10 ^ 12) ∧
    following.posSince + following.reg Obj.LT_POS_LOSS * 1000 ≤ Nat.max following.now (10 ^ 12) := by decide +kernel
/-- R58: a token's position of 1,000 counts is the model's. -/
theorem test_token_position : following.lt.model.p = countPos 1000 ∧ following.lt.model.speed = 3 := by decide +kernel

/-- A tile in RUN whose web has come 200 counts far, and one with a line in flight. -/
def moving : State := { run with
  lt := { run.lt with model := ⟨countPos 200, 0, 0⟩, seenPos := 0, cand := 25600, held := none, hold := none, origins := [] }, la := { run.la with restartDue := false } }
def flying : State := after (.lineTrigger 9) moving
def firstTrig : Trig := match flying.la.flights with | f :: _ => f.trig | [] => ⟨line.head, 0, {}, false, 0, 0, 0, 0, none, 0, {}⟩
def flight (g : Trig) : Flight := { trig := g, t0 := 9 }
theorem witness_trigger : moving.settled = true ∧ moving.tile.state = .run ∧ moving.tile.stopping = [] ∧ moving.posLost = false ∧ moving.lt.origins = [] ∧ moving.lt.late = false ∧
    moving.lt.held = none ∧ moving.fol.waiting = none ∧ moving.la.restartDue = false ∧ moving.lineClockLost = false ∧ 0 ≤ posDiff (moving.at 9).webPos moving.lt.seenPos ∧
    atOrBeyond (moving.at 9).trigPos (boundaryPos moving.lt.cand) = true ∧ moving.lt.busyUntil ≤ Nat.max moving.now 9 := by decide +kernel
/-- R63: the boundary at 100 counts comes before the one a line pitch further on. -/
theorem test_trigger_next : flying.lt.cand = 25600 + moving.act Obj.LT_LINE_PITCH ∧ flying.la.flights.length = 1 := by decide +kernel
def holding : State := { flying with lt := { flying.lt with held := some firstTrig } }
theorem witness_held : holding.settled = true ∧ holding.lt.held = some firstTrig ∧ holding.lt.busyUntil ≤ Nat.max holding.now (10 ^ 9) := by decide +kernel

/-- Flights at each stage, of a Folio with strobe 3 enabled and with dual exposure in every band. -/
def dualTrig : Trig := { firstTrig with bank := ((firstTrig.bank.setNum Obj.PX_DUAL_ENABLE 255).setNum Obj.LT_STB_ENABLE 8).setNum Obj.PX_BAND_ENABLE 1 }
def staged (f : Flight) : State := { flying with la := { flying.la with flights := [f] } }
def starting : Flight := flight dualTrig
def exposed : Flight := { starting with exposing := true }
def done : Flight := { exposed with ended := true, shortExposing := true }
def late : Nat := 10 ^ 9
theorem witness_exposure : (staged starting).settled = true ∧
    (staged starting).la.flights.find? (fun x => !x.exposing && Nat.ble (x.t0 + 110) (Nat.max (staged starting).now 119)) = some starting ∧
    (staged exposed).la.flights.find? (fun x => x.exposing && !x.shortExposing && anyDual x.trig.bank &&
      Nat.ble (x.t0 + 110 + x.exposure - x.trig.bank.num Obj.PX_EXPOSURE_SHORT) (Nat.max (staged exposed).now late)) = some exposed ∧
    (staged exposed).la.flights.find? (fun x => x.exposing && !x.ended && Nat.ble (x.t0 + 110 + x.exposure) (Nat.max (staged exposed).now late)) = some exposed := by decide +kernel
theorem witness_strobe : (staged starting).lineClockLost = false ∧
    (staged starting).la.flights.find? (fun g => bit (g.trig.bank.num Obj.LT_STB_ENABLE) 3 && !(g.strobed.contains 3) &&
      Nat.ble (g.t0 + g.trig.bank.num (Obj.LT_STB_START 3)) (Nat.max (staged starting).now late)) = some starting := by decide +kernel
def clockless : State := withNums idle [(Obj.CLK_STATUS, 2)]
theorem witness_strobe_clock_lost : clockless.settled = true ∧ clockless.lineClockLost = true := by decide +kernel
def complete : Flight := { done with done := rowCount dualTrig.bank }
theorem witness_assembly : (staged done).settled = true ∧ (staged done).la.converting 0 = some done ∧ done.calibrates = false ∧
    done.t0 + 610 + done.exposure + 0 * 125 ≤ Nat.max (staged done).now late ∧ 0 < rowCount done.trig.bank ∧
    (staged complete).settled = true ∧ (staged complete).la.flights.find? (fun x => !x.calibrates) = some complete ∧ complete.ended = true ∧
    complete.done = rowCount complete.trig.bank ∧ complete.t0 + 710 + complete.exposure + rowCount complete.trig.bank * 125 ≤ Nat.max (staged complete).now late ∧
    (staged complete).cu.lines.length < 256 := by decide +kernel
def hotArray : State := withNums idle [(Obj.PX_STATUS, 1)]
theorem witness_image_temp : idle.flag Obj.PX_STATUS 0 = false ∧ hotArray.settled = true ∧ hotArray.flag Obj.PX_STATUS 0 = true ∧ (1120 : Int) < 1121 ∧ (1087 : Int) < 1088 := by decide +kernel


/-! ## States, FAULT and REST (17, 20, 21) -/

def passing : SelfTestReport := ⟨none, [], [], []⟩
def measured : MonCal := ⟨800, List.replicate 48 0⟩
def booting : State := after (.vinQualified 1000 24000) State.reset
def testing : State := after (.bootVerify 30000000) booting
def loadingSet : State := after (.selftestDone 400000000 passing) testing
/-- A BOOT whose preferred firmware slot is rejected, and one with none. -/
def oneRejected : State := { booting with sec := { booting.sec with slot0 := { state := .empty }, slot1 := { state := .valid, image := none } } }
def allRejected : State := { booting with sec := { booting.sec with slot0 := { state := .empty }, slot1 := { state := .empty } } }
theorem witness_start_up : State.reset.tile.state = .off ∧ Claims.nothingTorn State.reset = true ∧ booting.settled = true ∧ booting.tile.state = .boot ∧
    booting.sec.owner0 ≠ .spent ∧ booting.sec.owner1 ≠ .spent ∧ (booting.sec.slot booting.sec.preferred).cause booting.sec.fuse = none ∧
    oneRejected.settled = true ∧ oneRejected.tile.state = .boot ∧ oneRejected.sec.preferred = 0 ∧ (oneRejected.sec.slot 0).cause oneRejected.sec.fuse = some 1 ∧
    (oneRejected.sec.slot 1).cause oneRejected.sec.fuse = none := by decide +kernel
theorem witness_tests_and_load : testing.settled = true ∧ testing.tile.state = .selftest ∧ passing.failed = none ∧ loadingSet.tile.state = .calload ∧
    loadingSet.am.refAt.getD 0 + 47000000 ≤ Nat.max loadingSet.now 500000000 ∧ loadingSet.cal.generation = some 1 ∧ loadingSet.cal.tornPages 1 = [] ∧
    loadingSet.reg Obj.PWR_PATH_STATE ≠ 4 ∧ loadingSet.mramBusy = false := by decide +kernel
/-- R19: a loaded set leads to LINKUP with both ports in DETECT. -/
theorem test_link_up : (after (.calloadDone 500000000 measured measured) loadingSet).tile.state = .linkup ∧
    (after (.calloadDone 500000000 measured measured) loadingSet).portB.state = .detect := by decide +kernel

def inFault : State := after (.overtempFault 20 2080) run
def inRom : State := after (.coreWatchdogExpiry 20 77) run
theorem witness_fault : run.settled = true ∧ run.ck.waitRef = false ∧ Claims.canFault run = true ∧ run.coreRuns = true ∧
    stateLimit testing.tile.state = some 1000 ∧ 1000 * 1000000 < Nat.max testing.now (10 ^ 10) - testing.tile.since ∧ Claims.canFault testing = true ∧ testing.ck.waitRef = false := by decide +kernel
theorem witness_load_timeout : loadingSet.settled = true ∧ Claims.canFault loadingSet = true ∧ loadingSet.ck.waitRef = false ∧ loadingSet.tile.state = .calload ∧
    stateLimit loadingSet.tile.state = some 500 ∧ 500 * 1000000 < Nat.max loadingSet.now (10 ^ 10) - loadingSet.tile.since := by decide +kernel
theorem witness_fault_boot : allRejected.settled = true ∧ allRejected.ck.waitRef = false ∧ allRejected.tile.phase = .none ∧ (allRejected.sec.slot 0).cause allRejected.sec.fuse = some 1 ∧
    (allRejected.sec.slot 1).cause allRejected.sec.fuse = some 1 ∧ testing.tile.phase = .none := by decide +kernel
theorem witness_in_fault : inRom.settled = true ∧ inRom.tile.state = .fault ∧ inRom.tile.server = .bootRom ∧ Nat.max inRom.now 40 / 2 ≠ inRom.tile.faultAt / 2 ∧
    inFault.tile.state = .fault ∧ Claims.nothingTorn inFault = true ∧ inFault.takesWrite 30 mb Obj.CAT_STATE_REQUEST (leBytes 1 4) = true := by decide +kernel
/-- R550: over-temperature is cause 10, and 130.0 °C is 2,080 sixteenths. -/
theorem test_overtemp : inFault.reg Obj.EVT_FAULT_CAUSE = 10 ∧ inFault.reg Obj.EVT_FAULT_DETAIL = 2080 := by decide +kernel
/-- R289: RESET takes FAULT to BOOT. -/
theorem test_reset : (after (.reset 30 mb) inFault).tile.state = .boot := by decide +kernel

def stopped : State := after (.stop 9 mb) run
theorem witness_run : idle.fol.hasActive = true ∧ idle.fol.computing = false ∧ idle.cal.run = none ∧ idle.ck.waitRef = false ∧ idle.tile.phase = .none ∧
    idle.takesWrite 5 mb Obj.CAT_STATE_REQUEST (leBytes 1 1) = true ∧ idle.takesWrite 5 vc Obj.CAT_STATE_REQUEST (leBytes 1 1) = true ∧
    run.takesWrite 9 mb Obj.CAT_STATE_REQUEST (leBytes 1 2) = true := by decide +kernel
theorem witness_stop_complete : stopped.settled = true ∧ stopped.ck.waitRef = false ∧ stopped.tile.state = .run ∧ stopped.tile.stopping = [mb] ∧ stopped.linesDone = true ∧
    stopped.ga.ctxs = [] ∧ (stopped.gaCtx 0).applied.source ≠ 3 ∧ Claims.canAnswer stopped mb = true := by decide +kernel
theorem test_stop : (after (.stopComplete 10) stopped).tile.state = .ready := by decide +kernel

/-- The way into REST: the drain, with a chain behind port B and without, what follows it, and REST. -/
def draining : State := after (.rest 10 mb) idle
def inChain : State := { draining with portB := { draining.portB with everUp := true } }
def resting : State := after (.restEntered 1000020) (after (.restDrainTimeout 1000010) inChain)
theorem witness_rest : idle.posMaster = false ∧ idle.timeMaster = false ∧ idle.cal.commit = none ∧ idle.portA.rate = idle.portB.rate ∧
    idle.takesWrite 10 vc Obj.CAT_STATE_REQUEST (leBytes 1 3) = true ∧ draining.settled = true ∧ draining.tile.phase = .draining ∧
    draining.tile.phaseAt + 1000000 ≤ Nat.max draining.now 1000010 ∧ draining.portA.queue = [] ∧ draining.portB.queue = [] ∧ draining.rg.waiting = [] ∧
    draining.portB.everUp = false ∧ inChain.portB.everUp = true ∧ inChain.settled = true ∧ draining.ck.waitRef = false := by decide +kernel
def passed : State := after (.restDrainTimeout 1000010) inChain
theorem witness_rest_entered : passed.settled = true ∧ passed.tile.state = .ready ∧ passed.tile.phase = .passing ∧ passed.tw.xfer = none ∧ passed.tw.recovering = false := by decide +kernel

/-- A tile in REST with a wake pin 255 that looks for a rising edge, a rest timer, and a sleeping target at an address of its own. -/
def sleeper : State := withNums { resting with cat := { resting.cat with work := { resting.cat.work with blobs := [(Obj.PE_PIN_CFG, { len := 1024, cells := [(1020, 0x60)], version := 0 })] } } } [(Obj.CLK_REST_TIMER, 1)]
theorem witness_wake : sleeper.settled = true ∧ sleeper.tile.phase = .inRest ∧ sleeper.tile.state = .rest ∧ 0 < sleeper.reg Obj.CLK_REST_TIMER ∧
    sleeper.tile.since + 980000 * sleeper.reg Obj.CLK_REST_TIMER ≤ Nat.max sleeper.now (10 ^ 9) ∧ bit (sleeper.pinCfg 255) 6 = true ∧
    decide (false ≠ cfgInvert (sleeper.pinCfg 255)) = !(bit (sleeper.pinCfg 255) 5) ∧ (sleeper.tw.target .i2cb).woke = false := by decide +kernel
theorem witness_address_match : sleeper.reg (Obj.TW_REST_MODE 1) = 0 ∧ ((List.range 128).filter (fun a => a ≠ 0x0C && sleeper.twAnswers .i2cb a)) ≠ [] := by decide +kernel
theorem witness_abandon : (∀ p, (draining.port p).state ≠ .pass ∧ (draining.port p).state ≠ .idleEnd) ∧ idle.tile.phase = .none := by
  constructor
  · intro p; cases p <;> decide +kernel
  · decide +kernel
def held : State := { idle with tw := { idle.tw with b := { idle.tw.b with holdSince := some 5 } } }
def waking : State := after (.wakeAlertN 1000030) resting
theorem witness_hold_and_wake : held.settled = true ∧ (held.tw.target .i2cb).holdSince = some 5 ∧ 5 + 450000 ≤ Nat.max held.now 450005 ∧ waking.settled = true ∧ waking.tile.state = .rest ∧
    waking.tile.phase = .waking ∧ waking.log.live = false ∧ waking.isUp .a = false := by decide +kernel
/-- R22, R481: ALERT_N wakes under code 7, and a woken tile comes back to READY. -/
theorem test_wake : waking.reg Obj.CLK_WAKE_SOURCE = 7 ∧ (after (.wakeComplete 1000040) waking).tile.state = .ready := by decide +kernel


/-! ## Folios, Catalogue and Archive (08, 09, 10) -/

def unfit : State := { idle with cat := { idle.cat with staged := {} } }
def sealing : State := after (.catFolioSeal 10 vc 1) idle
def sealed : State := State.setStaging sealing .sealed
theorem witness_seal : idle.takesWrite 10 vc Obj.CAT_FOLIO_SEAL (leBytes 1 1) = true ∧ idle.sealRefusal = none ∧ idle.cat.transfers = [] ∧ idle.cat.long = none ∧
    unfit.settled = true ∧ unfit.takesWrite 10 mb Obj.CAT_FOLIO_SEAL (leBytes 1 1) = true ∧ unfit.sealRefusal = some (0x1102, 0) ∧
    sealing.settled = true ∧ sealing.fol.staging = .sealing := by decide +kernel
theorem witness_unseal : sealed.settled = true ∧ sealed.takesWrite 10 vc Obj.CAT_FOLIO_UNSEAL (leBytes 1 1) = true ∧ sealed.fol.staging ≠ .opened ∧ sealed.oldLines = false ∧
    sealed.fol.waiting = none ∧ idle.takesWrite 10 vc Obj.CAT_FOLIO_COPY (leBytes 1 1) = true ∧ idle.fol.hasActive = true ∧ idle.fol.staging = .opened := by decide +kernel

/-- ACCESSION of Folio 7 at count 1,000 under ACC_ID 99. -/
def accession (flags : Nat) : List Byte :=
  leBytes 4 99 ++ leBytes 4 7 ++ leBytes 8 1000 ++ (sealed.cat.vol.all Obj.FOL_STAGED_DIGEST).take 16 ++ leBytes 4 flags ++ leBytes 4 0
def announcing (l : List Byte) : RxFrame := arriving { dest := 0xFFF, source := 0x41, vc := 3, type := 0x32, payload := l }
theorem witness_accession : Claims.arrives sealed .a (announcing (accession 0)) = true ∧ (Frame.read (announcing (accession 0)).bytes).payload = accession 0 ∧
    (Frame.read (announcing (accession 0)).bytes).type = 0x32 ∧ (accession 0).length = 40 ∧ leAt (accession 0) 0x20 4 = 0 ∧ leAt (accession 0) 8 8 < 2 ^ 48 ∧
    leAt (accession 0) 0x24 4 = 0 ∧ sealed.fol.lastAcc ≠ some (BitVec.ofNat 32 (leAt (accession 0) 0 4)) ∧ sealed.tile.state = .ready := by decide +kernel
theorem witness_accession_at_once : Claims.arrives sealed .b (announcing (accession 1)) = true ∧ (Frame.read (announcing (accession 1)).bytes).payload = accession 1 ∧
    leAt (accession 1) 0x20 4 = 1 ∧ sealed.accFails (Claims.announced (accession 1)) = none := by decide +kernel
theorem witness_accession_refused : Claims.arrives sealed .a (announcing (zeros 44)) = true ∧ (Frame.read (announcing (zeros 44)).bytes).payload.length ≠ 40 := by decide +kernel
/-- A pending ACCESSION whose position is reached, with a Folio that is still sealed and one that is not. -/
def due : State := let s := after (.accession 40 .a (announcing (accession 0))) sealed
  { s with lt := { s.lt with model := ⟨countPos 1000, 0, 0⟩ } }
def missed : State := State.setStaging due .opened
theorem witness_switch : due.settled = true ∧ due.tile.state = .ready ∧ due.fol.waiting = some (Claims.announced (accession 0)) ∧
    atOrBeyond (due.at 50).station (countPos (Claims.announced (accession 0)).pos) = true ∧ due.accFails (Claims.announced (accession 0)) = none ∧
    missed.settled = true ∧ missed.fol.waiting = some (Claims.announced (accession 0)) ∧ missed.accFails (Claims.announced (accession 0)) = some 1 := by decide +kernel
/-- R246: the numbers of the Folios are exchanged. -/
theorem test_switch : (after (.accessionSwitchReady 50) due).reg Obj.FOL_ACTIVE_NUMBER = 7 := by decide +kernel
theorem test_missed : (after (.accessionSwitchReady 50) missed).reg Obj.FOL_ACC_MISSED_CAUSE = 1 := by decide +kernel

theorem witness_beacon : idle.positioned = true ∧ idle.isUp .a = true ∧ idle.isUp .b = true ∧ (idle.at 16845703).beaconInstant (idle.at 16845703).itime = some 16845703 ∧
    (idle.at 16845703).itime ≤ 16845703 + 20000 ∧ idle.fol.beaconAt = none := by decide +kernel
def quoting : State := after (.folQuoteNonce 50 vc (List.replicate 32 9)) idle
theorem witness_quote : idle.readyOrRunning = true ∧ idle.takesWrite 50 vc Obj.FOL_QUOTE_NONCE (List.replicate 32 9) = true ∧ idle.fol.quoting = none ∧
    quoting.settled = true ∧ (quoting.fol.quoting.map List.length) = some 176 := by decide +kernel
def charged : State := withNums idle [(Obj.PWR_HOLDUP_ENERGY, 800)]
def kept : ResumeFolio := ⟨charged.cat.active, 7, zeros 32, zeros 32, true⟩
def saving : State := { charged with
  fol := { charged.fol with saving := some kept }, cat := { charged.cat with long := some ⟨.saveResume, vc, 2, Obj.CAT_FOLIO_SAVE_RESUME, false, 50⟩ } }
theorem witness_resume : charged.settled = true ∧ charged.takesWrite 50 vc Obj.CAT_FOLIO_SAVE_RESUME (leBytes 1 1) = true ∧ charged.fol.hasActive = true ∧
    800 ≤ charged.reg Obj.PWR_HOLDUP_ENERGY ∧ charged.takesWrite 50 mb Obj.CAT_FOLIO_CLEAR_RESUME (leBytes 1 1) = true := by decide +kernel
theorem witness_resume_length : (objectStream charged.cat.active).length ≤ 4194304 := by
  rw [objectStream_length]; decide +kernel
def resuming : State := State.settle { idle with fol := { idle.fol with computing := true } }
theorem witness_resume_ends : saving.settled = true ∧ saving.fol.saving = some kept ∧
    saving.cat.long = some ⟨.saveResume, vc, 2, Obj.CAT_FOLIO_SAVE_RESUME, false, 50⟩ ∧ Claims.canAnswer saving vc = true ∧
    resuming.settled = true ∧ resuming.fol.computing = true := by decide +kernel


/-- Requests: the longest value of a test that a frame carries, a part of the firmware digest, a list of three. -/
theorem witness_get : idle.hearsRequest vc = true ∧ vc.word = 0 ∧ idle.admits false Obj.ID_ADDRESS = true ∧ idle.readBusy Obj.ID_ADDRESS = false ∧
    (match idle.reach false false Obj.ID_ADDRESS with
     | .ok row => Nat.ble (((idle.at 5).presented vc 1 (getPayload Obj.ID_ADDRESS)).objLen row Obj.ID_ADDRESS false) vc.valueLimit | .error _ => false) = true ∧
    Obj.ID_ADDRESS ≠ Obj.SEC_AUTH_CHALLENGE ∧ Obj.ID_ADDRESS / 65536 ≠ 0x28 ∧ Obj.ID_ADDRESS < 2 ^ 24 ∧ Obj.ID_ADDRESS % 256 ≠ 0 := by decide +kernel
theorem witness_get_seg : idle.hearsRequest mb = true ∧ idle.admits false Obj.ID_FW_DIGEST = true ∧ idle.readBusy Obj.ID_FW_DIGEST = false ∧
    (match idle.reach false true Obj.ID_FW_DIGEST with
     | .ok row => Nat.ble mb.word (((idle.at 5).presented mb 3 (Claims.getSegPayload Obj.ID_FW_DIGEST 16)).objLen row Obj.ID_FW_DIGEST false) | .error _ => false) = true ∧
    Obj.ID_FW_DIGEST < 2 ^ 24 ∧ Obj.ID_FW_DIGEST % 256 ≠ 0 := by decide +kernel
theorem witness_list : idle.admits false 0x200000 = true ∧ mb.word = 0 := by decide +kernel

/-- A plain write, a first segment of 212 bytes, and a transfer left alone. -/
theorem witness_set : idle.takesWrite 5 vc Obj.PX_TDI_DEPTH (leBytes 1 10) = true ∧ (Obj.find Obj.PX_TDI_DEPTH).isSome = true ∧ Obj.PX_TDI_DEPTH / 65536 = 0x20 ∧
    (Obj.find Obj.PX_TDI_DEPTH).all (fun r => decide (r.access ≠ .wo)) = true := by decide +kernel
theorem witness_set_seg : idle.descriptor true (Obj.KN_KERNEL 15) = false ∧
    (match idle.reach true true (Obj.KN_KERNEL 15) with
     | .ok row => decide (idle.writeBarred vc row (Obj.KN_KERNEL 15) (zeros 212) = none) && !(idle.ownBusy row (Obj.KN_KERNEL 15) (zeros 212) false) && Nat.ble 212 row.maxLen
     | .error _ => false) = true ∧ Obj.KN_KERNEL 15 ≠ Obj.SEC_FW_IMAGE ∧ Obj.KN_KERNEL 15 < 2 ^ 24 ∧ idle.cat.transfers = [] := by decide +kernel
def segment : State := after (.setSeg 5 vc (segPayload (Obj.KN_KERNEL 15) totalOpen false (zeros 212))) idle
theorem witness_abandoned : segment.settled = true ∧
    (match segment.cat.transfers with
     | [x] => Nat.beq x.id (Obj.KN_KERNEL 15) && Nat.ble (x.lastAt + 1000000 * segment.reg Obj.CAT_SEG_TIMEOUT) (Nat.max segment.now (10 ^ 11)) | _ => false) = true := by decide +kernel
/-- R264: a written Folio object reads back in the Staged Folio and leaves the Active one. -/
theorem test_set : (after (.set 5 vc (setPayload Obj.PX_TDI_DEPTH [2])) idle).cat.staged.num Obj.PX_TDI_DEPTH = 2 ∧
    (after (.set 5 vc (setPayload Obj.PX_TDI_DEPTH [2])) idle).cat.active.num Obj.PX_TDI_DEPTH = 10 := by decide +kernel

/-- Kernels: an empty one passes, eight bytes do not; a seal's checks as the long operation that runs. -/
theorem witness_kernel : idle.takesWrite 5 vc (Obj.KN_KERNEL 15) [] = true ∧ idle.kernelCheck [] = none ∧ idle.takesWrite 5 mb (Obj.KN_KERNEL 15) (zeros 8) = true ∧
    (idle.kernelCheck (zeros 8)).isSome = true := by decide +kernel
def checking : State := { idle with cat := { idle.cat with long := some ⟨.sealChecks, vc, 2, Obj.CAT_FOLIO_SEAL, false, 0⟩ } }
theorem witness_long : checking.settled = true ∧ checking.cat.long = some ⟨.sealChecks, vc, 2, Obj.CAT_FOLIO_SEAL, false, 0⟩ ∧ checking.sealRefusal = none ∧
    checking.cat.transfers = [] ∧ Claims.canAnswer checking vc = true := by decide +kernel

/-- The mailbox with a LIST in it, once EXECUTE has been written, and with no request. -/
def posted : State := { idle with cat := { idle.cat with mbBytes := mbWrite idle.cat.mbBytes 0x10 ([5, 2, 8, 0, 0, 0, 0, 0] ++ Claims.listPayload 0x200000 3) } }
def executing : State := after (.execute 6) posted
def mbAddress : Nat := ((List.range 128).filter (fun a => idle.twAnswers .i2cb a)).headD 0
theorem witness_mailbox_bytes : mbAddress < 128 ∧ idle.twServes = true ∧ idle.twAnswers .i2cb mbAddress = true ∧ (idle.tw.target .i2cb).holdSince = none ∧
    idle.cat.mbState ≠ .busy ∧ 253 + [1, 2, (3 : Nat)].length ≤ 256 := by decide +kernel
theorem witness_execute : posted.settled = true ∧ posted.cat.mbState ≠ .busy ∧ posted.tile.state = .ready ∧ posted.cat.queue.length < 32 ∧ posted.mbRequest.1 = 5 ∧
    leNat [posted.mbByte 0x12, posted.mbByte 0x13] = 8 ∧ idle.mbRequest.1 = 0 := by decide +kernel
theorem witness_mailbox_done : executing.settled = true ∧ executing.cat.mbState = .busy ∧ executing.tile.state = .ready ∧
    (match executing.cat.queue with
     | [q] => decide (q.sender.path = .i2cb) && (match q.op with | .list id false false false n => Nat.beq id 0x200000 && Nat.beq n 3 && executing.admits false id | _ => false)
     | _ => false) = true := by decide +kernel

/-- The Archive: a clear under way, a bulk write of 8 bytes with ACK, its acknowledgement, a bulk read and its data. -/
def clearing : State := { idle with cu := { idle.cu with clear := some ⟨true, 8, 3⟩ } }
def bulkOf (type : Nat) (space flags : Byte) (l : List Byte) : RxFrame :=
  arriving { dest := 0x45, source := 0x41, vc := 1, type := type, payload := [space, flags, 0, 0] ++ leBytes 4 8 ++ leBytes 8 16 ++ l }
def payloadOf (x : RxFrame) : List Byte := (Frame.read x.bytes).payload
def writing : RxFrame := bulkOf 0x10 1 1 [1, 2, 3, 4, 5, 6, 7, 8]
def reading : RxFrame := bulkOf 0x11 1 0 []
theorem witness_clear : idle.takesWrite 5 mb Obj.VA_SLOT_CLEAR (leBytes 1 1) = true ∧ clearing.settled = true ∧ clearing.cu.clear = some ⟨true, 8, 3⟩ ∧ (8 : Nat) ≤ slotBytes ∧
    idle.cu.ue = [] ∧ idle.readyOrRunning = true ∧ 8 * 77 < archiveBytes := by decide +kernel
theorem witness_bulk : Claims.arrives idle .a writing = true ∧ (Frame.read writing.bytes).vc = 1 ∧ (Frame.read writing.bytes).type = 0x10 ∧
    idle.bulkRefused true (payloadOf writing) = none ∧ Claims.arrives idle .b reading = true ∧ (Frame.read reading.bytes).vc = 1 ∧ (Frame.read reading.bytes).type = 0x11 ∧
    idle.bulkRefused false (payloadOf reading) = none := by decide +kernel
def acknowledging : State := { idle with cu := { idle.cu with acks := [⟨.a, 0x41, 7, 8⟩] } }
def sending : State := { idle with cu := { idle.cu with reads := [⟨.b, 0x41, 7, 1, idle.spaceBase 1, 16, 20000, 16, 20000, false⟩] } }
theorem witness_bulk_ends : acknowledging.settled = true ∧ acknowledging.cu.acks = [⟨.a, 0x41, 7, 8⟩] ∧ Claims.canSend acknowledging .a = true ∧ sending.settled = true ∧
    sending.cu.reads[0]? = some ⟨.b, 0x41, 7, 1, idle.spaceBase 1, 16, 20000, 16, 20000, false⟩ ∧ sending.cu.ue = [] ∧ Claims.canSend sending .b = true := by decide +kernel
/-- R229: the bytes written lie in the Staged slot from the offset on. -/
theorem test_bulk_write : (after (.bulkWrite 6 .a writing) idle).archByte (idle.spaceBase 1 + 16) = 1 ∧
    (after (.bulkWrite 6 .a writing) idle).archByte (idle.spaceBase 1 + 23) = 8 := by decide +kernel


/-! ## Links (11, 12) -/

/-- The idle tile with port A changed, or port B. -/
def onA (f : LinkPort → LinkPort) : State := State.settle { idle with portA := f idle.portA }
def onB (f : LinkPort → LinkPort) : State := State.settle { idle with portB := f idle.portB }
def T : Nat := 5000000
def trainSet (type b12 b14 : Nat) : TrainSet := ⟨type, 1, 7, 0, 0, 0, 0, 0, 0, 0, 0, b12, 0, b14⟩
def skewed : State := onB (fun v => { v with deskewTimes := [T, T - 1, T - 2] })
def recovering : State := onA (fun v => { v with state := .recovery })
def down : State := onA (fun v => { v with state := .down })
theorem witness_lane_faults : (idle.port .b).carries = true ∧ (idle.port .b).passUntil ≤ Nat.max idle.now T ∧
    ((idle.port .b).deskewTimes.filter (fun a => Nat.blt (Nat.max idle.now T) (a + 1000000))).length ≤ 2 ∧ skewed.settled = true ∧ (skewed.port .b).carries = true ∧
    3 ≤ ((skewed.port .b).deskewTimes.filter (fun a => Nat.blt (Nat.max skewed.now T) (a + 1000000))).length ∧ (skewed.port .b).passUntil ≤ Nat.max skewed.now T ∧
    1000 * (idle.port .a).skipAt + 4096 * symbolPs (idle.port .a).rate ≤ 1000 * Nat.max idle.now T := by decide +kernel
theorem witness_recovery : recovering.settled = true ∧ (recovering.port .a).state = .recovery ∧ (recovering.port .a).since + 1000000 ≤ Nat.max recovering.now T ∧
    (recovering.port .a).queue = [] ∧ down.settled = true ∧ (down.port .a).state = .down ∧
    (down.port .a).since + down.reg Obj.LNK_RETRAIN_INTERVAL * 1000000 ≤ Nat.max down.now (10 ^ 10) ∧ down.romFault = false ∧ down.silent = false := by decide +kernel
theorem witness_retrain : idle.takesWrite T mb Obj.LNK_RETRAIN_A (leBytes 1 1) = true ∧ idle.takesWrite T vc Obj.LNK_RETRAIN_B (leBytes 1 1) = true ∧ idle.portA.state ≠ .test ∧
    idle.portA.state ≠ .pass ∧ vc.path ≠ .vc0 .b ∧ mb.path ≠ .vc0 .a ∧ idle.takesWrite T vc Obj.LNK_WAKE_A (leBytes 1 1) = true ∧
    idle.takesWrite T mb Obj.LNK_WAKE_B (leBytes 1 1) = true := by decide +kernel
def wakingUp : State := onA (fun v => { v with wakeUntil := some 9 })
def wakingDown : State := onA (fun v => { v with state := .idleEnd, wakeUntil := some 9 })
theorem witness_wake_pulse : wakingUp.settled = true ∧ (wakingUp.port .a).wakeUntil = some 9 ∧ 9 ≤ Nat.max wakingUp.now T ∧ (wakingUp.port .a).state ≠ .down ∧
    (wakingUp.port .a).state ≠ .idleEnd ∧ wakingDown.settled = true ∧ (wakingDown.port .a).wakeUntil = some 9 ∧ (wakingDown.port .a).state = .idleEnd := by decide +kernel
theorem witness_pass : Claims.spells (trainSet 5 0 0).bytes (trainSet 5 0 0) ∧ (trainSet 5 0 0).isEnd = false ∧ Claims.spells (trainSet 5 0 1).bytes (trainSet 5 0 1) ∧
    (trainSet 5 0 1).isEnd = true ∧ (idle.port .a).state = .up := by unfold Claims.spells; decide +kernel
/-- R305: a lock lost in UP leads to RECOVERY. -/
theorem test_lock_lost : (after (.lnkLockLost T .a 3 1) idle).portA.state = .recovery := by decide +kernel

def detecting : State := onA (fun v => { v with state := .detect })
def ready8 : Lane := { ts1Run := 8, ts2Run := 8, rates := 7 }
def heard : State := onA (fun v => { v with state := .detect, lanes := (List.range 4).map (fun i => { ready8 with partnerLane := i }) })
def trained : State := after (.rateChangeDone T .a) heard
def measured0 : State := { trained with portA := trained.portA.setLane 3 { trained.portA.lane 3 with outstanding := none } }
theorem witness_detect : detecting.settled = true ∧ (detecting.port .a).lanes.length = 4 ∧ (detecting.port .a).state = .detect ∧ (trainSet 1 0 0).isEnd = false ∧
    bit (trainSet 1 0 0).b12 1 = false ∧ (detecting.port .a).heardTs1 = false ∧ ((detecting.port .a).lane 3).ts1Run < 7 ∧ readSet [] = none := by decide +kernel
/-- A lane that has heard six TS1 with the rates of the next. -/
def heardSix : State := onA (fun v => { v with state := .detect, lanes := [{}, {}, {}, { ts1Run := 6, rates := (trainSet 1 0 0).rates }] })
theorem witness_ts1 : heardSix.settled = true ∧ Claims.spells (trainSet 1 0 0).bytes (trainSet 1 0 0) ∧ (trainSet 1 0 0).type = 1 ∧
    (trainSet 1 0 0).rates = ((heardSix.port .a).lane 3).rates ∧ ((heardSix.port .a).lane 3).ts1Run < 7 ∧ (heardSix.port .a).lanes.length = 4 ∧ (heardSix.port .a).heardTs1 = false ∧
    Claims.spells (trainSet 2 0 0).bytes (trainSet 2 0 0) ∧ (trainSet 2 0 0).type = 2 := by unfold Claims.spells; decide +kernel
theorem witness_train : heard.settled = true ∧ (heard.port .a).heardTs1 = true ∧ (heard.port .a).heardTs2 = true ∧ (heard.port .a).laneOrder ≠ none ∧ trained.settled = true ∧
    (trained.port .a).lanes.length = 4 ∧ (((trained.port .a).lane 3).outstanding.map (fun o => decide (o.sentAt + 20000 ≤ Nat.max trained.now (2 * T)))) = some true ∧
    measured0.settled = true ∧ (measured0.port .a).state = .train ∧ ((measured0.port .a).lane 3).outstanding = none ∧ ((measured0.port .a).lane 3).reversing = false ∧
    ((measured0.port .a).lane 3).phase = .presets ∧ ((measured0.port .a).lane 3).presetNo < 7 ∧ (measured0.port .a).lanes.length = 4 := by decide +kernel
def run64 : HopRun := { count := 64, firstTag := 0, trips := List.replicate 32 5000 }
def aligning (h : Option HopRun) (d : Bool) : State := onA (fun v => { v with state := .align, hop := h, hopDone := d })
theorem witness_align : (aligning none false).settled = true ∧ ((aligning none false).port .a).state = .align ∧ ((aligning none false).port .a).carries = true ∧
    (aligning (some run64) false).settled = true ∧ ((aligning (some run64) false).port .a).hop = some run64 ∧ 32 ≤ run64.trips.length ∧ run64.mean < 2 ^ 32 ∧ run64.spread < 2 ^ 32 ∧
    ({ run64 with trips := [] } : HopRun).trips.length < 32 ∧ (63 + 256 - run64.firstTag) % 256 < run64.count ∧ run64.tags.contains 63 = false := by decide +kernel
/-- LOOP and its echo, of tag 63. -/
def loopSet : TrainSet := { trainSet 3 0 0 with b9 := 63 }
def echoSet : TrainSet := { trainSet 4 0 0 with b9 := 63, b10 := 200 }
theorem witness_loop_sets : Claims.spells loopSet.bytes loopSet ∧ loopSet.type = 3 ∧ Claims.spells echoSet.bytes echoSet ∧ echoSet.type = 4 ∧ echoSet.b9 = 63 := by
  unfold Claims.spells; decide +kernel
theorem witness_up : 0 < idle.reg Obj.LNK_HOP_PERIOD ∧ (idle.port .b).hop = none ∧ (idle.port .b).state = .up ∧
    (idle.port .b).hopAt + idle.reg Obj.LNK_HOP_PERIOD * 1000000 ≤ Nat.max idle.now (10 ^ 12) ∧ (aligning none true).settled = true ∧ (aligning none true).ck.waitRef = false ∧
    ((aligning none true).port .a).hopDone = true ∧ (aligning none true).rg.waiting = [] ∧ ((aligning none true).port .a).queue = [] := by decide +kernel
/-- Both ports have heard a token, port B over fewer hops. -/
def heardTokens : State := (aligning none true).onPort .a (fun v => { v with latestHops := some 9 }) |>.onPort .b (fun v => { v with latestHops := some 8 })
theorem witness_time_port : heardTokens.settled = true ∧ heardTokens.portA.latestHops = some 9 ∧ heardTokens.portB.latestHops = some 8 ∧
    (heardTokens.port .a).hopDone = true ∧ heardTokens.rg.waiting = [] ∧ (heardTokens.port .a).queue = [] := by decide +kernel
/-- R358: at entry to UP the port with the smaller HOPS becomes the time port. -/
theorem test_time_port : (after (.portUp T .a) heardTokens).flag Obj.LNK_STATUS 7 = true := by decide +kernel
/-- R314: an aligned port that has heard fewer than 32 echoes goes to RECOVERY. -/
theorem test_hop : (after (.hopMeasureDone T .a) (aligning (some { run64 with trips := [] }) false)).portA.state = .recovery := by decide +kernel

/-- Lane tests. -/
def prbs : Nat := 0x840
def testingLane : State := after (.lnkLaneTest T mb .a 3 prbs) idle
theorem witness_lane_tests : 4 * laneNo .b 3 + 4 ≤ (idle.cat.vol.blob Obj.LNK_EYE).len ∧ (detecting.port .a).state ≠ .up ∧ 4 * laneNo .a 3 + 4 ≤ (detecting.cat.vol.blob Obj.LNK_EYE).len ∧
    0 < idle.reg Obj.LNK_EYE_PERIOD ∧ (idle.port .a).eyeAt + idle.reg Obj.LNK_EYE_PERIOD * 1000000000 ≤ Nat.max idle.now (10 ^ 15) ∧
    idle.takesWrite T vc Obj.LNK_EYE_MEASURE (leBytes 1 1) = true ∧ idle.takesWrite T mb (Obj.LNK_LANE_TEST (laneNo .a 3)) (leBytes 4 prbs) = true ∧ prbs / 32 % 4 ≠ 1 ∧
    holdsTest prbs = true ∧ (idle.port .a).state ≠ .test ∧ (idle.port .a).lanes.length = 4 := by decide +kernel
theorem witness_lane_test_ends : testingLane.settled = true ∧ testingLane.takesWrite T mb (Obj.LNK_LANE_TEST (laneNo .a 3)) (leBytes 4 0) = true ∧ holdsTest 0 = false ∧
    (testingLane.port .a).state = .test ∧ (List.range 3).all (fun k => !(holdsTest (testingLane.laneTest .a k))) = true ∧ testingLane.laneTest .a 3 / 32 % 4 = 2 ∧
    bit (testingLane.laneTest .a 3) 7 = false ∧ bit (testingLane.laneTest .a 3) 11 = true ∧ ((testingLane.port .a).lane 3).syncAt = none ∧
    (testingLane.port .a).lanes.length = 4 := by decide +kernel
def inSync : State := got (execPrbsSync T .a 3) testingLane
theorem witness_resync : inSync.settled = true ∧ ((inSync.port .a).lane 3).syncAt = some T ∧ (inSync.port .a).lanes.length = 4 ∧
    8 * laneNo .a 3 + 8 ≤ (inSync.cat.vol.blob Obj.LNK_PRBS_ERRORS).len := by decide +kernel

/-! Frames. -/
def onward : RxFrame := arriving { dest := 0x47, source := 0x41, vc := 0, type := 0x01, payload := zeros 4, ttl := 2 }
def wrong : RxFrame := arriving { dest := 0xFC5, source := 0x41, vc := 0, type := 0x01, payload := zeros 4 }
theorem witness_forward : Claims.sound idle .a onward = true ∧ idle.routeOf (Frame.read onward.bytes) = (false, true) ∧ 1 < (Frame.read onward.bytes).ttl ∧
    (idle.port .b).takes = true ∧ (Frame.read onward.bytes).vc ≠ 3 ∧ idle.hears .a = true ∧ wrong.marked = [] ∧ idle.headerFault .a wrong (Frame.read wrong.bytes) = some (4, none) ∧
    headerOk [1, 2] = false ∧ headerOk ((Frame.read onward.bytes).bytes) = true ∧ headerOk ({ Frame.read onward.bytes with hops := 1 } : Frame).bytes = true ∧
    0 < (Frame.read ({ Frame.read onward.bytes with hops := 1 } : Frame).bytes).hops := by decide +kernel
def aborted : Frame := { dest := idle.address, source := 0x41, vc := 0, type := 0x01, payload := zeros 4 }
theorem witness_abort : (Frame.read aborted.bytes).hops = 0 ∧ idle.headerFault .a ⟨Nat.beq (Frame.read aborted.bytes).vc 3, aborted.bytes, [], 0, 0⟩ (Frame.read aborted.bytes) = none ∧
    (idle.routeOf (Frame.read aborted.bytes)).1 = true := by decide +kernel
def credited : State := onA (fun v => { v with credits := { v.credits with heard := true, used := [5, 5, 5, 5] } })
theorem witness_credits : (idle.port .a).credits.heard = false ∧ (idle.port .a).queue = [] ∧ (creditBytes 3 [1, 2, 3, 65535]).length = 12 ∧
    leAt (creditBytes 3 [1, 2, 3, 65535]) 10 2 = crc16 ((creditBytes 3 [1, 2, 3, 65535]).take 10) ∧ leAt (creditBytes 3 [1, 2, 3, 65535]) 0 1 = 3 ∧
    credited.settled = true ∧ (credited.port .a).credits.heard = true ∧ leAt (creditBytes 2 [1, 1, 1, 1]) 10 2 = crc16 ((creditBytes 2 [1, 1, 1, 1]).take 10) ∧
    leAt (creditBytes 2 [1, 1, 1, 1]) 0 1 = 2 ∧ (creditBytes 2 [1, 1, 1, 1]).length = 12 ∧ (idle.port .a).credits.acked = false ∧
    (idle.port .a).credits.lastSent + 10000 ≤ Nat.max idle.now T ∧ (idle.port .a).credits.lastSent + 20000 ≤ Nat.max idle.now T := by decide +kernel
def waitingFrame : Queued := { frame := Frame.read onward.bytes, own := true, since := 5 }
def routeless : State := { idle with rg := { idle.rg with waiting := [waitingFrame] } }
def broken : State := withNums idle [(Obj.LNK_STATUS, 2)]
def onWire : State := onA (fun v => { v with wire := some waitingFrame })
theorem witness_routes : routeless.settled = true ∧ routeless.rg.waiting = [waitingFrame] ∧ waitingFrame.since + 1000000 ≤ Nat.max routeless.now T ∧ (idle.port .b).queue = [] ∧
    broken.settled = true ∧ broken.flag Obj.LNK_STATUS 1 = true ∧ broken.isUp .a = true ∧ broken.isUp .b = true ∧ onWire.settled = true ∧ (onWire.port .a).token = none ∧
    (onWire.port .a).wire = some waitingFrame := by decide +kernel

/-! The Registrar: chain 62, position 61 before this tile's. -/
def enumFrame (l : List Byte) : RxFrame := arriving { dest := 0, ttl := 1, source := 0, vc := 3, type := 0x38, payload := l }
def offer (side : Nat) : List Byte := enumPayload 77 1 side 62 61 0 0 99
def unplaced : State := withNums idle [(Obj.ID_ADDRESS, 0)]
def linking : State := State.settle { unplaced with tile := { unplaced.tile with state := .linkup } }
theorem witness_offer : unplaced.settled = true ∧ unplaced.ck.waitRef = false ∧ Claims.arrives unplaced .a (enumFrame (offer 0)) = true ∧
    payloadOf (enumFrame (offer 0)) = offer 0 ∧ (offer 0).length = 24 ∧ leAt (offer 0) 4 1 = 1 ∧ leAt (offer 0) 5 1 = 0 ∧ leAt (offer 0) 6 1 = 62 ∧ leAt (offer 0) 7 1 = 61 ∧
    unplaced.romFault = false ∧ unplaced.positioned = false ∧ unplaced.flag Obj.LNK_STATUS 3 = false ∧ unplaced.tile.state = .ready := by decide +kernel
theorem witness_offer_other : linking.settled = true ∧ linking.ck.waitRef = false ∧ linking.tile.state = .linkup ∧ linking.positioned = false ∧
    Claims.arrives linking .a (enumFrame (offer 0)) = true ∧ Claims.arrives unplaced .a (enumFrame (offer 1)) = true ∧ payloadOf (enumFrame (offer 1)) = offer 1 ∧
    leAt (offer 1) 5 1 = 1 ∧ (Frame.read (enumFrame (offer 1)).bytes).type = 0x38 ∧ (Frame.read (enumFrame (offer 1)).bytes).vc = 3 := by decide +kernel
def placed62 : State := after (.offer T .a (enumFrame (offer 0))) unplaced
def commit : List Byte := leBytes 4 77 ++ [3, 0, 62, 0, 62] ++ zeros 15
def offering : State := { idle with rg := { idle.rg with onward := some ⟨.b, offer 0, 5, .a⟩ } }
theorem witness_commit : offering.settled = true ∧ offering.rg.onward = some ⟨.b, offer 0, 5, .a⟩ ∧ offering.isUp .b = true ∧ offering.silent = false ∧ placed62.settled = true ∧
    Claims.arrives placed62 .a (enumFrame commit) = true ∧ payloadOf (enumFrame commit) = commit ∧ commit.length = 24 ∧ leAt commit 4 1 = 3 ∧ leAt commit 8 1 = 62 ∧
    placed62.rg.finalUnder = some 77 ∧ placed62.reg Obj.LNK_ENUM_ID = leAt commit 0 4 ∧ placed62.romFault = false := by decide +kernel
/-- R352, R353: an address is 64 times the chain plus the position. -/
theorem test_offer : placed62.reg Obj.ID_ADDRESS = 64 * 62 + 62 := by decide +kernel

/-! Installation time: a token 300 ns ahead, and one 30 us ahead. -/
def timeToken (ns : Nat) : RxFrame :=
  arriving { dest := 0xFFF, ttl := 9, source := 0x41, vc := 3, type := 0x30, payload := leBytes 4 1 ++ leBytes 4 1 ++ leBytes 8 ns ++ zeros 8 }
theorem witness_time : idle.timePort = .a ∧ Claims.arrives idle .a (timeToken (T + 300)) = true ∧ (payloadOf (timeToken (T + 300))).length = 24 ∧
    bit (leAt (payloadOf (timeToken (T + 300))) 4 4) 0 = true ∧ idle.timeMaster = false ∧ idle.rg.lockRun < 15 ∧
    (((1000 * Nat.max idle.now T + 0 : Nat) : Int) + idle.rg.offset + idle.rg.worked (Nat.max idle.now T) - ((1000 * (T + 300) + 0 + idle.reg (hopDelayObj .a) : Nat) : Int)) = -300000 ∧
    Claims.arrives idle .a (timeToken (T + 30000)) = true := by decide +kernel
def timeMaster : State := got (execLnkTimeMasterWrite T mb 1) idle
def timeFollower : State := got (execTime T .a (timeToken (T + 300))) idle
theorem witness_time_ends : idle.takesWrite T mb Obj.LNK_TIME_MASTER (leBytes 1 1) = true ∧ timeMaster.settled = true ∧ timeMaster.timeMaster = true ∧ timeMaster.readyOrRunning = true ∧
    timeMaster.rg.sentAt.all (fun a => Nat.ble (a + timeMaster.reg Obj.LNK_TIME_PERIOD * 1000) (Nat.max timeMaster.now (10 ^ 8))) = true ∧ timeFollower.settled = true ∧
    timeFollower.timeBase = some T ∧ timeFollower.timeMaster = false ∧ timeFollower.flag Obj.LNK_STATUS 5 = false ∧ timeFollower.flag Obj.LNK_STATUS 6 = false ∧
    T + timeFollower.reg Obj.LNK_TIME_HOLDOVER * 1000000 ≤ Nat.max timeFollower.now (10 ^ 12) ∧ T + timeFollower.reg Obj.LNK_TIME_LOSS * 1000000 ≤ Nat.max timeFollower.now (10 ^ 12) := by decide +kernel


/-! ## Gallery (13) -/

/-- Context 7 on virtual channel 0 of camera port 0: 64 by 16 pixels, DIRECT output, sent. -/
def camera : State := withNums idle [(Obj.GA_AUX_ENABLE 0, 1), (Obj.GA_CTX_ENABLE 7, 1), (Obj.GA_CTX_SOURCE 7, 1), (Obj.GA_CTX_WIDTH 7, 64), (Obj.GA_CTX_HEIGHT 7, 16),
  (Obj.GA_CTX_OUTPUTS 7, 8), (Obj.GA_CTX_SEND 7, 1)]
def bound : State := got (execGaCtxApply T mb 7 1) camera
def opened : State := got (execFrameStart T 0 0 9 .clean) bound
def grey : List Byte := List.replicate 64 5
theorem witness_apply : camera.settled = true ∧ camera.takesWrite T mb (Obj.GA_CTX_APPLY 7) (leBytes 1 1) = true ∧ camera.applyRefusal 7 = none ∧
    (camera.gaCtx 7).open_ = none := by decide +kernel
theorem witness_packets : bound.settled = true ∧ bound.auxOn 0 = true ∧ bound.bound 0 0 = [7] ∧ bound.bound 0 15 = [] ∧ (bound.gaCtx 7).applied.dt ≠ 0x2B ∧
    (bound.gaCtx 7).frames = [] ∧ (bound.gaCtx 7).pending = none ∧ bound.ga.ctxs.all (fun p => Nat.beq p.1 7) = true := by decide +kernel
def aFrame : GaFrame := match (opened.gaCtx 7).frames with | f :: _ => f | [] => { set := {}, seq := 0, order := 0, time := 0, first := 0 }
def oneFrame (f : GaFrame) : State := { opened with ga := { opened.ga with ctxs := [(7, { opened.gaCtx 7 with frames := [f] })] } }
def full : GaFrame := { aFrame with rows := List.replicate 16 [] }
theorem witness_line : opened.settled = true ∧ opened.auxOn 0 = true ∧ opened.bound 0 0 = [7] ∧ (opened.gaCtx 7).frames = [aFrame] ∧ (opened.gaCtx 7).pending = none ∧
    opened.ga.ctxs.all (fun p => Nat.beq p.1 7) = true ∧ aFrame.receiving = true ∧ aFrame.rows.length < aFrame.set.height ∧ (opened.gaCtx 7).applied.dt = 0x2A ∧
    (unpackLine 0x2A grey).length = aFrame.set.cols * perPixel 0x2A ∧
    ceilDiv ((aFrame.rows.length + 1) * aFrame.set.cols * storedBytes aFrame.set) 4096 ≤ (opened.gaCtx 7).applied.resBlocks ∧ aFrame.set.source ≠ 3 ∧
    (opened.gaCtx 7).packetAt + aFrame.set.timeout * 1000000 ≤ Nat.max opened.now (10 ^ 12) := by decide +kernel
theorem witness_frame_end : (oneFrame full).settled = true ∧ (oneFrame full).auxOn 0 = true ∧ (oneFrame full).bound 0 0 = [7] ∧ ((oneFrame full).gaCtx 7).frames = [full] ∧
    ((oneFrame full).gaCtx 7).pending = none ∧ full.receiving = true ∧ full.set.height ≤ full.rows.length := by decide +kernel
/-- R376: a frame takes the FRAME_SEQ before its increment. -/
theorem test_frame_start : opened.reg (Obj.GA_CTX_FRAMES 7) = 1 ∧ aFrame.seq = 0 := by decide +kernel
def anItem : ViewItem := ⟨1, 7, 0, 6, 0, 64, 0⟩
def shown : GaFrame := { aFrame with receiving := false, toBegin := [], items := [anItem] }
def ticking : State := { camera with ga := { camera.ga with clock := true } }
theorem witness_item : (oneFrame shown).settled = true ∧ ((oneFrame shown).gaCtx 7).frames = [shown] ∧ ((oneFrame shown).gaCtx 7).pending = none ∧ shown.receiving = false ∧
    shown.toBegin = [] ∧ shown.items = [anItem] ∧ anItem.kind < 7 ∧ (oneFrame shown).ga.ctxs.all (fun p => Nat.beq p.1 7) = true := by decide +kernel
theorem witness_clock_stop : ticking.settled = true ∧ ticking.ga.clock = true ∧ ticking.pipeOrders = [] ∧ ticking.ga.workAt + 50000 ≤ Nat.max ticking.now T := by decide +kernel


/-! ## Monitor (14) -/

def M : Nat := 9000000
/-- A monitor with its reference on since 3, channel B enabled before and after the reference was ready, settled, in calibration. -/
def withRef : State := { idle with am := { idle.am with refAt := some 3 } }
def withB (reset : Nat) (settled cal : Option Nat) : State := withNums { withRef with am := { withRef.am with
  chB := { withRef.am.chB with running := true, resetAt := reset, settledAt := settled, calUntil := cal } } } [(Obj.AM_CH_ENABLE 1, 1)]
def enabledB : State := withB 5 none none
def readyB : State := withB M none none
def settledB : State := withB M (some (M + 99999999)) none
def M2 : Nat := M + 100000000
theorem witness_channel_writes : withRef.settled = true ∧ withRef.takesWrite 5 mb (Obj.AM_CH_ENABLE 1) [1] = true ∧ enabledB.settled = true ∧ (enabledB.at M).refReady = true ∧
    (enabledB.am.chan .b).running = true ∧ (enabledB.am.chan .b).resetAt < enabledB.am.refAt.getD 0 + 5000000 ∧ enabledB.takesWrite M vc Obj.AM_REF_BUFFER (leBytes 1 1) = true ∧
    enabledB.takesWrite M mb Obj.AM_SYNC_RESET (leBytes 1 3) = true ∧ enabledB.takesWrite M mb (0x270100 + 256 * 1 + 2) [0] = true ∧
    enabledB.takesWrite M mb (0x270100 + 256 * 1 + 6) [0, 0] = true ∧ enabledB.takesWrite M mb (Obj.AM_IN_OFFSET 7) [1, 0, 0, 0] = true := by decide +kernel
theorem witness_channel_settles : readyB.settled = true ∧ (readyB.am.chan .b).running = true ∧ (readyB.at (M + 99999999)).refReady = true ∧
    readyB.am.refAt.getD 0 + 5000000 ≤ (readyB.am.chan .b).resetAt ∧ (readyB.am.chan .b).calUntil = none ∧ (readyB.am.chan .b).settledAt = none ∧
    readyB.settleAt .b ≤ Nat.max readyB.now (M + 99999999) := by decide +kernel
def factors : List Byte := List.replicate 48 1
def calibrating : State := withB M none (some (M2 + 42000000))
theorem witness_calibration : settledB.settled = true ∧ settledB.takesWrite M2 mb Obj.AM_CAL_START (leBytes 1 3) = true ∧ settledB.readyOrRunning = true ∧ (settledB.at M2).refReady = true ∧
    (settledB.am.chan .a).calUntil = none ∧ (settledB.am.chan .b).calUntil = none ∧ calibrating.settled = true ∧ (calibrating.am.chan .b).calUntil = some (M2 + 42000000) ∧
    calibrating.reg Obj.AM_CAL_MIN_SPUR ≤ 800 ∧ 5 < calibrating.reg Obj.AM_CAL_MIN_SPUR ∧ factors.length = 48 := by decide +kernel
def corrected : State := withNums settledB [(Obj.AM_BG_ENABLE, 1)]
def spurred (low : Nat) : State := let s := withNums corrected [(Obj.AM_CH_SPUR 1, low), (Obj.AM_CH_STATUS 1, if low = 5 then 0 else 16)]
  { s with am := { s.am with chB := { s.am.chB with spurBand := s.spurBand low, spurFrom := M2 } } }
theorem witness_background : corrected.settled = true ∧ corrected.reg Obj.AM_BG_ENABLE = 1 ∧ (corrected.am.chan .b).running = true ∧ (corrected.at M2).refReady = true ∧
    (corrected.am.chan .b).calUntil = none ∧ (corrected.am.chan .b).bgAt + 1048576 ≤ Nat.max corrected.now M2 := by decide +kernel
theorem witness_spur : (spurred 5).settled = true ∧ (spurred 5).reg Obj.AM_BG_ENABLE = 1 ∧ ((spurred 5).am.chan .b).running = true ∧
    ((spurred 5).am.chan .b).spurBand = (spurred 5).spurBand ((spurred 5).reg (Obj.AM_CH_SPUR 1)) ∧ ((spurred 5).am.chan .b).spurFrom + 1000000000 ≤ Nat.max (spurred 5).now (M2 + 1000000000) ∧
    (spurred 5).spurBand ((spurred 5).reg (Obj.AM_CH_SPUR 1)) = 0 ∧ (spurred 5).flag (Obj.AM_CH_STATUS 1) 4 = false ∧
    (spurred 900).settled = true ∧ (spurred 900).spurBand ((spurred 900).reg (Obj.AM_CH_SPUR 1)) = 2 ∧
    ((spurred 900).am.chan .b).spurBand = (spurred 900).spurBand ((spurred 900).reg (Obj.AM_CH_SPUR 1)) := by decide +kernel

/-- Accumulator 7: gated by exposure with a line in flight, by pin 255, by the host; windows that are closed, and one at its limit. -/
def gated (g : Nat) : State := withNums settledB [(Obj.AM_ACC_ENABLE 7, 1), (Obj.AM_ACC_GATE 7, g), (Obj.AM_ACC_PIN 7, 255), (Obj.AM_ACC_WIDTH 7, 100)]
def exposingFlight : Flight := { trig := firstTrig, t0 := M2 - 110 }
def lit : State := { gated 1 with la := { idle.la with flights := [exposingFlight] } }
theorem witness_window_open : lit.settled = true ∧ lit.la.flights = [exposingFlight] ∧ exposingFlight.exposing = false ∧ lit.reg (Obj.AM_ACC_GATE 7) = 1 ∧ lit.reg (Obj.AM_ACC_ENABLE 7) = 1 ∧
    exposingFlight.t0 + 110 ≤ Nat.max lit.now M2 ∧ Nat.max lit.now M2 < exposingFlight.t0 + 110 + exposingFlight.exposure ∧
    hasWindow (lit.am.acc 7).windows 1 (exposingFlight.trig.number % 2 ^ 32) = false := by decide +kernel
def pinned : State := got (execAccPinTrigger M2 255) (gated 8)
def opened9 : State := got (execAmAccCapture M2 mb 7 1) (gated 9)
theorem witness_triggers : (gated 8).settled = true ∧ (gated 8).readyOrRunning = true ∧
    (List.range 8).all (fun k => !(openNow (Nat.max (gated 8).now M2) ((gated 8).am.acc k).windows)) = true ∧ (gated 8).reg (Obj.AM_ACC_PIN 7) = 255 ∧
    (gated 9).settled = true ∧ (gated 9).takesWrite M2 mb (Obj.AM_ACC_CAPTURE 7) (leBytes 1 1) = true ∧ (gated 9).reg (Obj.AM_ACC_ENABLE 7) = 1 ∧ (gated 9).reg (Obj.AM_ACC_GATE 7) = 9 ∧
    openNow (Nat.max (gated 9).now M2) ((gated 9).am.acc 7).windows = false ∧ opened9.settled = true ∧ opened9.takesWrite M2 mb (Obj.AM_ACC_CAPTURE 7) (leBytes 1 1) = true ∧
    opened9.reg (Obj.AM_ACC_ENABLE 7) = 1 ∧ opened9.reg (Obj.AM_ACC_GATE 7) = 9 ∧ openNow (Nat.max opened9.now M2) (opened9.am.acc 7).windows = true := by decide +kernel

def shut : Window := ⟨M2, some (M2 + 100), 7, 5, 1, 8, true, 0, false, 0, 0, false⟩
def atLimit : Window := { shut with sum := 2 ^ 47 - 2 }
def withWindow (w : Window) : State := { settledB with am := { settledB.am with accs := [(7, { windows := [w] })] } }
theorem witness_latch : (withWindow shut).settled = true ∧ ((withWindow shut).am.acc 7).windows = [shut] ∧
    ((withWindow shut).at (M2 + 10000000)).takeClosed [shut] = some (shut, []) ∧ shut.line < 2 ^ 32 := by decide +kernel
theorem witness_sums : (addOutputs (presetD (settledB.preset (chanOf shut.chan))) shut.sum shut.ovf (settledB.windowOutputs shut 3 [100, 200])).2 = shut.ovf ∧
    (addOutputs (presetD (settledB.preset (chanOf atLimit.chan))) atLimit.sum false (settledB.windowOutputs atLimit 0 [4095])).2 = true ∧ (withWindow atLimit).settled = true ∧
    ((withWindow atLimit).am.acc 7).windows = [atLimit] := by decide +kernel
def detecting7 : State := withNums settledB [(Obj.AM_GZ_ENABLE 1, 1)]
theorem witness_trackers : settledB.takesWrite M2 mb (Obj.AM_MM_CLEAR 3) (leBytes 1 1) = true ∧ detecting7.settled = true ∧ detecting7.reg (Obj.AM_GZ_ENABLE 1) = 1 ∧
    (detecting7.am.chan .b).settledAt.isSome = true ∧ (detecting7.am.chan .b).calUntil = none ∧ (detecting7.am.gz .b).block + 1 < 2 ^ 32 := by decide +kernel


/-! ## Pins (15) -/

/-- Pins 0 to 8 belong to engine 31, whose field is pins 0 to 7 and whose probes begin at pin 10; the engine runs. -/
def pinTile : State := State.setBlob { idle with cat := { idle.cat with work := { idle.cat.work with
  blobs := [(Obj.PE_PIN_CFG, { len := 1024, cells := (List.range 9).map (fun p => (4 * p + 2, 0xF9)), version := 0 })] } } } (Obj.PEN_PINS 31) [0, 8, 10, 20, 0, 0, 0, 0]
def pinsOn : State := withNums pinTile [(Obj.PE_ENABLE, 2 ^ 31)]
def pinWith (g : PinEngine) : State := State.setPinEngine pinsOn 31 g
theorem witness_pin_ready : pinsOn.settled = true ∧ Claims.pinReady pinsOn 31 = true ∧ (pinsOn.pinEngine 31).ev = [] ∧
    (pinWith { ev := [(5, 6)] }).settled = true ∧ Claims.pinReady (pinWith { ev := [(5, 6)] }) 31 = true ∧ ((pinWith { ev := [(5, 6)] }).pinEngine 31).ev = [(5, 6)] := by decide +kernel
theorem witness_pin_go : pinsOn.goTaken 31 (Claims.ticked pinsOn 31 3) 3 = true ∧ pinsOn.goTaken 31 (Claims.ticked pinsOn 31 3) 4 = false ∧
    pinsOn.pinDrive (pinsOn.probeBase 31) = none ∧ cfgFunc (pinsOn.pinCfg (pinsOn.probeBase 31)) < 3 ∧ pinsOn.probeBase 31 % 2 = 0 ∧
    awaitExists true 2 4 = true ∧ pinsOn.awaitHolds 31 (Claims.ticked pinsOn 31 3) true 2 4 pinsOn.lt.pulses pinsOn.lt.starts = false ∧
    awaitExists false 2 0 = true ∧ pinsOn.awaitHolds 31 (Claims.ticked pinsOn 31 3) false 2 0 pinsOn.lt.pulses pinsOn.lt.starts = true := by decide +kernel
/-- R430: a 16-bit half exchanged, bits reversed, an event taken. -/
theorem test_pin_swap : ((after (.move 31 0 1 0 3 0) (pinWith { ag := 0x12345678 })).pinEngine 31).ct = 0x56781234 := by decide +kernel
theorem test_pin_reverse : ((after (.move 31 0 1 0 2 0) (pinWith { ag := 3 })).pinEngine 31).ct = 0xC0000000 := by decide +kernel

/-- Shifting: 32 bits in SO, left and right; automatic refill with nothing in TX; RX full and not; a frame due. -/
def shifting (w : Nat) (g : PinEngine) : State := State.setPinEngine (withNums pinsOn [(Obj.PEN_SHIFT 31, w)]) 31 g
theorem witness_pin_field : pinsOn.fieldWidth 31 = 8 ∧ pinsOn.owns 31 (pinsOn.fieldPin 31 7) = true := by decide +kernel
theorem witness_shift_out : (shifting 8 { soBits := 32 }).settled = true ∧ Claims.pinReady (shifting 8 { soBits := 32 }) 31 = true ∧ bit ((shifting 8 { soBits := 32 }).shiftCfg 31) 3 = true ∧
    32 ≤ ((shifting 8 { soBits := 32 }).pinEngine 31).soBits ∧ (shifting 0 { soBits := 32 }).settled = true ∧ bit ((shifting 0 { soBits := 32 }).shiftCfg 31) 3 = false ∧
    (shifting 2 {}).settled = true ∧ Claims.pinReady (shifting 2 {}) 31 = true ∧ bit ((shifting 2 {}).shiftCfg 31) 1 = true ∧ ((shifting 2 {}).pinEngine 31).soBits = 0 ∧
    ((shifting 2 {}).pinEngine 31).tx = [] := by decide +kernel
def rxFull : PinEngine := { siBits := 1, rx := List.replicate 8 5 }
theorem witness_shift_in : bit ((shifting 0 {}).shiftCfg 31) 0 = false ∧ (shifting 1 {}).settled = true ∧ Claims.pinReady (shifting 1 {}) 31 = true ∧ bit ((shifting 1 {}).shiftCfg 31) 0 = true ∧
    frameIn ((shifting 1 {}).shiftCfg 31) ≤ Nat.min 32 (((shifting 1 {}).pinEngine 31).siBits + 32) ∧ ((shifting 1 {}).pinEngine 31).rx.length < 8 ∧
    (shifting 1 rxFull).settled = true ∧ 8 ≤ ((shifting 1 rxFull).pinEngine 31).rx.length ∧ Claims.pinReady (shifting 1 rxFull) 31 = true := by decide +kernel
theorem witness_fill_send : (pinWith { tx := [7] }).settled = true ∧ ((pinWith { tx := [7] }).pinEngine 31).tx = [7] ∧ (pinsOn.pinEngine 31).tx = [] ∧
    ((shifting 8 { soBits := 32 }).pinEngine 31).soBits ≠ 0 ∧ (pinsOn.pinEngine 31).rx.length < 8 ∧ 8 ≤ ((pinWith rxFull).pinEngine 31).rx.length ∧ (pinWith rxFull).settled = true ∧
    (pinsOn.pinEngine 31).siBits < frameIn (pinsOn.shiftCfg 31) ∧ Claims.pinReady (pinWith { tx := [7] }) 31 = true := by decide +kernel

/-- Control: supply codes that shut bank 3, a configuration of all pins, a program of two words, a patch, a word for TX, LDI 77 injected, and so on. -/
def codes : List Nat := [1, 2, 3, 0, 1, 2, 3, 1]
theorem witness_bank : codes.length = 8 ∧ (List.range 8).all (fun k => Nat.beq k 3 || (!(idle.vioBank k).faulty && Nat.ble 1 (codes.getD k 0) && Nat.ble (codes.getD k 0) 3 &&
      decide ((idle.vioBank k).accepted = none))) = true ∧ (idle.vioBank 3).faulty = false ∧ codes.getD 3 0 = 0 := by decide +kernel
def configured : State := got (execBankVioSample M [1, 2, 3, 3, 1, 2, 3, 1]) idle
theorem witness_pin_cfg : configured.settled = true ∧ configured.hearsRequest mb = true ∧ configured.tile.state = .ready ∧ configured.cat.transfers = [] ∧
    (zeros 1024).length = 1024 := by decide +kernel
theorem witness_pin_cfg_taken : configured.pinCfgRefused (zeros 1024) = false := by decide +kernel
def program : List Byte := leBytes 4 0x50505645 ++ leBytes 2 1 ++ leBytes 2 48 ++ leBytes 4 52 ++ leBytes 2 9 ++ zeros 2 ++ [2, 0, 0, 0] ++ zeros 4 ++ leBytes 4 5 ++ zeros 20 ++ [0, 0, 0, 0]
theorem witness_program : idle.takesWrite M mb (Obj.PEN_PROGRAM 31) program = true ∧ programCheck program = none ∧ leAt program 0x28 4 = 0 ∧ idle.secure = false ∧
    idle.takesWrite M vc (Obj.PEN_PATCH 31) (leBytes 4 65536) = true ∧ idle.takesWrite M vc (Obj.PEN_TX 31) (leBytes 4 (2 ^ 32 - 1)) = true ∧
    idle.takesWrite M mb (Obj.PEN_INJECT 31) (leBytes 4 (2 * 4096 + 77)) = true ∧ (idle.pinEngine 31).stall = none ∧ idle.takesWrite M mb Obj.PE_RESTART (leBytes 4 (2 ^ 31)) = true ∧
    pinsOn.takesWrite M mb Obj.PE_ENABLE (leBytes 4 0) = true := by decide +kernel
theorem witness_inject : pinDecode (2 * 4096 + 77) = some (.ldi false 77, 0) := by decide +kernel
theorem witness_enable : pinTile.settled = true ∧ pinTile.takesWrite M mb Obj.PE_ENABLE (leBytes 4 (2 ^ 31)) = true ∧ pinTile.reg Obj.PE_ENABLE = 0 ∧ pinTile.lacksPins 31 = false ∧
    (pinTile.pinEngine 31).kept = none ∧ (pinWith rxFull).hearsRequest mb = true ∧ (pinWith rxFull).admits false (Obj.PEN_RX 31) = true ∧ ((pinWith rxFull).pinEngine 31).rx.head? = some 5 := by decide +kernel
def awaiting : State := got (execAwait 31 0 true 0 2 false) pinsOn
theorem witness_release : awaiting.settled = true ∧ awaiting.pinRuns 31 = true ∧ ((awaiting.pinEngine 31).stall.map (fun st => decide (st.op = .await true 0 2))) = some true ∧
    (awaiting.pinEngine 31).injecting = none ∧ awaiting.pinDrive ((awaiting.probeBase 31 + 2) % 256) = none ∧ cfgFunc (awaiting.pinCfg ((awaiting.probeBase 31 + 2) % 256)) < 3 ∧
    (awaiting.probeBase 31 + 2) % 2 = 0 := by decide +kernel

/-! ## The two-wire port (16) -/

def xferBytes : List Byte := [0x20, 0, 2, 0, 1, 0, 0, 0, 7, 8]
def onBus : State := got (execTwAXfer M mb xferBytes) idle
def lastAttempt : State := State.settle { onBus with tw := { onBus.tw with xfer := onBus.tw.xfer.map (fun x => { x with attempts := 2 }) } }
def busRecovering : State := got (execTwARecover M mb 1) idle
def hung : State := got (execTwBusHang M) onBus
def arbLost : State := got (execTwArbLost M 2) onBus
theorem witness_xfer : idle.takesWrite M mb Obj.TW_XFER xferBytes = true ∧ Claims.goodXfer xferBytes ∧ idle.flag Claims.statusA 3 = false ∧ idle.flag Claims.statusA 4 = false := by
  unfold Claims.goodXfer; decide +kernel
theorem witness_on_bus : onBus.settled = true ∧ onBus.tw.xfer = some ⟨0x20, 2, 0, 1, [7, 8], 1, true⟩ ∧ onBus.tw.recovering = false ∧
    lastAttempt.settled = true ∧ lastAttempt.tw.xfer = some ⟨0x20, 2, 0, 1, [7, 8], 2, true⟩ ∧
    (⟨0x20, 2, 3, 1, [7, 8], 1, true⟩ : TwXfer).has 5 = true ∧ (⟨0x20, 2, 3, 1, [7, 8], 1, true⟩ : TwXfer).readBefore 5 = 1 := by decide +kernel
theorem witness_bus_recovery : idle.takesWrite M mb Obj.TW_RECOVER (leBytes 1 1) = true ∧ busRecovering.settled = true ∧ busRecovering.tw.recovering = true ∧ busRecovering.tw.xfer = none ∧
    hung.settled = true ∧ hung.tw.recovering = true ∧ (hung.tw.xfer.map TwXfer.onBus) = some false := by decide +kernel
theorem witness_bus_free : idle.tw.xfer = none ∧ arbLost.settled = true ∧ (arbLost.tw.xfer.map TwXfer.onBus) = some false ∧ arbLost.tw.recovering = false := by decide +kernel
/-- The address that the target of I2CA answers. -/
def addrA : Nat := ((List.range 128).filter (idle.twAnswers .i2ca)).headD 0
def alerting : State := withNums idle [(Obj.TW_ALERT_PENDING, 2), (Obj.TW_ALERT_MASK, 2)]
theorem witness_target : idle.twServes = true ∧ idle.twAnswers .i2ca addrA = true ∧ addrA < 128 ∧ 255 - 128 < (idle.cat.vol.blob Obj.TW_WINDOW_IN).len := by decide +kernel
theorem witness_alert : alerting.settled = true ∧ alerting.drivesAlert = true ∧ alerting.reg Obj.TW_ALERT_PORT = TwPort.i2cb.code ∧ alerting.reg (Obj.TW_ENABLE TwPort.i2cb.code) = 1 ∧
    alerting.takesWrite M mb Obj.TW_ALERT_SET (leBytes 1 1) = true ∧ alerting.takesWrite M vc Obj.TW_ALERT_CLEAR (leBytes 1 31) = true ∧
    alerting.takesWrite M mb Obj.TW_WINDOW_OUT (zeros 128) = true := by decide +kernel
/-- R452: the target does not acknowledge its address; a data byte is not acknowledged. -/
theorem test_xfer_nack : (after (.twXferDone M (some 0) []) onBus).cat.vol.all Obj.TW_RESULT = [2, 0, 1, 0, 0, 0, 0, 0] := by decide +kernel
theorem test_xfer_data_nack : (after (.twXferDone M (some 2) []) onBus).cat.vol.all Obj.TW_RESULT = [3, 2, 1, 0, 0, 0, 0, 0] := by decide +kernel
/-- R453: a loss, and the second attempt. -/
theorem test_attempts : (after (.i2caBusFree M) arbLost).cat.vol.all Obj.TW_RESULT = [1, 0, 2, 0, 0, 0, 0, 0] := by decide +kernel
/-- R456: the pointer wraps from 0xFF to 0x00. -/
theorem test_window_wrap : (after (.i2caTargetRead M addrA 300) idle).tw.a.pointer = 44 := by decide +kernel

/-! ## Clocks (17) -/

def L : Nat := 90000000
def plls : State := State.settle idle.startPlls
def runPlls : State := State.settle run.startPlls
def noChannels (s : State) : Bool := [Chan.a, .b].all (fun c => !(s.chanClock c) && !((s.am.chan c).running))
theorem witness_locked : plls.settled = true ∧ [Pll.a, .b, .c, .l, .x].all (fun p => plls.pllOn p && decide (plls.pllLost p = none)) = true ∧ plls.tile.state = .ready ∧
    plls.la.flights = [] ∧ plls.lt.busyUntil ≤ plls.now ∧ plls.lt.held = none ∧ plls.cal.run = none ∧ noChannels plls = true ∧ plls.ga.ctxs = [] ∧ plls.ck.waitRef = false ∧ Claims.canFault plls = true ∧
    State.reset.pllOn .x = false ∧ plls.flag Obj.CLK_STATUS 8 = false := by decide +kernel
theorem witness_locked_run : runPlls.settled = true ∧ runPlls.pllOn .c = true ∧ runPlls.pllLost .c = none ∧ runPlls.tile.state = .run ∧ runPlls.flag Obj.CLK_STATUS 5 = false := by decide +kernel
/-- One frame received in context 7 as PLL-B loses lock. -/
def receiving : State := let s := oneFrame { aFrame with items := [] }
  State.settle { s with ck := plls.ck, cat := { s.cat with work := plls.cat.work } }
theorem witness_frame_lost : receiving.settled = true ∧ receiving.pllOn .b = true ∧ receiving.pllLost .b = none ∧ receiving.flag Obj.CLK_STATUS 8 = false ∧ (receiving.ga.ctxs.map (fun c => (c.1, c.2.frames.length))) = [(7, 1)] := by
  decide +kernel
def xLost : State := got (execClkLockLost L .x) plls
def cLost : State := got (execClkLockLost L .c) plls
def bLost : State := got (execClkLockLost L .b) plls
def aLost : State := got (execClkLockLost L .a) plls
def xLost99 : State := State.settle { xLost with ck := { xLost.ck with lost := [(4, ⟨L, 99⟩)] } }
theorem witness_lost : xLost.settled = true ∧ xLost.pllLost .x = some ⟨L, 0⟩ ∧ xLost99.settled = true ∧ xLost99.pllLost .x = some ⟨L, 99⟩ ∧ L + attemptEnd 0 ≤ L + 1000000000 ∧
    L + attemptEnd 99 ≤ L + 1000000000 ∧ bLost.settled = true ∧ bLost.pllLost .b = some ⟨L, 0⟩ ∧ cLost.settled = true ∧ cLost.pllLost .c = some ⟨L, 0⟩ ∧
    cLost.tile.state = .ready ∧ cLost.ck.excursion = none ∧ aLost.settled = true ∧ aLost.pllLost .a = some ⟨L, 0⟩ := by decide +kernel
/-- PLL-C's fixed frequency. -/
def fixed (k : Nat) (s : State) : State := State.settle { s with cat := { s.cat with active := s.cat.active.setNum Obj.CLK_C_FIXED k } }
theorem witness_ramp : (fixed 500000 plls).settled = true ∧ Claims.holdsLock (fixed 500000 plls) .c ∧ (fixed 500000 plls).ck.excursion = none ∧
    (fixed 500000 plls).ck.rampAt + 1000 * (fixed 500000 plls).reg Obj.CLK_RAMP_INTERVAL ≤ L ∧ (fixed 500000 plls).targetC = (fixed 500000 plls).ck.freq ∧
    (fixed 499900 plls).settled = true ∧ (fixed 499900 plls).targetC = 499900 ∧ (fixed 499900 plls).ck.freq = 500000 ∧ (fixed 499900 plls).flag Obj.CLK_STATUS 8 = false ∧
    (fixed 499900 plls).tuneFor 499900 = some ((fixed 499900 plls).ck.divider, (fixed 499900 plls).ck.band) ∧
    ((fixed 500100 plls).tuneFor 500100).isSome = true ∧ (fixed 500100 plls).tuneFor 500100 ≠ some ((fixed 500100 plls).ck.divider, (fixed 500100 plls).ck.band) := by
  unfold Claims.holdsLock; decide +kernel
theorem witness_ramp_run : (fixed 499900 runPlls).settled = true ∧ (fixed 499900 runPlls).tile.state = .run ∧ Claims.holdsLock (fixed 499900 runPlls) .c ∧
    (fixed 499900 runPlls).ck.excursion = none ∧ (fixed 499900 runPlls).targetC = 499900 ∧ (fixed 499900 runPlls).ck.freq = 500000 ∧
    (fixed 499900 runPlls).flag Obj.CLK_STATUS 8 = false ∧ (fixed 499900 runPlls).ck.rampAt + 1000 * (fixed 499900 runPlls).reg Obj.CLK_RAMP_INTERVAL ≤ L ∧
    (fixed 499900 runPlls).tuneFor 499900 = some ((fixed 499900 runPlls).ck.divider, (fixed 499900 runPlls).ck.band) := by unfold Claims.holdsLock; decide +kernel
def excursion : State := got (execRampInterval L) (fixed 500100 plls)
theorem witness_excursion : excursion.settled = true ∧ excursion.tile.state = .ready ∧ (excursion.ck.excursion.map Excursion.since) = some L ∧ excursion.pllLost .c = none := by decide +kernel
def hotCase : State := withNums idle [(Obj.CLK_STATUS, 128)]
theorem witness_case_temp : idle.flag Obj.CLK_STATUS 7 = false ∧ hotCase.settled = true ∧ hotCase.flag Obj.CLK_STATUS 7 = true := by decide +kernel
/-- R475: the steps of the case temperature (1/16 degree): the thermal state from 100 degrees, the hot limit above 110 degrees. -/
theorem test_case_temp : (got (execCaseTempSample L 1760) plls).flag Obj.CLK_STATUS 7 = false ∧ (got (execCaseTempSample L 1761) plls).flag Obj.CLK_STATUS 7 = true ∧
    (got (execCaseTempSample L 1679) hotCase).flag Obj.CLK_STATUS 7 = false ∧ (got (execCaseTempSample L 1680) hotCase).flag Obj.CLK_STATUS 7 = true := by decide +kernel
def refOn : State := withNums plls [(Obj.CLK_REF_ACTIVE, 1), (Obj.CLK_REF_SEL, 1)]
theorem witness_ref : plls.takesWrite L mb Obj.CLK_REF_SEL (leBytes 1 0) = true ∧ plls.takesWrite L mb Obj.CLK_REF_SEL (leBytes 1 1) = true ∧ plls.reg Obj.CLK_REF_ACTIVE = 0 ∧
    plls.isUp .a = true ∧ down.takesWrite L mb Obj.CLK_REF_SEL (leBytes 1 1) = true ∧ down.isUp .a = false ∧ refOn.settled = true ∧ refOn.reg Obj.CLK_REF_ACTIVE = 1 ∧
    refOn.isUp .a = true ∧ refOn.takesWrite L mb Obj.CLK_REF_SEL (leBytes 1 1) = true ∧ refOn.tile.state = .ready ∧ refOn.la.flights = [] ∧ refOn.lt.busyUntil ≤ refOn.now ∧ refOn.lt.held = none ∧
    refOn.cal.run = none ∧ noChannels refOn = true ∧ [Pll.a, .b, .c, .l, .x].all (fun p => decide (refOn.pllLost p = none)) = true := by decide +kernel
def bandTable : List Byte := leBytes 4 6000000 ++ leBytes 4 6500000 ++ leBytes 4 6100000 ++ leBytes 4 6300000 ++ zeros 240
def retuned : State := got (execClkXVco L mb 3000000) plls
theorem witness_clock_writes : plls.takesWrite L vc (Obj.CLK_BAND_TABLE 3) bandTable = true ∧ plls.takesWrite L mb (Obj.CLK_OUT_CFG 3) (leBytes 4 0x14101) = true ∧
    outFormat 0x14101 ≠ 0 ∧ plls.ck.retuneX = none ∧ plls.takesWrite L mb (Obj.CLK_OUT_CFG 0) (leBytes 4 0x14100) = true ∧ plls.takesWrite L mb Obj.CLK_X_VCO (leBytes 4 3000000) = true ∧
    retuned.settled = true ∧ retuned.pllLost .x = none ∧ retuned.ck.retuneX = some L := by decide +kernel

/-! ## Power (18) -/

/-- A tile with a good cell, charging. -/
def powered : State := State.settle { idle with pw := { idle.pw with noCell := false, connected := true, cellMv := 3300, vin := 24000, phase := .cc, known := true, charge := 5 * mAh, zone := 2 } }
def shipped : State := { powered with pw := { powered.pw with shipArmed := true } }
def handover : State := got (execPwrHandover L 16000) powered
def bouncing : State := { handover with pw := { handover.pw with handovers := List.replicate 8 L } }
def onCell : State := got (execCellReached L) handover
def hotCell : State := { onCell with pw := { onCell.pw with noCell := true } }
def heldOff : State := got (execCellReached L) bouncing
def L2 : Nat := L + 10 ^ 12
def shutting : State := got (execHoldupTimeExpiry L2) onCell
def stored : State := { powered with pw := { powered.pw with connected := false } }
theorem witness_power : powered.settled = true ∧ powered.tile.state = .ready ∧ powered.pw.path = .input ∧ powered.pw.shipArmed = false ∧ powered.pw.unavailable = false ∧
    shipped.settled = true ∧ shipped.pw.shipArmed = true ∧ shipped.pw.path = .input ∧ Claims.nothingTorn shipped = true ∧ shipped.tile.state = .ready := by decide +kernel
theorem witness_handover : handover.settled = true ∧ handover.pw.path = .handover ∧ (handover.pw.handovers.filter (fun a => Nat.blt L (a + 1000000000))).length = 1 ∧
    bouncing.settled = true ∧ bouncing.pw.path = .handover ∧ (bouncing.pw.handovers.filter (fun a => Nat.blt L (a + 1000000000))).length = 8 := by decide +kernel
theorem witness_cell : onCell.settled = true ∧ onCell.pw.path = .cell ∧ onCell.pw.bounceUntil = none ∧ onCell.pw.qualFrom + 10000000 ≤ L2 ∧ Nat.max onCell.now L < onCell.pw.qualFrom + 10000000 ∧
    heldOff.settled = true ∧ heldOff.pw.path = .cell ∧ heldOff.pw.bounceUntil = some (L + 1000000000) ∧ L + 1000000000 ≤ Nat.max heldOff.now L2 ∧
    onCell.wrk Obj.PWR_HOLDUP_TIME * 1000000 ≤ Claims.lowTime onCell L2 ∧ Claims.lowTime onCell L < onCell.wrk Obj.PWR_HOLDUP_TIME * 1000000 ∧ Claims.nothingTorn onCell = true := by decide +kernel
theorem witness_cell_restored : ((got (execPwrVinRestored L2 24000) onCell).chargerRuns && onCell.pw.chargeable) = true ∧ hotCell.settled = true ∧ hotCell.pw.path = .cell ∧
    ((got (execPwrVinRestored L2 24000) hotCell).chargerRuns && hotCell.pw.chargeable) = false := by decide +kernel
theorem witness_shutdown : shutting.settled = true ∧ shutting.pw.path = .shutdown ∧ Claims.nothingTorn shutting = true ∧
    { shutting with cal := { shutting.cal with commit := some ⟨0, idle.cat.work, 2⟩ } }.settled = true := by decide +kernel
theorem witness_ship : stored.settled = true ∧ stored.pw.connected = false ∧ powered.takesWrite L mb Obj.PWR_SHIP (leBytes 1 1) = true := by decide +kernel
/-- R491: VIN fails below 16.5 V and above 37.5 V. -/
theorem test_handover_edges : (got (execPwrHandover L 16499) powered).pw.path = .handover ∧ (got (execPwrHandover L 16500) powered).pw.path = .input ∧
    (got (execPwrHandover L 37500) powered).pw.path = .input ∧ (got (execPwrHandover L 37501) powered).pw.path = .handover := by decide +kernel

/-- Demands within the input's power, within the supplement, and beyond it. -/
def demand (extra : Nat) : PowerDemand := ⟨24000, powered.inputLimit * 24 - 30000, 30000 + extra, 0, 0⟩
def cellLess : State := { powered with pw := { powered.pw with noCell := true } }
theorem witness_demand : powered.pw.supplement = none ∧ powered.flag Obj.PWR_STATUS 6 = false ∧ (demand 25000).tile < 65536 ∧ Claims.available powered (demand 0) = (demand 0).tile + (demand 0).vstb ∧
    Claims.available powered (demand 20000) < (demand 20000).tile + (demand 20000).vstb ∧ Claims.available powered (demand 25000) + 20000 < (demand 25000).tile + (demand 25000).vstb ∧
    cellLess.settled = true ∧ cellLess.pw.unavailable = true := by decide +kernel
def supplied : State := got (execPowerDemandExcess L (demand 20000)) powered
def relieved : State := got (execPowerDemandExcess L (demand 0)) supplied
def turns : State := got (execSupplementPhase (L + 10000000)) supplied
theorem witness_supplement : supplied.settled = true ∧ (supplied.pw.supplement.map (fun e => (e.zeroFrom, e.phaseAt, e.periodic))) = some (none, L, false) ∧ 0 < supplied.pw.need ∧
    supplied.flag Obj.PWR_STATUS 6 = false ∧ relieved.settled = true ∧ (relieved.pw.supplement.map Supplement.zeroFrom) = some (some L) ∧ relieved.pw.need = 0 ∧
    turns.settled = true ∧ (turns.pw.supplement.map (fun e => (e.zeroFrom, e.phaseAt, e.periodic, e.allowed))) = some (none, L + 10000000, true, false) ∧
    turns.pw.need ≤ 20000 ∧ turns.pw.unavailable = false := by decide +kernel
theorem witness_overload : powered.ck.waitRef = false ∧ Claims.canFault powered = true ∧ powered.tile.state ≠ .off ∧ powered.pw.path ≠ .cell := by decide +kernel
def phased (x : ChgState) : State := State.settle { powered with pw := { powered.pw with phase := x } }
theorem witness_charge : (phased .precharge).settled = true ∧ (phased .precharge).chgState = .precharge ∧ powered.chgState = .cc ∧ (phased .cv).settled = true ∧ (phased .cv).chgState = .cv ∧
    (phased .done).settled = true ∧ (phased .done).chgState = .done ∧ 0 < powered.timerRate ∧ powered.wrk Obj.PWR_CHG_TIMER * 7200000000000 ≤ (Claims.counted powered (10 ^ 18)).timer ∧
    (Claims.counted powered L).timer < powered.wrk Obj.PWR_CHG_TIMER * 7200000000000 ∧ powered.takesWrite L mb Obj.PWR_CHG_RESTART (leBytes 1 1) = true ∧
    powered.chargerRuns = true ∧ powered.pw.chargeable = true := by decide +kernel
theorem witness_ntc : (ntcTemp 10000).isSome = true ∧ (ntcTemp 30000).isSome = true ∧ powered.pw.noCell = false ∧ powered.pw.ntcFault = false ∧
    ((ntcTemp 10000).map (nextZone powered.pw.zone)) = some powered.pw.zone ∧ ((ntcTemp 30000).map (fun x => decide (nextZone powered.pw.zone x = powered.pw.zone))) = some false := by decide +kernel
/-- R501: a thermistor of 10 kOhm at 25 degrees. -/
theorem test_ntc : ntcTemp 10000 = some 400 := by decide +kernel

/-! ## Calibration, security, events (19, 20, 21) -/

def darkReady : State := State.settle { idle with cat := { idle.cat with active := idle.cat.active.setNum Obj.LT_STB_ENABLE 0 } }
theorem witness_cal_run : idle.tile.state = .ready ∧ idle.fol.hasActive = true ∧ idle.cal.run = none ∧ idle.mramBusy = false ∧ idle.takesWrite L mb Obj.CAL_RUN (leBytes 1 1) = true ∧
    busyNs 104 (idle.act Obj.PX_EXPOSURE) * idle.reg Obj.CAL_RUN_RATE ≤ 1000000000 ∧ idle.reg Obj.PE_ENABLE = 0 ∧ idle.act Obj.LT_STB_ENABLE ≠ 0 ∧
    darkReady.settled = true ∧ darkReady.act Obj.LT_STB_ENABLE = 0 ∧ darkReady.takesWrite L vc Obj.CAL_RUN (leBytes 1 1) = true ∧
    idle.takesWrite L mb Obj.CAL_RUN (leBytes 1 2) = true ∧ busyNs 96 (idle.act Obj.PX_EXPOSURE) * idle.reg Obj.CAL_RUN_RATE ≤ 1000000000 := by decide +kernel
def darkRun : State := got (execDark L mb) darkReady
def darkFired : State := got (execCalRunTrigger L) darkRun
theorem witness_cal_trigger : darkRun.settled = true ∧ (darkRun.cal.run.map (fun x => (x.flat, x.fired, decide (x.fired < x.total)))) = some (false, 0, true) ∧ darkRun.lineClockLost = false ∧
    darkFired.settled = true ∧ (darkFired.cal.run.map (fun x => (x.fired, x.lastAt, decide (x.fired < x.total)))) = some (1, L, true) ∧ darkFired.tile.state = .ready ∧
    darkFired.lineClockLost = false ∧ 1 * darkFired.reg Obj.CAL_RUN_RATE < 1000000000 := by decide +kernel
/-- A flat run with the one line that it takes, of no energy. -/
def flatEnding : State := { idle with cal := { idle.cal with run := some { flat := true, started := 5, total := 1, fired := 1, lines := [⟨0, false, some 0, []⟩] } } }
theorem witness_cal_result : (darkRun.cal.run.map (fun x => decide (x.lines.length < x.total))) = some true ∧ flatEnding.settled = true ∧ 0 < flatEnding.reg Obj.CAL_LINES := by decide +kernel
def guarded : State := withNums idle [(Obj.CAL_COMMIT_UNPROTECTED, 1)]
def committing : State := got (execCalCommit L mb 1) charged
theorem witness_cal_commit : charged.takesWrite L mb Obj.CAL_COMMIT (leBytes 1 1) = true ∧ charged.reg Obj.PWR_HOLDUP_ENERGY = 800 ∧ guarded.settled = true ∧
    guarded.takesWrite L mb Obj.CAL_COMMIT (leBytes 1 1) = true ∧ guarded.reg Obj.PWR_HOLDUP_ENERGY < 800 ∧ idle.takesWrite L mb Obj.CAL_COMMIT (leBytes 1 1) = true ∧
    idle.reg Obj.PWR_HOLDUP_ENERGY < 800 ∧ idle.reg Obj.CAL_COMMIT_UNPROTECTED = 0 := by decide +kernel
theorem witness_cal_committed : committing.settled = true ∧ (committing.cat.long.map (fun x => (decide (x.op = .calCommit), x.id, x.rtype, Claims.canAnswer committing x.sender))) =
    some (true, Obj.CAL_COMMIT, 2, true) ∧ committing.cal.commit.isSome = true ∧ committing.cal.recordsPending = false := by decide +kernel

/-- Firmware: an image in slot 1, which does not run; a running image with SVN 5. -/
def twoImages : State := { idle with sec := { idle.sec with runs := true, slot1 := { state := .valid, image := some [] } } }
def newer : State := { idle with sec := { idle.sec with runs := true, slot0 := { state := .valid, image := some (zeros 16 ++ [5, 0]) } } }
theorem witness_firmware : idle.takesWrite L mb Obj.SEC_FW_IMAGE (zeros 128) = true ∧ twoImages.settled = true ∧ twoImages.sec.target = 1 ∧ (twoImages.sec.slot 1).state = .valid ∧
    twoImages.sec.fuse ≤ (twoImages.sec.slot 1).svn ∧ twoImages.takesWrite L mb Obj.SEC_FW_ACTIVATE (leBytes 1 1) = true ∧ twoImages.takesWrite L mb Obj.SEC_FW_ACTIVATE (leBytes 1 0) = true ∧
    idle.takesWrite L mb Obj.SEC_FW_ACTIVATE (leBytes 1 1) = true ∧ (newer.sec.slot newer.sec.target).state ≠ .valid ∧ newer.takesWrite L mb Obj.SEC_FW_ACTIVATE (leBytes 1 1) = true ∧
    newer.settled = true ∧ newer.sec.ownerKey = none ∧ newer.sec.fuse < (newer.sec.slot newer.sec.running).svn ∧ newer.takesWrite L mb Obj.SEC_SVN_COMMIT (leBytes 1 1) = true ∧
    twoImages.takesWrite L mb Obj.SEC_SVN_COMMIT (leBytes 1 1) = true ∧ (twoImages.sec.slot twoImages.sec.running).svn ≤ twoImages.sec.fuse := by decide +kernel
/-- An owner key, that of private key 2, blown and enrolled. -/
def owner : List Byte := beBytes 32 0x56cefd60d7c87c000d58ef57fa73ba4d9c0dfa08c08a7331495c2e1da3f2bd52 ++ beBytes 32 0x31b7e7e6cc8189f668535ce0f8eaf1bd6de84c182f6c8e716f780d3a970a23c3
def blowing : State := { idle with sec := { idle.sec with blowing := some owner }, cat := { idle.cat with mbState := .busy, long := some ⟨.enrol, mb, 2, Obj.SEC_OWNER_ENROL, false, 5⟩ } }
def owned : State := State.settle { idle with sec := { idle.sec with owner0 := .enrolled owner, challenge := some (zeros 32, L + 1) } }
theorem witness_enrol : idle.takesWrite L mb Obj.SEC_OWNER_ENROL (zeros 128) = true ∧ idle.enrolRefused (zeros 128) ≠ none ∧ blowing.settled = true ∧ owner.length = 64 ∧
    blowing.sec.owner0 = .unused ∧ Claims.canAnswer blowing mb = true := by decide +kernel
theorem witness_challenge : owned.settled = true ∧ owned.hearsRequest mb = true ∧ mb.word = 0 ∧ (match owned.reach false false Obj.SEC_AUTH_CHALLENGE with | .ok _ => true | _ => false) = true ∧
    owned.admits false Obj.SEC_AUTH_CHALLENGE = true ∧ owned.lockedOut = false ∧ owned.takesWrite L mb Obj.SEC_AUTH_RESPONSE (zeros 64) = true ∧
    sm2Verify owner (owned.authBytes (zeros 32) mb) (zeros 64) = false ∧ (Claims.failures owned L).length = 1 := by decide +kernel
/-- R541: the owner's signature over the challenge, the tile's serial number and the requester. -/
def response : List Byte := beBytes 32 0xbef6c6e1713ff27fbb02a855ac3d70b841066cb3bbf48317c89145ee39c5a191 ++ beBytes 32 0xd606261309d55e5583538fc6e281b4d9c200e16c5a6504d49499c16d7bedeb25
theorem witness_response : sm2Verify owner (owned.authBytes (zeros 32) mb) response = true := by decide +kernel
theorem witness_response_in_time : owned.takesWrite L mb Obj.SEC_AUTH_RESPONSE response = true ∧ owned.sec.ownerKey = some owner ∧ Nat.max owned.now L < L + 1 := by decide +kernel
def failing : State := { owned with sec := { owned.sec with fails := List.replicate 7 L } }
def granted : State := withNums { owned with sec := { owned.sec with grants := [⟨5, 100⟩, ⟨6, L + 10⟩], lockedUntil := some 100, challenge := some (zeros 32, 5) } } [(Obj.SEC_STATUS, 16)]
theorem witness_auth : failing.settled = true ∧ 8 ≤ (Claims.failures failing L).length ∧ failing.takesWrite L mb Obj.SEC_AUTH_RESPONSE (zeros 64) = true ∧
    granted.settled = true ∧ granted.lockedOut = true ∧ granted.hearsRequest mb = true ∧ granted.admits false Obj.SEC_AUTH_CHALLENGE = true ∧
    (match granted.reach false false Obj.SEC_AUTH_CHALLENGE with | .ok _ => true | _ => false) = true ∧ granted.takesWrite L mb Obj.SEC_AUTH_REVOKE (leBytes 1 1) = true ∧
    granted.sec.challenge = some (zeros 32, 5) ∧ granted.sec.lockedUntil = some 100 ∧ 100 ≤ Nat.max granted.now L := by decide +kernel

/-- Events: three held occurrences of 0x1605, and hours. -/
def holdoff3 (live : Bool) : State := { idle with log := { idle.log with holdoffs := [(0x1605, ⟨100, 3, 77, 5⟩)], live := live } }
theorem witness_holdoff : (holdoff3 true).settled = true ∧ (holdoff3 false).settled = true ∧ storeFind 0x1605 (holdoff3 true).log.holdoffs = some ⟨100, 3, 77, 5⟩ ∧ 100 ≤ Nat.max idle.now L ∧
    { holdoff3 true with log := { (holdoff3 true).log with holdoffs := [(0x1605, ⟨L + 9, 3, 77, 5⟩)] } }.settled = true ∧ Nat.max idle.now L < L + 9 := by decide +kernel
theorem witness_records : idle.takesWrite L mb Obj.EVT_LOG_CLEAR (leBytes 1 1) = true ∧ idle.takesWrite L mb Obj.EVT_FAULT_HISTORY_CLEAR (leBytes 1 1) = true ∧
    idle.tile.onAt + 3600000000000 ≤ Nat.max idle.now (10 ^ 13) ∧ idle.now < idle.tile.onAt + 3600000000000 ∧ run.settled = true ∧ run.tile.state = .run ∧
    3600000000000 ≤ run.tile.runPart + (Nat.max run.now (10 ^ 13) - run.tile.runAt) ∧ run.tile.runPart + (Nat.max run.now L - run.tile.runAt) < 3600000000000 := by decide +kernel
/-- R555: the entry of a holdoff's end has the count, the TIME and the PARAM of the first occurrence that it held. -/
theorem test_holdoff_end : (got (execEventHoldoffExpiry L 0x1605) (holdoff3 true)).log.slot (idle.log.next.toNat % 256) = ⟨5, 0x1605, 3, 77⟩ := by decide +kernel
/-- R531: SM3 of "abc". -/
theorem test_sm3 : sm3 [0x61, 0x62, 0x63] = beBytes 32 0x66c7f0f462eeedd9d1f2d46bdc10e4e24167c4875cf2f7a2297da02b8f4ba8e0 := by decide +kernel

/-! ## Commands, steps, events -/

/-- One ill-formed command for each check. -/
theorem test_ill_formed_strip :
  ([.sysNop 128, .saluAdd 0 32 0 0, .addi 0 0 32 0, .lui 128 0 0, .shiSll 0 0 0 32, .sget 0 0 21, .jr 0 32, .bany 0 8 0, .loop 0 0 0, .loop 0 0 256, .vadd 0 0 0 0 8,
   .vcmp 0 8 0 0 0 0, .vcmp 0 0 0 0 0 6, .vshiSll 0 0 0 0 16, .vgetl 0 0 0 16 false, .vslide 0 0 0 0 0 16, .predNot 0 8 0, .predFroms 0 0 32, .vmacMac 0 4 0 0 0, .vmacAclr 0 4 0,
   .vnarrowSigned 0 0 4 0 0, .vnarrowSigned 0 0 0 0 40, .ared 0 0 0 0 40, .vlut 0 0 0 0 0 16, .popLine 0 0 8, .fetch 0 0 0 0 0 false, .fetch 0 0 0 0 8 false, .waittag 0 8, .event 5 0 64 0] : List Instr).all (fun c => !c.wf) = true := by decide +kernel
theorem test_ill_formed_units :
  ([.wakePinEdge 5 256 true, .restAddressMatch 5 .i2ca 128, .strobeWindowOpen 5 4, .hallClockStop 5 8, .taskStart 5 128, .kernelBlobWrite 5 mb 16 [], .registerWrite 5 mb 16777216 [],
   .i2cbWriteTransfer 5 128 [], .ts1 5 .a 4 [], .injectionPeriodic 5 .b 4, .frameStart 5 2 0 0 .clean, .frameStart 5 0 16 0 .clean, .frameTimeout 5 8, .viewItemDone 5 0 7,
   .amChannelConfigWrite 5 mb 0x270200 [], .accPinTrigger 5 256, .amAccCapture 5 mb 8 1, .amMmClear 5 mb 4 1, .amAccOverflow 5 8 0 [], .clkOutCfg 5 mb 4 0, .eventHoldoffExpiry 5 65536] : List Instr).all (fun c => !c.wf) = true := by decide +kernel
theorem test_ill_formed_pins :
  ([.ctlNop 32 0, .ctlNop 0 4, .ldk 0 0 3 0, .ldk 0 0 0 4, .ldi 0 0 false 512, .move 0 0 7 0 0 0, .move 0 0 0 8 0 0, .move 0 0 0 0 4 0, .pinLevels 0 0 256, .shout 0 0 0 0, .shout 0 0 0 33,
   .shout 0 0 4 1, .shin 0 0 4 1 0, .await 0 0 true 1 1 false, .await 0 0 false 1 0 false, .await 0 0 false 2 4 false, .await 0 0 true 2 7 false, .go 0 0 14 0 false, .go 0 0 0 32 false,
   .pause 0 0 1024, .peTx 5 mb 32 0] : List Instr).all (fun c => !c.wf) = true := by decide +kernel
theorem test_well_formed : [Instr.sysNop 127, .saluAdd 127 31 31 31, .loop 127 31 255, .loop 0 0 1, .fetch 127 31 31 31 7 true, .await 31 3 true 2 6 true, .shout 31 3 3 32, .pause 31 3 1023].all
    (fun c => c.wf) = true := by decide +kernel
theorem test_ill_formed_stops : stops (.sysNop 128) = true ∧ stops (.loop 0 0 0) = true ∧ stops (.sysNop 127) = false := by decide +kernel

/-- A state with two commands waiting: the front is carried out, the other waits. -/
def waitingTwo : State := { idle with pending := [.lineTrigger 5, .stop 9 mb] }
theorem witness_step : waitingTwo.settled = true ∧ (match step waitingTwo with | .next u => decide (u.pending = [.stop 9 mb]) | _ => false) = true := by decide +kernel
theorem witness_idle_step : State.reset.pending = [] ∧ State.reset.settled = true := by decide +kernel
def restWake : State := { resting with pending := [.wakeAlertN 1000030] }
def agrees (s : State) : Bool :=
  match s.tile.phase with
  | .none => decide (s.tile.state ≠ .rest)
  | .draining | .passing => decide (s.tile.state = .ready)
  | _ => decide (s.tile.state = .rest)
theorem phaseAgrees_of (s : State) (h : agrees s = true) : Claims.phaseAgrees s := by
  unfold agrees at h
  unfold Claims.phaseAgrees
  split <;> simp_all
theorem witness_state_moves : agrees idle = true ∧ agrees { draining with pending := [.restDrainTimeout 1000010] } = true ∧ agrees restWake = true := by decide +kernel
theorem witness_moves_step : (match step restWake with | .next _ => true | _ => false) = true := by decide +kernel
theorem witness_defaults : Nat.beq (match Obj.find Obj.CAL_LINES with | some row => (match row.dflt with | .num n => n | _ => 0) | none => 0) 1024 = true := by decide +kernel
theorem witness_events : idle.log.live = true ∧ (Claims.holdoff idle 0x1605).ends ≤ idle.now ∧ (Claims.holdoff idle 0x1605).pending = 0 ∧
    idle.now < (Claims.holdoff (idle.event 0x1605 7) 0x1605).ends ∧
    (holdoff3 false).log.live = false :=  by decide +kernel
theorem witness_archive : Memory.wf archiveDefault State.reset.archive = true := by decide +kernel
/-- R555: the second occurrence of a code within its holdoff writes nothing; the security codes have no holdoff. -/
theorem test_holdoff : ((idle.event 0x1605 7).event 0x1605 8).log.next = idle.log.next + 1 ∧ ((idle.event 0x1701 7).event 0x1701 8).log.next = idle.log.next + 2 := by decide +kernel

end Sys2Proof.Tests
end

/-! ## Strip-engine operations on registers: SALU, VALU and the accumulators (05, R112 to R117) -/

namespace Sys2Proof.Machine

/-! ### Words: the model's arithmetic in the terms of the statements -/

section Words

/-- Limiting between two bounds in their order. -/
theorem clampInt_eq_max_min {lo hi : Int} (h : lo ≤ hi) (v : Int) : clampInt lo hi v = max lo (min hi v) := by
  unfold clampInt
  split
  · omega
  · split <;> omega

theorem mulhs_eq_ediv (a b : Word) :
    BitVec.ofInt 32 (Int.fdiv (a.toInt * b.toInt) 4294967296) = BitVec.ofInt 32 (a.toInt * b.toInt / 2 ^ 32) := by
  rw [Int.fdiv_eq_ediv_of_nonneg _ (by decide)]; rfl

theorem mul_self_eq_sq (x : Int) : x * x = x ^ 2 := by
  rw [Int.pow_succ, Int.pow_succ, Int.pow_zero, Int.one_mul]

theorem mul_eq_ofNat (a b : Word) : a * b = BitVec.ofNat 32 (a.toNat * b.toNat) :=
  BitVec.eq_of_toNat_eq (by simp)

variable {w : Nat} (a b : BitVec w)

theorem ite_toInt_lt {α : Type} (x y : α) : (if a.toInt < b.toInt then x else y) = if a.slt b then x else y := by
  simp only [BitVec.slt_eq_decide, decide_eq_true_eq]

theorem ite_toNat_lt {α : Type} (x y : α) : (if a.toNat < b.toNat then x else y) = if a.ult b then x else y := by
  simp only [BitVec.ult_eq_decide, decide_eq_true_eq]

theorem ofInt_toInt_sub : BitVec.ofInt w (a.toInt - b.toInt) = a - b :=
  BitVec.eq_of_toInt_eq (by simp [BitVec.toInt_sub])

theorem ofInt_toNat_sub : BitVec.ofInt w ((a.toNat : Int) - b.toNat) = a - b := by
  rw [Int.sub_eq_add_neg, BitVec.ofInt_add, BitVec.ofInt_neg, BitVec.ofInt_natCast, BitVec.ofInt_natCast,
    BitVec.ofNat_toNat, BitVec.ofNat_toNat, BitVec.setWidth_eq, BitVec.setWidth_eq, BitVec.sub_eq_add_neg]

/-- The distance of two integers, by which of them is the lower. -/
theorem ofNat_natAbs_sub (x y : Int) :
    BitVec.ofNat w (x - y).natAbs = if x < y then BitVec.ofInt w (y - x) else BitVec.ofInt w (x - y) := by
  rw [← BitVec.ofInt_natCast]
  split
  · congr 1; omega
  · congr 1; omega

/-- The absolute difference of unsigned values (R115). -/
theorem absDiff_unsigned :
    BitVec.ofNat w ((a.toNat : Int) - (b.toNat : Int)).natAbs = if a.ult b then b - a else a - b := by
  simp only [ofNat_natAbs_sub, ofInt_toNat_sub, Int.ofNat_lt, ite_toNat_lt]

/-- The absolute difference of signed values (R115). -/
theorem absDiff_signed : BitVec.ofNat w (a.toInt - b.toInt).natAbs = if a.slt b then b - a else a - b := by
  simp only [ofNat_natAbs_sub, ofInt_toInt_sub, ite_toInt_lt]

end Words

/-! ### Vectors and accumulators as 16 lanes (R109, R112) -/

section Lanes

variable {α : Type}

theorem lanes16_map_range (d : α) (f : Nat → α) : lanes16 d ((List.range 16).map f) = (List.range 16).map f :=
  List.map_congr_left fun i hi => by simp [List.mem_range.mp hi]

theorem lanes16_lanes16 (d : α) (l : List α) : lanes16 d (lanes16 d l) = lanes16 d l := lanes16_map_range d _

theorem vreg_eq_map_lane (g : Engine) (x : Nat) : g.vreg x = (List.range 16).map (g.lane x) :=
  calc g.vreg x
    _ = lanes16 0 (g.vreg x) := (lanes16_lanes16 0 _).symm
    _ = (List.range 16).map (g.lane x) := rfl

/-- Lane `i` of an accumulator. -/
def Engine.accLane (g : Engine) (x i : Nat) : Int := (g.areg x).getD i 0

theorem areg_eq_map_accLane (g : Engine) (x : Nat) : g.areg x = (List.range 16).map (g.accLane x) :=
  calc g.areg x
    _ = lanes16 0 (g.areg x) := (lanes16_lanes16 0 _).symm
    _ = (List.range 16).map (g.accLane x) := rfl

theorem mergeLanes_map_range (p : Half) (new old : Nat → α) :
    mergeLanes p ((List.range 16).map new) ((List.range 16).map old) =
      (List.range 16).map (fun i => if p.getLsbD i then new i else old i) := by
  rw [mergeLanes, lanesOf, List.zip_map', List.zipWith_map, List.zipWith_self]

theorem zipWith_map_range {β γ : Type} (f : α → β → γ) (x : Nat → α) (y : Nat → β) :
    List.zipWith f ((List.range 16).map x) ((List.range 16).map y) = (List.range 16).map (fun i => f (x i) (y i)) := by
  rw [List.zipWith_map, List.zipWith_self]

/-- Two vectors merged lane by lane. -/
theorem mergeLanes_vreg (g : Engine) (p : Half) (new : Nat → Half) (x : Nat) :
    mergeLanes p ((List.range 16).map new) (g.vreg x) = lanesUnder p new (g.lane x) := by
  rw [vreg_eq_map_lane, mergeLanes_map_range, lanesUnder]

theorem zipWith_vreg (g : Engine) (f : Half → Half → Half) (x y : Nat) :
    List.zipWith f (g.vreg x) (g.vreg y) = (List.range 16).map (fun i => f (g.lane x i) (g.lane y i)) := by
  rw [vreg_eq_map_lane g x, vreg_eq_map_lane g y, zipWith_map_range]

theorem zipWith_areg_vreg (g : Engine) (f : Int → Half → Int) (x y : Nat) :
    List.zipWith f (g.areg x) (g.vreg y) = (List.range 16).map (fun i => f (g.accLane x i) (g.lane y i)) := by
  rw [areg_eq_map_accLane, vreg_eq_map_lane, zipWith_map_range]

theorem macLanes_eq_map (g : Engine) (rd ra rb : Nat) (f : Int → Half → Half → Int) :
    g.macLanes rd ra rb f =
      (List.range 16).map (fun i => f (g.accLane rd i) (g.lane ra i) (g.lane rb i)) := by
  rw [Engine.macLanes, areg_eq_map_accLane, vreg_eq_map_lane g ra, vreg_eq_map_lane g rb, List.zip_map',
    zipWith_map_range]

end Lanes

/-! ### Results of an issued instruction -/

section Results

variable (g : Engine) (srcs : List Nat) (dsts : List (Nat × Nat)) (rd : Nat)

/-- Whatever an issued instruction does to the registers and ESTAT, the engine goes on to the next one. -/
theorem wentOn_next (extra : Nat) (s : Store Word) (v : Store (List Half)) (a : Store (List Int)) (p : Store Half) (estat : Nat) :
    wentOn srcs extra g ({ g.issued srcs extra dsts with s := s, v := v, a := a, p := p, estat := estat } : Engine).next :=
  ⟨rfl, rfl, rfl⟩

/-- A vector written and the next instruction taken up. -/
theorem vectorResult_setV (extra : Nat) {l : List Half} {p : Half} {new old : Nat → Half} (hl : l = lanesUnder p new old) :
    vectorResult srcs extra rd (lanesUnder p new old) g (((g.issued srcs extra dsts).setV rd l).next) := by
  refine ⟨wentOn_next g srcs dsts extra _ _ _ _ _, fun x => ?_, rfl, rfl, rfl, rfl⟩
  rw [next_vreg, vreg_setV, hl, lanesUnder, lanes16_map_range, issued_vreg]

theorem stick_eq (k : Nat) (c : Bool) : g.stick k c = { g with estat := if c then withBit g.estat k true else g.estat } := by
  cases c <;> rfl

theorem clamp_eq_acc40 (x : Int) : clampInt acc40Min acc40Max x = Claims.acc40 x :=
  clampInt_eq_max_min (by decide) x

/-- An accumulator value lies at a limit after it was limited exactly if it reached or passed it (R117). -/
theorem reaches_limit_eq (x : Int) :
    (decide (acc40Max ≤ x) || decide (x ≤ acc40Min)) = (Claims.acc40 x == 2 ^ 39 - 1 || Claims.acc40 x == -2 ^ 39) := by
  rw [Bool.eq_iff_iff]
  simp only [Bool.or_eq_true, decide_eq_true_eq, beq_iff_eq, Claims.acc40]
  unfold acc40Max acc40Min
  omega

/-- Does an active lane reach a limit? -/
theorem any_reaches_limit (p : Half) (raw : Nat → Int) :
    ((lanesOf p).zip ((List.range 16).map raw)).any (fun x => x.1 && (decide (acc40Max ≤ x.2) || decide (x.2 ≤ acc40Min))) =
      (List.range 16).any (fun i => p.getLsbD i && (Claims.acc40 (raw i) == 2 ^ 39 - 1 || Claims.acc40 (raw i) == -2 ^ 39)) := by
  simp only [lanesOf, List.zip_map', List.any_map, Function.comp_def, reaches_limit_eq]

/-- The lanes that an accumulator takes from new values under a predicate (R112, R117). -/
theorem mergeLanes_limited (p : Half) (raw : Nat → Int) :
    mergeLanes p (((List.range 16).map raw).map (clampInt acc40Min acc40Max)) (g.areg rd) =
      (List.range 16).map (fun i => if p.getLsbD i then Claims.acc40 (raw i) else g.accLane rd i) := by
  simp only [areg_eq_map_accLane g rd, List.map_map, mergeLanes_map_range, Function.comp_def, clamp_eq_acc40]

/-- An accumulator written, ACC_SAT recorded, and the next instruction taken up. -/
theorem accResult_setA (pg : Nat) (raw : Nat → Int) (l : List Int) (sat : Bool)
    (hl : l = (List.range 16).map (fun i => if (g.preg pg).getLsbD i then Claims.acc40 (raw i) else g.accLane rd i))
    (hsat : sat = (List.range 16).any (fun i => (g.preg pg).getLsbD i &&
      (Claims.acc40 (raw i) == 2 ^ 39 - 1 || Claims.acc40 (raw i) == -2 ^ 39))) :
    Claims.accResult srcs rd pg raw g ((((g.issued srcs 0 dsts).setA rd l).stick 0 sat).next) := by
  rw [stick_eq, hsat]
  refine ⟨wentOn_next g srcs dsts 0 _ _ _ _ _, fun x => ?_, rfl, rfl, rfl, rfl⟩
  calc ((g.issued srcs 0 dsts).setA rd l).areg x
      = if x = rd then lanes16 0 l else g.areg x := areg_setA _ rd x l
    _ = _ := by rw [hl, lanes16_map_range]; rfl

end Results

/-! ### Answers, one lemma for each operation that instructions share -/

section Answers

variable {s : State} {e rd ra rb pg : Nat} {c : Instr}

/-- The outcome of a scalar operation on two registers (R114). -/
theorem answers_salu {l : Nat} {f : Word → Word → Word} (hd : rd < 32) (ha : ra < 32) (hb : rb < 32)
    (hs : s.settled = true) (hi : s.issues e [rS ra, rS rb] = true)
    (hc : exec c s = s.runOn (allBelow [(e, 128), (rd, 32), (ra, 32), (rb, 32)]) s.now (fun s => s.salu e rd ra rb l f)) :
    answers c s (fun u => onlyEngine e s u ∧
      scalarResult [rS ra, rS rb] 0 rd (f ((s.engine e).sreg ra) ((s.engine e).sreg rb)) (s.engine e) (u.engine e)) :=
  answers_instr hs hi (by simp [allBelow, (issues_task hi).1, hd, ha, hb]) hc (scalarResult_setS _ _ _ _ _ _)

/-- The outcome of an instruction that writes a vector of lanes chosen by a predicate (R112). -/
theorem answers_lanes {srcs : List Nat} {dsts : List (Nat × Nat)} {b : Bool} {f : Engine → List Half} {p : Half}
    {new old : Nat → Half} (hb : b = true) (hs : s.settled = true) (hi : s.issues e srcs = true)
    (hc : exec c s = s.runOn b s.now (fun s => s.instr e srcs 0 dsts (fun g => (g.setV rd (f g)).next)))
    (hf : f ((s.engine e).issued srcs 0 dsts) = lanesUnder p new old) :
    answers c s (fun u => onlyEngine e s u ∧
      vectorResult srcs 0 rd (lanesUnder p new old) (s.engine e) (u.engine e)) :=
  answers_instr hs hi hb hc (vectorResult_setV _ _ _ _ _ hf)

/-- The outcome of a lane operation on two vectors (R115). -/
theorem answers_valu {f : Half → Half → Half} (hd : rd < 32) (ha : ra < 32) (hb : rb < 32) (hp : pg < 8)
    (hs : s.settled = true) (hi : s.issues e [rV ra, rV rb, rP pg] = true)
    (hc : exec c s = s.runOn (allBelow [(e, 128), (rd, 32), (ra, 32), (rb, 32), (pg, 8)]) s.now
      (fun s => s.valu e rd ra rb pg f)) :
    answers c s (fun u => onlyEngine e s u ∧
      vectorResult [rV ra, rV rb, rP pg] 0 rd
        (lanesUnder ((s.engine e).preg pg) (fun i => f ((s.engine e).lane ra i) ((s.engine e).lane rb i)) ((s.engine e).lane rd))
        (s.engine e) (u.engine e)) :=
  answers_lanes (by simp [allBelow, (issues_task hi).1, hd, ha, hb, hp]) hs hi hc
    (by rw [zipWith_vreg, mergeLanes_vreg]; rfl)

/-- The outcome of an accumulator operation, from the values of its lanes before they are limited (R117). -/
theorem answers_vmac {srcs : List Nat} {b : Bool} {f : Engine → List Int} {raw : Nat → Int} (hb : b = true)
    (hs : s.settled = true) (hi : s.issues e (rP pg :: rM rd :: srcs) = true)
    (hc : exec c s = s.runOn b s.now (fun s => s.vmac e rd pg srcs f))
    (hf : f ((s.engine e).issued (rP pg :: rM rd :: srcs) 0 [(rA rd, 4), (rM rd, 1)]) = (List.range 16).map raw) :
    answers c s (fun u => onlyEngine e s u ∧
      Claims.accResult (rP pg :: rM rd :: srcs) rd pg raw (s.engine e) (u.engine e)) :=
  answers_instr hs hi hb hc
    (accResult_setA _ _ _ _ _ _ _ _ (hf ▸ mergeLanes_limited _ _ _ _) (hf ▸ any_reaches_limit _ _))

end Answers

/-! ### The tables of functions: each instruction runs as the shared operation with the function of its row -/

section Tables

/-- An instruction is a scalar operation of latency `l` with the function `f`. -/
def RunsAsSalu (l : Nat) (c : Nat → Nat → Nat → Nat → Instr) (f : Word → Word → Word) : Prop :=
  ∀ e rd ra rb s, exec (c e rd ra rb) s =
    s.runOn (allBelow [(e, 128), (rd, 32), (ra, 32), (rb, 32)]) s.now (fun s => s.salu e rd ra rb l f)

/-- An instruction is a lane operation with the function `f`. -/
def RunsAsValu (c : Nat → Nat → Nat → Nat → Nat → Instr) (f : Half → Half → Half) : Prop :=
  ∀ e rd ra rb pg s, exec (c e rd ra rb pg) s =
    s.runOn (allBelow [(e, 128), (rd, 32), (ra, 32), (rb, 32), (pg, 8)]) s.now (fun s => s.valu e rd ra rb pg f)

/-- An instruction is an accumulator operation on two vectors with the function `f`. -/
def RunsAsVmac (c : Nat → Nat → Nat → Nat → Nat → Instr) (f : Int → Half → Half → Int) : Prop :=
  ∀ e rd ra rb pg s, exec (c e rd ra rb pg) s =
    s.runOn (allBelow [(e, 128), (rd, 4), (ra, 32), (rb, 32), (pg, 8)]) s.now
      (fun s => s.vmac e rd pg [rV ra, rV rb] (fun g => g.macLanes rd ra rb f))

theorem RunsAsSalu.congr {l : Nat} {c : Nat → Nat → Nat → Nat → Instr} {f f' : Word → Word → Word}
    (h : RunsAsSalu l c f) (hf : ∀ a b, f a b = f' a b) : RunsAsSalu l c f' :=
  (funext fun a => funext (hf a) : f = f') ▸ h

theorem RunsAsValu.congr {c : Nat → Nat → Nat → Nat → Nat → Instr} {f f' : Half → Half → Half}
    (h : RunsAsValu c f) (hf : ∀ a b, f a b = f' a b) : RunsAsValu c f' :=
  (funext fun a => funext (hf a) : f = f') ▸ h

theorem RunsAsVmac.congr {c : Nat → Nat → Nat → Nat → Nat → Instr} {f f' : Int → Half → Half → Int}
    (h : RunsAsVmac c f) (hf : ∀ x a b, f x a b = f' x a b) : RunsAsVmac c f' :=
  (funext fun x => funext fun a => funext (hf x a) : f = f') ▸ h

/-- The rows that are not the model's by definition: the products, the comparisons, the minima and maxima (R114). -/
theorem runsAs_salu : ∀ p ∈ Claims.salu, ∃ l, RunsAsSalu l p.1 p.2 := by
  simp only [Claims.salu, List.forall_mem_cons]
  refine ⟨⟨1, ?add⟩, ⟨1, ?sub⟩, ⟨1, ?and⟩, ⟨1, ?or⟩, ⟨1, ?xor⟩, ⟨1, ?sll⟩, ⟨1, ?srl⟩, ⟨1, ?sra⟩,
    ⟨3, .congr ?mul mul_eq_ofNat⟩, ⟨3, .congr ?mulhs mulhs_eq_ediv⟩, ⟨3, ?mulhu⟩,
    ⟨1, .congr ?slt fun a b => ite_toInt_lt a b 1 0⟩, ⟨1, .congr ?sltu fun a b => ite_toNat_lt a b 1 0⟩,
    ⟨1, .congr ?min fun a b => ite_toInt_lt a b a b⟩, ⟨1, .congr ?max fun a b => ite_toInt_lt a b b a⟩,
    ⟨1, .congr ?minu fun a b => ite_toNat_lt a b a b⟩, ⟨1, .congr ?maxu fun a b => ite_toNat_lt a b b a⟩,
    List.forall_mem_nil _⟩ <;>
  exact fun _ _ _ _ _ => rfl

/-- The rows that are not the model's by definition: the signed saturations, the absolute differences, the minima and maxima
(R115). -/
theorem runsAs_valu : ∀ p ∈ Claims.valu, RunsAsValu p.1 p.2 := by
  simp only [Claims.valu, List.forall_mem_cons]
  refine ⟨?add, ?sub, .congr ?adds fun a b => congrArg _ (clampInt_eq_max_min (by decide) (a.toInt + b.toInt)),
    .congr ?subs fun a b => congrArg _ (clampInt_eq_max_min (by decide) (a.toInt - b.toInt)), ?addu, ?subu,
    .congr ?absdu absDiff_unsigned, .congr ?absds absDiff_signed,
    .congr ?min fun a b => ite_toInt_lt a b a b, .congr ?max fun a b => ite_toInt_lt a b b a,
    .congr ?minu fun a b => ite_toNat_lt a b a b, .congr ?maxu fun a b => ite_toNat_lt a b b a,
    ?and, ?or, ?xor, ?sll, ?srl, ?sra, ?srar, ?avgu, List.forall_mem_nil _⟩ <;>
  exact fun _ _ _ _ _ _ => rfl

/-- The rows that are not the model's by definition: the unsigned products and the squared difference (R117). -/
theorem runsAs_vmac : ∀ p ∈ Claims.vmac, RunsAsVmac p.1 p.2 := by
  simp only [Claims.vmac, List.forall_mem_cons]
  refine ⟨?mac, .congr ?macu fun x a b => congrArg (x + ·) (Int.natCast_mul a.toNat b.toNat), ?macsu, ?msub, ?mul,
    .congr ?mulu fun _ a b => Int.natCast_mul a.toNat b.toNat,
    .congr ?sqd fun x a b => congrArg (x + ·) (mul_self_eq_sq (a.toInt - b.toInt)), ?aadd, ?aaddu, List.forall_mem_nil _⟩ <;>
  exact fun _ _ _ _ _ _ => rfl

end Tables

/-! ### The obligations -/

/-- Settles O8: every row of R114 runs as a SALU operation, whose outcome is the same for all of them. -/
theorem scalarOperationResults : Obligations.ScalarOperationResults := by
  unfold Obligations.ScalarOperationResults
  intro p hp s e rd ra rb hd ha hb hs hi
  obtain ⟨l, hc⟩ := runsAs_salu p hp
  exact answers_salu hd ha hb hs hi (hc e rd ra rb s)

/-- Settles O10: every row of R115 runs as a VALU operation; VSEL chooses between the lanes of its two vectors. -/
theorem laneOperationResults : Obligations.LaneOperationResults := by
  unfold Obligations.LaneOperationResults
  refine ⟨?valu, ?vsel⟩
  case valu =>
    intro p hp s e rd ra rb pg hd ha hb hg hs hi
    exact answers_valu hd ha hb hg hs hi (runsAs_valu p hp e rd ra rb pg s)
  case vsel =>
    intro s e rd ra rb pg hd ha hb hg hs hi
    exact answers_lanes (by simp [allBelow, (issues_task hi).1, hd, ha, hb, hg]) hs hi rfl
      (by rw [vreg_eq_map_lane _ ra, mergeLanes_vreg]; rfl)

/-- Settles O13: VMAC, VMACS and ACLR are accumulator operations that differ in the lanes' values before the limit. -/
theorem accumulatorResults : Obligations.AccumulatorResults := by
  unfold Obligations.AccumulatorResults
  refine ⟨?vmac, ?vmacs, ?aclr⟩
  case vmac =>
    intro p hp s e rd ra rb pg hd ha hb hg hs hi
    exact answers_vmac (by simp [allBelow, (issues_task hi).1, hd, ha, hb, hg]) hs hi (runsAs_vmac p hp e rd ra rb pg s)
      (macLanes_eq_map _ _ _ _ _)
  case vmacs =>
    intro signed s e rd ra rb pg hd ha hb hg hs hi
    have hw : allBelow [(e, 128), (rd, 4), (ra, 32), (rb, 32), (pg, 8)] = true := by
      simp [allBelow, (issues_task hi).1, hd, ha, hb, hg]
    cases signed with
    | true => exact answers_vmac hw hs hi rfl (zipWith_areg_vreg _ _ _ _)
    | false => exact answers_vmac hw hs hi rfl (zipWith_areg_vreg _ _ _ _)
  case aclr =>
    intro s e rd pg hd hg hs hi
    exact answers_vmac (by simp [allBelow, (issues_task hi).1, hd, hg]) hs hi rfl rfl

end Sys2Proof.Machine
